-- ==== Sys2Proof/Word.lean ====
section
/-! DEFINITION. The byte of the management ports and of the spoke words, and the numbers that name the
parts of the machine: zones, operators, sectors, alarm classes, spokes, positions, slots and plan entries. -/

namespace Sys2Proof

/-- A byte as a bus partner sends or receives it (chapter 11). -/
abbrev Byte := BitVec 8

/-- A zone number 0..63; zone z hangs on spoke z div 8 at position z mod 8 (R1, section 1.1). -/
abbrev ZoneNo := Fin 64

/-- An operator number 0..3 (R7). -/
abbrev OpNo := Fin 4

/-- A sector number 0..7 of one operator (R7). -/
abbrev SectorNo := Fin 8

/-- An alarm class number 0..5: TEMP_WARN, TEMP_SHUT, REFLECT, SUPPLY_LOW, SUPPLY_HIGH, OPTIC_LOW (section 4.1). -/
abbrev ClassNo := Fin 6

/-- A spoke number 0..7. -/
abbrev SpokeNo := Fin 8

/-- A remote unit's position 0..7 on its spoke. -/
abbrev PosNo := Fin 8

/-- A downlink slot 0..31 of a cycle (section 2.2). -/
abbrev SlotNo := Fin 32

/-- The number 0..63 of a slot plan entry within its spoke (R31). -/
abbrev EntryNo := Fin 64

end Sys2Proof
end

