-- ==== Sys2Proof/Config.lean ====
section
/-! DEFINITION. The fixed figures of the AP-648, each with the rule that states it, and the one free value: which
port's clock line falls next, which its controller decides and no rule says. -/

namespace Sys2Proof

/-- The largest cycle count; a superframe has 64 cycles (R23, R27). -/
def Config.lastCycle : Nat := 63
/-- The largest superframe count, after which it returns to 0 (R23, R27). -/
def Config.lastSuperframe : Nat := 65535
/-- The largest power request of a sector and of a preview, in mW (R7, R12, R147). -/
def Config.maxRequest : Nat := 8000
/-- The largest share, and the largest sum of the four shares, in per mille (R123). -/
def Config.maxShare : Nat := 1000
/-- The largest sector load and the largest threshold: 64 zones at 65472 each (R7, R92, R100). -/
def Config.maxLoad : Nat := 4190208
/-- The largest load cell: 64 times a sample of 1023 (R84). -/
def Config.maxCell : Nat := 65472
/-- The unit of a cell: 1/64 of an activity count (R84, R87). -/
def Config.cellScale : Nat := 64
/-- The divisor of the filter (R87) and the largest filter weight, period and window (R88, R101, R102). -/
def Config.filterOne : Nat := 4096
/-- Entries a link history holds (R49, R53). -/
def Config.historyLength : Nat := 16
/-- The missed tally that takes an UP link to WEAK (R53). -/
def Config.weakTally : Nat := 4
/-- The missed tally at or below which a WEAK link returns to UP (R53). -/
def Config.restoreTally : Nat := 1
/-- Good words in a row that take a link from SEARCH to UP (R52). -/
def Config.goodRunUp : Nat := 2
/-- The maximum of the saturating 8-bit counts: consecutive-missed, loss and shadow (R34, R49). -/
def Config.max8 : Nat := 255
/-- The maximum of the stale-discard count (R141). -/
def Config.max16 : Nat := 65535
/-- Cycle starts that a link stays LOST (R56). -/
def Config.dwellCycles : Nat := 64
/-- The least and largest lost limit (R49, R50). -/
def Config.minLostLimit : Nat := 2
def Config.maxLostLimit : Nat := 32
/-- The slow and the fast retry time, in superframes (R64). -/
def Config.slowTime : Nat := 64
def Config.fastTime : Nat := 4
/-- The derate factor that means no derate (R74). -/
def Config.noDerate : Nat := 256
/-- Proposal ids run 0..255 and wrap (R97). -/
def Config.idCount : Nat := 256
/-- Records a notice queue holds (R157). -/
def Config.noticeCapacity : Nat := 32
/-- The largest count of one READ NOTICES (R158). -/
def Config.maxNoticeRead : Nat := 8
/-- Reallocations in a row that the arbiter starts before a waiting preview (R141, R143). -/
def Config.maxConsecutive : Nat := 4
/-- Neighbours a zone may list (R1, R5). -/
def Config.maxNeighbours : Nat := 4
/-- The largest run of a run read: READ SHADOW COUNTS, READ LOAD CELLS, READ SETTLE COUNTS, READ GRANTS (R48, R94, R119, R137). -/
def Config.maxRun : Nat := 16
/-- The largest count of one READ PLAN ENTRIES (R179). -/
def Config.maxPlanRead : Nat := 6
/-- The largest payload length of a request frame (R166). -/
def Config.maxPayload : Nat := 30
/-- The start marker of a reply (section 11.1). -/
def Config.startMarker : Byte := 0xA5
/-- The fill byte and the wait byte on MISO (R166, R168, section 11.1). -/
def Config.fillByte : Byte := 0x00
def Config.waitByte : Byte := 0xFF
/-- The part identity and revision that READ STATUS returns (R182). -/
def Config.partIdentity : List Byte := [0x06, 0x48]
def Config.partRevision : Byte := 0x01

/-- FREE VALUE (log entry 9): the number of the port whose SCLK falls at the n-th falling edge of a header byte, all ports
counted together in the order VN, OP0, OP1, OP2, OP3. Each controller clocks its own port, at a time of its choosing (R164). -/
opaque Config.clockedPort : Nat → Fin 5

end Sys2Proof
end

