-- ==== Sys2Proof/Syntax.lean ====
section
/-! DEFINITION. The commands of the AP-648: one constructor of `Instr` for each row of
spec/opcode_table.json. A request row stands for the completion of a request frame's check byte on a port
(R166) and carries the port and the payload bytes; an event row carries what names the event. -/

namespace Sys2Proof

/-- The five management ports (R164, section 11.3 "port"). -/
inductive Port where
  | vn
  | op (o : OpNo)
deriving DecidableEq, Repr

/-- The reactions that the blocks take at one cycle start: the map latch (R15), the plan commit (R36), slot
filling (R34), the dwell count (R56), the Protection Unit's timers (R71) and the Spread Engine's reaction as a
whole (R104). -/
inductive Reaction where
  | latch
  | commit
  | fill
  | dwell
  | protect
  | spread
deriving DecidableEq, Repr

/-- The 54 requests of section 11.2, each under its own name. -/
inductive Req where
  | readStatus
  | readNotices
  | readQueueLengths
  | start
  | stop
  | freeze
  | commitPlan
  | abortCommit
  | readTransport
  | readShadowCounts
  | setPlanWindow
  | writePlanEntries
  | readPlanEntries
  | provisionZone
  | retireZone
  | setBudget
  | setNeighbours
  | pinZone
  | moveZone
  | readZone
  | admitOperator
  | suspendOperator
  | releaseOperator
  | readOperator
  | setSectorEnable
  | setSectorPower
  | setLostLimit
  | resetLossCount
  | readLink
  | setClassMode
  | setDerateLevel
  | faultClear
  | readClassSettings
  | readAlarmSummary
  | readProtection
  | setFilterWeight
  | readLoadCells
  | readSectorLoads
  | setPolicy
  | setSilenceRule
  | setThresholds
  | setEvaluationPeriod
  | setProposalWindow
  | accept
  | decline
  | setSpreadTimes
  | readSpreadState
  | readSettleCounts
  | setShare
  | readPower
  | readShares
  | readGrants
  | preview
  | readEngine
deriving DecidableEq, Repr

/-- The commands: one constructor per row of spec/opcode_table.json. -/
inductive Instr where
  /-- RSTN. Device reset input low (R23, chapter tables of values after RSTn). -/
  | rstn
  /-- CHIP_SELECT_ASSERT. Assertion of port p's chip-select (R166). -/
  | chipSelectAssert (p : Port)
  /-- CHIP_SELECT_RELEASE. Release of port p's chip-select (R170, R172). -/
  | chipSelectRelease (p : Port)
  /-- FRAME_LENGTH_ERROR. A length byte above 30 completes on port p (R169). -/
  | frameLengthError (p : Port)
  /-- CHECK_FAILED. The check byte completes on port p of a frame with bad parity or a bad sum (R171). -/
  | checkFailed (p : Port)
  /-- UNKNOWN_REQUEST. The check byte completes on port p of a good frame whose code names no request (R173). -/
  | unknownRequest (p : Port)
  /-- REPLY_START. The reply of port p is assembled and its start marker follows (R168). -/
  | replyStart (p : Port)
  /-- READ_STATUS, completed on port p with this payload. -/
  | readStatus (p : Port) (payload : List Byte)
  /-- READ_NOTICES, completed on port p with this payload. -/
  | readNotices (p : Port) (payload : List Byte)
  /-- READ_QUEUE_LENGTHS, completed on port p with this payload. -/
  | readQueueLengths (p : Port) (payload : List Byte)
  /-- START, completed on port p with this payload. -/
  | start (p : Port) (payload : List Byte)
  /-- STOP, completed on port p with this payload. -/
  | stop (p : Port) (payload : List Byte)
  /-- FREEZE, completed on port p with this payload. -/
  | freeze (p : Port) (payload : List Byte)
  /-- COMMIT_PLAN, completed on port p with this payload. -/
  | commitPlan (p : Port) (payload : List Byte)
  /-- ABORT_COMMIT, completed on port p with this payload. -/
  | abortCommit (p : Port) (payload : List Byte)
  /-- READ_TRANSPORT, completed on port p with this payload. -/
  | readTransport (p : Port) (payload : List Byte)
  /-- READ_SHADOW_COUNTS, completed on port p with this payload. -/
  | readShadowCounts (p : Port) (payload : List Byte)
  /-- SET_PLAN_WINDOW, completed on port p with this payload. -/
  | setPlanWindow (p : Port) (payload : List Byte)
  /-- WRITE_PLAN_ENTRIES, completed on port p with this payload. -/
  | writePlanEntries (p : Port) (payload : List Byte)
  /-- READ_PLAN_ENTRIES, completed on port p with this payload. -/
  | readPlanEntries (p : Port) (payload : List Byte)
  /-- PROVISION_ZONE, completed on port p with this payload. -/
  | provisionZone (p : Port) (payload : List Byte)
  /-- RETIRE_ZONE, completed on port p with this payload. -/
  | retireZone (p : Port) (payload : List Byte)
  /-- SET_BUDGET, completed on port p with this payload. -/
  | setBudget (p : Port) (payload : List Byte)
  /-- SET_NEIGHBOURS, completed on port p with this payload. -/
  | setNeighbours (p : Port) (payload : List Byte)
  /-- PIN_ZONE, completed on port p with this payload. -/
  | pinZone (p : Port) (payload : List Byte)
  /-- MOVE_ZONE, completed on port p with this payload. -/
  | moveZone (p : Port) (payload : List Byte)
  /-- READ_ZONE, completed on port p with this payload. -/
  | readZone (p : Port) (payload : List Byte)
  /-- ADMIT, completed on port p with this payload. -/
  | admitOperator (p : Port) (payload : List Byte)
  /-- SUSPEND, completed on port p with this payload. -/
  | suspendOperator (p : Port) (payload : List Byte)
  /-- RELEASE, completed on port p with this payload. -/
  | releaseOperator (p : Port) (payload : List Byte)
  /-- READ_OPERATOR, completed on port p with this payload. -/
  | readOperator (p : Port) (payload : List Byte)
  /-- SET_SECTOR_ENABLE, completed on port p with this payload. -/
  | setSectorEnable (p : Port) (payload : List Byte)
  /-- SET_SECTOR_POWER, completed on port p with this payload. -/
  | setSectorPower (p : Port) (payload : List Byte)
  /-- SET_LOST_LIMIT, completed on port p with this payload. -/
  | setLostLimit (p : Port) (payload : List Byte)
  /-- RESET_LOSS_COUNT, completed on port p with this payload. -/
  | resetLossCount (p : Port) (payload : List Byte)
  /-- READ_LINK, completed on port p with this payload. -/
  | readLink (p : Port) (payload : List Byte)
  /-- SET_CLASS_MODE, completed on port p with this payload. -/
  | setClassMode (p : Port) (payload : List Byte)
  /-- SET_DERATE_LEVEL, completed on port p with this payload. -/
  | setDerateLevel (p : Port) (payload : List Byte)
  /-- FAULT_CLEAR, completed on port p with this payload. -/
  | faultClear (p : Port) (payload : List Byte)
  /-- READ_CLASS_SETTINGS, completed on port p with this payload. -/
  | readClassSettings (p : Port) (payload : List Byte)
  /-- READ_ALARM_SUMMARY, completed on port p with this payload. -/
  | readAlarmSummary (p : Port) (payload : List Byte)
  /-- READ_PROTECTION, completed on port p with this payload. -/
  | readProtection (p : Port) (payload : List Byte)
  /-- SET_FILTER_WEIGHT, completed on port p with this payload. -/
  | setFilterWeight (p : Port) (payload : List Byte)
  /-- READ_LOAD_CELLS, completed on port p with this payload. -/
  | readLoadCells (p : Port) (payload : List Byte)
  /-- READ_SECTOR_LOADS, completed on port p with this payload. -/
  | readSectorLoads (p : Port) (payload : List Byte)
  /-- SET_POLICY, completed on port p with this payload. -/
  | setPolicy (p : Port) (payload : List Byte)
  /-- SET_SILENCE_RULE, completed on port p with this payload. -/
  | setSilenceRule (p : Port) (payload : List Byte)
  /-- SET_THRESHOLDS, completed on port p with this payload. -/
  | setThresholds (p : Port) (payload : List Byte)
  /-- SET_EVALUATION_PERIOD, completed on port p with this payload. -/
  | setEvaluationPeriod (p : Port) (payload : List Byte)
  /-- SET_PROPOSAL_WINDOW, completed on port p with this payload. -/
  | setProposalWindow (p : Port) (payload : List Byte)
  /-- ACCEPT, completed on port p with this payload. -/
  | accept (p : Port) (payload : List Byte)
  /-- DECLINE, completed on port p with this payload. -/
  | decline (p : Port) (payload : List Byte)
  /-- SET_SPREAD_TIMES, completed on port p with this payload. -/
  | setSpreadTimes (p : Port) (payload : List Byte)
  /-- READ_SPREAD_STATE, completed on port p with this payload. -/
  | readSpreadState (p : Port) (payload : List Byte)
  /-- READ_SETTLE_COUNTS, completed on port p with this payload. -/
  | readSettleCounts (p : Port) (payload : List Byte)
  /-- SET_SHARE, completed on port p with this payload. -/
  | setShare (p : Port) (payload : List Byte)
  /-- READ_POWER, completed on port p with this payload. -/
  | readPower (p : Port) (payload : List Byte)
  /-- READ_SHARES, completed on port p with this payload. -/
  | readShares (p : Port) (payload : List Byte)
  /-- READ_GRANTS, completed on port p with this payload. -/
  | readGrants (p : Port) (payload : List Byte)
  /-- PREVIEW, completed on port p with this payload. -/
  | preview (p : Port) (payload : List Byte)
  /-- READ_ENGINE, completed on port p with this payload. -/
  | readEngine (p : Port) (payload : List Byte)
  /-- STREAM_UP. The ingress framer of stream (o, sec) reports lock (R41). -/
  | streamUp (o : OpNo) (sec : SectorNo)
  /-- STREAM_DOWN. The ingress framer of stream (o, sec) reports loss (R41). -/
  | streamDown (o : OpNo) (sec : SectorNo)
  /-- UPLINK_STATUS_WORD. The end of the uplink slot of position pos on a spoke; `word` is the bytes that arrived, none for no word (R43, R44, R184). -/
  | uplinkStatusWord (spoke : SpokeNo) (pos : PosNo) (word : List Byte)
  /-- CYCLE_START. A boundary of the cycle timer; `order` is the order in which the blocks take their reactions (R27, R17, R42, R104). -/
  | cycleStart (order : List Reaction)
  /-- DRAIN_END. The boundary that ends the draining (R28). -/
  | drainEnd
  /-- LOST_DWELL_EXPIRY. The dwell count of zone z's LOST link reaches 64 (R56). -/
  | lostDwellExpiry (z : ZoneNo)
  /-- RETRY_EXPIRY. The retry timer of class c at zone z reaches 0 (R71). -/
  | retryExpiry (z : ZoneNo) (c : ClassNo)
  /-- PROPOSAL_EXPIRY. The remaining count of operator o's open proposal reaches 0 (R112). -/
  | proposalExpiry (o : OpNo)
  /-- EVALUATION. The evaluation counter of operator o reaches P (R106, R107). -/
  | evaluation (o : OpNo)
  /-- REALLOCATION_COMPLETION. A reallocation completes (R145). -/
  | reallocationCompletion
  /-- PREVIEW_COMPLETION. A preview completes (R149). -/
  | previewCompletion
  /-- MARK_PULSE_END. The MARK pulse ends after its width (R40). -/
  | markPulseEnd
  /-- HEADER_BYTE_COMPLETE. The header byte of a frame completes on port p (R167). -/
  | headerByteComplete (p : Port)
  /-- REPLY_END. The reply check byte of port p has been sent (R168). -/
  | replyEnd (p : Port)
deriving DecidableEq, Repr

end Sys2Proof
end

