-- ==== Sys2Proof/Machine/State.lean ====
section
/-! DEFINITION. The state of the AP-648 as plain data: every piece of state the spec gives each block, the
queue of waiting commands, and the state after RSTn. -/

namespace Sys2Proof.Machine

open Sys2Proof

/-- An operator's standing as a tenant (R7). -/
inductive Tenancy where
  | absent
  | active
  | suspended
deriving DecidableEq, Repr

/-- Spreading policies (R7, R98). -/
inductive Policy where
  | auto
  | consult
  | fixed
deriving DecidableEq, Repr

/-- Silence rules (R7, R99). -/
inductive SilenceRule where
  | apply
  | drop
deriving DecidableEq, Repr

/-- Transport states (R23). -/
inductive Transport where
  | stopped
  | running
  | draining
deriving DecidableEq, Repr

/-- Link states (R49). -/
inductive LinkState where
  | idle
  | search
  | up
  | weak
  | lost
deriving DecidableEq, Repr

/-- Class modes (R64). -/
inductive ClassMode where
  | derate
  | latch
  | retrySlow
  | retryFast
  | report
  | ignore
deriving DecidableEq, Repr

/-- The state of an alarm class at a zone. The retry timer is present in RECOVERING and absent in every other
state, so RECOVERING holds it (R63). -/
inductive ProtState where
  | idle
  | active
  | recovering (left : Nat)
  | held
deriving DecidableEq, Repr

/-- Evaluation outcomes; `notRun` is the value NONE (R97). -/
inductive EvalOutcome where
  | notRun
  | noPressure
  | noCandidate
  | latchPending
  | proposalOpen
  | moved
  | proposed
deriving DecidableEq, Repr

/-- The kinds of notice (section 9.2). -/
inductive NoticeKind where
  | tenancyChanged
  | moveDone
  | shadowed
  | streamChanged
  | linkWeak
  | linkRestored
  | zoneLive
  | zoneDark
  | alarmRaised
  | alarmCleared
  | zoneMuted
  | zoneUnmuted
  | derateChanged
  | proposal
  | proposalExpired
  | proposalAnswered
  | proposalWithdrawn
  | grantShort
  | grantFull
  | previewResult
deriving DecidableEq, Repr

/-- Causes of ZONE_DARK (R59). -/
inductive DarkCause where
  | linkLost
  | transportStop
  | retired
deriving DecidableEq, Repr

/-- Causes of ALARM_CLEARED (R76). -/
inductive ClearCause where
  | falling
  | retryDone
  | faultClear
deriving DecidableEq, Repr

/-- Causes of a withdrawal (R116). -/
inductive WithdrawCause where
  | zoneDark
  | zonePinned
  | manualMove
  | tenancy
  | policyChanged
  | sectorDisabled
  | streamDown
  | transportStop
deriving DecidableEq, Repr

/-- Result codes of a reply (R173). -/
inductive Result where
  | ok
  | clamped
  | stillActive
  | checkFailed
  | unknownRequest
  | badLength
  | notPermitted
  | tenantInactive
  | outOfRange
  | badState
  | shareExceeded
  | badMode
  | badList
  | thresholdOrder
  | late
  | unknownProposal
  | previewBusy
deriving DecidableEq, Repr

/-- Frame states of a port (R165). RECEIVING says whether the header byte is complete, which is what a
release in it depends on (R170). -/
inductive FrameState where
  | idle
  | receiving (headerDone : Bool)
  | ignoring
  | waiting
  | replying
  | ended
deriving DecidableEq, Repr

/-- A stamp: the superframe count and the cycle count at a moment. -/
structure Stamp where
  superframe : Nat
  cycle : Nat
deriving DecidableEq, Repr

/-- A zone record (R1); a binding `none` is NONE. -/
structure ZoneRec where
  provisioned : Bool
  pinned : Bool
  neighbours : List ZoneNo
  budget : Nat
  working : Vector (Option SectorNo) 4
  active : Vector (Option SectorNo) 4
deriving DecidableEq, Repr

/-- A sector table entry (R7); `streamUp` is the stream presence. -/
structure SectorEntry where
  enabled : Bool
  request : Nat
  streamUp : Bool
deriving DecidableEq, Repr

/-- An operator record (R7). -/
structure OpRec where
  tenancy : Tenancy
  policy : Policy
  silence : SilenceRule
  high : Nat
  low : Nat
  period : Nat
  window : Nat
  weight : Nat
  share : Nat
  sectors : Vector SectorEntry 8
deriving DecidableEq, Repr

/-- A slot plan entry (R31). -/
structure PlanEntry where
  enabled : Bool
  slot : SlotNo
  position : PosNo
  operator : OpNo
  periodCode : Fin 5
  phase : Fin 16
deriving DecidableEq, Repr

/-- The shadow counter and the shadow-reported mark of an active plan entry (R31, R34). -/
structure Shadow where
  count : Nat
  reported : Bool
deriving DecidableEq, Repr

/-- What a filled slot carries: the position, the operator, the stream's sector (none for a null block) and
the grant of the control word (R30, R35). -/
structure SlotSend where
  position : PosNo
  operator : OpNo
  stream : Option SectorNo
  grant : Nat
deriving DecidableEq, Repr

/-- The downlink of a cycle: its marker and the content of all slots of all spokes, fixed at the cycle start (R30). -/
structure Downlink where
  marker : Stamp
  slots : Vector (Vector (Option SlotSend) 32) 8
deriving DecidableEq, Repr

/-- A link record (R49); in the history `true` is a good word, the oldest first. -/
structure LinkRec where
  state : LinkState
  goodRun : Nat
  history : List Bool
  missed : Nat
  dwell : Nat
  loss : Nat
deriving DecidableEq, Repr

/-- A protection record (R63). -/
structure ProtRec where
  raw : Bool
  state : ProtState
  latched : Bool
deriving DecidableEq, Repr

/-- An open proposal (R111). -/
structure Proposal where
  id : Nat
  zone : ZoneNo
  fromSector : SectorNo
  toSector : SectorNo
  remaining : Nat
deriving DecidableEq, Repr

/-- The Spread Engine's state of one operator (R97). -/
structure SpreadRec where
  evalCount : Nat
  proposal : Option Proposal
  lastClosed : Option Nat
  nextId : Nat
  outcome : EvalOutcome
deriving DecidableEq, Repr

/-- The inputs of an allocation: the effective budget, the four effective requests and the four shares (R124, R144). -/
structure Snapshot where
  budget : Nat
  requests : Vector Nat 4
  shares : Vector Nat 4
deriving DecidableEq, Repr

/-- The kind of a computation. A preview keeps its port, its operator, its hypothetical request and the lane's
active sector at the start, none when the lane was not carrying (R141, R148). -/
inductive CompKind where
  | reallocation
  | preview (port : Port) (operator : OpNo) (request : Nat) (sector : Option SectorNo)
deriving DecidableEq, Repr

/-- A computation in flight (R141). -/
structure Computation where
  kind : CompKind
  zone : ZoneNo
  snapshot : Snapshot
deriving DecidableEq, Repr

/-- An occupied preview slot; `running` false is WAITING (R141). -/
structure PreviewSlot where
  zone : ZoneNo
  operator : OpNo
  request : Nat
  running : Bool
  cancelled : Bool
deriving DecidableEq, Repr

/-- A notice record (R155). -/
structure Notice where
  kind : NoticeKind
  stamp : Stamp
  zone : Option ZoneNo
  operator : Option OpNo
  fromSector : Option SectorNo
  toSector : Option SectorNo
  alarmClass : Option ClassNo
  proposalId : Option Nat
  value : Option Nat
deriving DecidableEq, Repr

/-- A notice queue with its overrun flag, the oldest record first (R157). -/
structure NoticeQueue where
  records : List Notice
  overrun : Bool
deriving DecidableEq, Repr

/-- A reply: its result, its payload, and whether its request was a READ NOTICES that removed records (R159). -/
structure Reply where
  result : Result
  payload : List Byte
  removed : Bool
deriving DecidableEq, Repr

/-- A port's frame state and flags (R165), the status byte of the window and how many of its bits, from bit 7 down, have
been placed on MISO (R164, R167), and the reply being assembled or sent (R168). A bit of the byte whose field has not been read is 0. -/
structure PortRec where
  frame : FrameState
  frameErr : Bool
  replyCut : Bool
  status : Byte
  placed : Nat
  reply : Option Reply
deriving DecidableEq, Repr

/-- An entry in the read holding stage, with its spoke and entry number (R177). -/
structure StageEntry where
  spoke : SpokeNo
  entry : EntryNo
  plan : PlanEntry
deriving DecidableEq, Repr

/-- The plan window of the venue port: bounds, pointer and read holding stage (R177). -/
structure PlanWindow where
  firstSpoke : SpokeNo
  lastSpoke : SpokeNo
  firstEntry : EntryNo
  lastEntry : EntryNo
  spoke : SpokeNo
  entry : EntryNo
  stage : Option StageEntry
deriving DecidableEq, Repr

/-- The whole machine. Blocks in the order of the overview (00_scope). Two fields are the model's own: `edges` counts the
falling edges of SCLK within header bytes, to which the free value `Config.clockedPort` is applied (log entry 9), and
`pending` is the queue of commands that wait. -/
structure State where
  zones : Vector ZoneRec 64
  latchPending : Bool
  ops : Vector OpRec 4
  transport : Transport
  cycle : Nat
  superframe : Nat
  firstPending : Bool
  commitPending : Bool
  lastCommit : Option Stamp
  workPlan : Vector (Vector PlanEntry 64) 8
  activePlan : Vector (Vector PlanEntry 64) 8
  shadows : Vector (Vector Shadow 64) 8
  mark : Bool
  downlink : Option Downlink
  links : Vector LinkRec 64
  lostLimit : Nat
  prot : Vector (Vector ProtRec 6) 64
  modes : Vector ClassMode 6
  tempLevel : Nat
  reflectLevel : Nat
  cells : Vector (Vector Nat 4) 64
  spread : Vector SpreadRec 4
  settle : Vector (Vector Nat 4) 64
  settleTime : Nat
  holdOff : Nat
  grants : Vector (Vector Nat 4) 64
  short : Vector (Vector Bool 4) 64
  realloc : List ZoneNo
  flight : Option Computation
  previews : Vector (Option PreviewSlot) 5
  consecutive : Nat
  lastPort : Port
  stale : Nat
  notices : Vector NoticeQueue 5
  ports : Vector PortRec 5
  window : PlanWindow
  edges : Nat
  pending : List Instr
deriving DecidableEq, Repr

/-- Reasons for which the machine stops. The part has none: it answers a request that it does not take with a
result code, and it sets a sticky flag at a frame fault (R169 to R173). So no meaning raises a fault, and the
type has no constructor. -/
inductive Fault where
deriving DecidableEq, Repr

/-- Reasons for which the model gives no meaning. -/
inductive Refusal where
  /-- Raised by `exec` alone, for a command whose arm has no meaning yet; safe, since no claim about such a
  command can be proved. No arm raises it now. -/
  | notModelled (mnemonic : String)
deriving DecidableEq, Repr

/-- A zone record after RSTn (R1). -/
def ZoneRec.reset : ZoneRec :=
  { provisioned := false, pinned := false, neighbours := [], budget := 0,
    working := Vector.replicate 4 none, active := Vector.replicate 4 none }

/-- A sector table entry after RSTn (R7). -/
def SectorEntry.reset : SectorEntry := { enabled := false, request := 0, streamUp := false }

/-- An operator record after RSTn (R7). -/
def OpRec.reset : OpRec :=
  { tenancy := .absent, policy := .fixed, silence := .drop, high := 0, low := 0, period := 625, window := 125,
    weight := 64, share := 0, sectors := Vector.replicate 8 SectorEntry.reset }

/-- A slot plan entry after RSTn: disabled, with every other field 0 (R31). -/
def PlanEntry.reset : PlanEntry :=
  { enabled := false, slot := 0, position := 0, operator := 0, periodCode := 0, phase := 0 }

/-- A shadow counter and mark after RSTn (R31). -/
def Shadow.reset : Shadow := { count := 0, reported := false }

/-- A link record after RSTn (R49). -/
def LinkRec.reset : LinkRec :=
  { state := .idle, goodRun := 0, history := [], missed := 0, dwell := 0, loss := 0 }

/-- A protection record after RSTn (R63). -/
def ProtRec.reset : ProtRec := { raw := false, state := .idle, latched := false }

/-- The Spread Engine's state of an operator after RSTn (R97). -/
def SpreadRec.reset : SpreadRec :=
  { evalCount := 0, proposal := none, lastClosed := none, nextId := 0, outcome := .notRun }

/-- A port after RSTn (R165). No bit of a status byte has been placed; the byte's value 0 is a DESIGN CHOICE (log
entry 9) and no rule reads it. -/
def PortRec.reset : PortRec :=
  { frame := .idle, frameErr := false, replyCut := false, status := 0, placed := 0, reply := none }

/-- The plan window after RSTn (R177). -/
def PlanWindow.reset : PlanWindow :=
  { firstSpoke := 0, lastSpoke := 7, firstEntry := 0, lastEntry := 63, spoke := 0, entry := 0, stage := none }

/-- The state after RSTn, each field as its chapter states (R1, R7, R23, R31, R40, R49, R63, R64, R84, R97,
R120, R141, R154, R157, R165, R177); no command waits, and the model's count of falling edges is 0 (DESIGN CHOICE, log
entry 9). -/
def State.reset : State :=
  { zones := Vector.replicate 64 ZoneRec.reset
    latchPending := false
    ops := Vector.replicate 4 OpRec.reset
    transport := .stopped
    cycle := 0
    superframe := 0
    firstPending := false
    commitPending := false
    lastCommit := none
    workPlan := Vector.replicate 8 (Vector.replicate 64 PlanEntry.reset)
    activePlan := Vector.replicate 8 (Vector.replicate 64 PlanEntry.reset)
    shadows := Vector.replicate 8 (Vector.replicate 64 Shadow.reset)
    mark := false
    downlink := none
    links := Vector.replicate 64 LinkRec.reset
    lostLimit := 8
    prot := Vector.replicate 64 (Vector.replicate 6 ProtRec.reset)
    modes := #v[.derate, .retrySlow, .derate, .retryFast, .latch, .report]
    tempLevel := 192
    reflectLevel := 128
    cells := Vector.replicate 64 (Vector.replicate 4 0)
    spread := Vector.replicate 4 SpreadRec.reset
    settle := Vector.replicate 64 (Vector.replicate 4 0)
    settleTime := 3750
    holdOff := 18750
    grants := Vector.replicate 64 (Vector.replicate 4 0)
    short := Vector.replicate 64 (Vector.replicate 4 false)
    realloc := []
    flight := none
    previews := Vector.replicate 5 none
    consecutive := 0
    lastPort := .op 3
    stale := 0
    notices := Vector.replicate 5 { records := [], overrun := false }
    ports := Vector.replicate 5 PortRec.reset
    window := PlanWindow.reset
    edges := 0
    pending := [] }

end Sys2Proof.Machine
end

