-- ==== Sys2Proof/Machine/Tables.lean ====
section
/-! DEFINITION. The index lists and the table accesses that the blocks share: the zones, operators, sectors,
classes, spokes, slots, entries and ports in their orders, and one read and one write for each table of State. -/

namespace Sys2Proof.Machine

open Sys2Proof

/-- The zones in zone order. -/
def allZones : List ZoneNo := List.finRange 64
/-- The operators in operator order. -/
def allOps : List OpNo := List.finRange 4
/-- The sectors in sector order. -/
def allSectors : List SectorNo := List.finRange 8
/-- The alarm classes in class order (section 4.1). -/
def allClasses : List ClassNo := List.finRange 6
/-- The spokes in spoke order. -/
def allSpokes : List SpokeNo := List.finRange 8
/-- The slots in slot order. -/
def allSlots : List SlotNo := List.finRange 32
/-- The plan entries of a spoke in entry order. -/
def allEntries : List EntryNo := List.finRange 64
/-- The ports in the order VN, OP0, OP1, OP2, OP3 (section 11.3, R143, R160). -/
def allPorts : List Port := .vn :: allOps.map .op

/-- The number of a port (section 11.3). -/
def portNumber : Port → Fin 5
  | .vn => 0
  | .op o => o.succ

/-- A vector of four entries, one per operator in operator order. -/
def vec4 {α : Type} (f : OpNo → α) : Vector α 4 := Vector.ofFn f

/-- A table with each entry rewritten from its index and its old value. -/
def retable {α : Type} {n : Nat} (f : Fin n → α → α) (t : Vector α n) : Vector α n := Vector.ofFn fun i => f i t[i]

/-- The sum of four numbers, one per operator. -/
def sum4 (v : Vector Nat 4) : Nat := v[0] + v[1] + v[2] + v[3]

/-- The spoke of a zone: z div 8 (section 1.1). -/
def spokeOf (z : ZoneNo) : SpokeNo := ⟨z.val / 8, by omega⟩

/-- The position of a zone: z mod 8 (section 1.1). -/
def positionOf (z : ZoneNo) : PosNo := ⟨z.val % 8, by omega⟩

/-- The zone at a position of a spoke: spoke x 8 + position (R31, R43). -/
def zoneAt (spoke : SpokeNo) (pos : PosNo) : ZoneNo := ⟨spoke.val * 8 + pos.val, by omega⟩

/-- Read one entry of a table with an entry per lane (zone, operator). -/
def laneGet {α : Type} (t : Vector (Vector α 4) 64) (z : ZoneNo) (o : OpNo) : α := (t[z])[o]

/-- Write one entry of a table with an entry per lane (zone, operator). -/
def laneSet {α : Type} (t : Vector (Vector α 4) 64) (z : ZoneNo) (o : OpNo) (a : α) : Vector (Vector α 4) 64 :=
  t.set z ((t[z]).set o a)

/-- The zone record of z (R1). -/
def State.zone (s : State) (z : ZoneNo) : ZoneRec := s.zones[z]
/-- Replace the zone record of z. -/
def State.setZone (s : State) (z : ZoneNo) (r : ZoneRec) : State := { s with zones := s.zones.set z r }
/-- The operator record of o (R7). -/
def State.oper (s : State) (o : OpNo) : OpRec := s.ops[o]
/-- Replace the operator record of o. -/
def State.setOper (s : State) (o : OpNo) (r : OpRec) : State := { s with ops := s.ops.set o r }
/-- The sector table entry (o, sec) (R7). -/
def State.sector (s : State) (o : OpNo) (sec : SectorNo) : SectorEntry := (s.oper o).sectors[sec]
/-- Replace the sector table entry (o, sec). -/
def State.setSector (s : State) (o : OpNo) (sec : SectorNo) (e : SectorEntry) : State :=
  s.setOper o { s.oper o with sectors := (s.oper o).sectors.set sec e }
/-- The working binding of lane (z, o) (R1). -/
def State.working (s : State) (z : ZoneNo) (o : OpNo) : Option SectorNo := (s.zone z).working[o]
/-- The active binding of lane (z, o) (R1). -/
def State.active (s : State) (z : ZoneNo) (o : OpNo) : Option SectorNo := (s.zone z).active[o]
/-- The link record of z (R49). -/
def State.link (s : State) (z : ZoneNo) : LinkRec := s.links[z]
/-- Replace the link record of z. -/
def State.setLink (s : State) (z : ZoneNo) (r : LinkRec) : State := { s with links := s.links.set z r }
/-- The protection record of class c at z (R63). -/
def State.protRec (s : State) (z : ZoneNo) (c : ClassNo) : ProtRec := (s.prot[z])[c]
/-- Replace the protection record of class c at z. -/
def State.setProt (s : State) (z : ZoneNo) (c : ClassNo) (r : ProtRec) : State :=
  { s with prot := s.prot.set z ((s.prot[z]).set c r) }
/-- The load cell of lane (z, o) (R84). -/
def State.cell (s : State) (z : ZoneNo) (o : OpNo) : Nat := laneGet s.cells z o
/-- Set the load cell of lane (z, o). -/
def State.setCell (s : State) (z : ZoneNo) (o : OpNo) (y : Nat) : State := { s with cells := laneSet s.cells z o y }
/-- The Spread Engine's state of o (R97). -/
def State.spreadRec (s : State) (o : OpNo) : SpreadRec := s.spread[o]
/-- Replace the Spread Engine's state of o. -/
def State.setSpread (s : State) (o : OpNo) (r : SpreadRec) : State := { s with spread := s.spread.set o r }
/-- The settle counter of lane (z, o) (R97). -/
def State.settleCount (s : State) (z : ZoneNo) (o : OpNo) : Nat := laneGet s.settle z o
/-- Load the settle counter of lane (z, o) (R105). -/
def State.setSettle (s : State) (z : ZoneNo) (o : OpNo) (n : Nat) : State := { s with settle := laneSet s.settle z o n }
/-- The stored grant of lane (z, o) (R120). -/
def State.grant (s : State) (z : ZoneNo) (o : OpNo) : Nat := laneGet s.grants z o
/-- The short flag of lane (z, o) (R120). -/
def State.isShort (s : State) (z : ZoneNo) (o : OpNo) : Bool := laneGet s.short z o
/-- Set the short flag of lane (z, o). -/
def State.setShort (s : State) (z : ZoneNo) (o : OpNo) (b : Bool) : State := { s with short := laneSet s.short z o b }
/-- The preview slot of port p (R141). -/
def State.previewSlot (s : State) (p : Port) : Option PreviewSlot := s.previews[portNumber p]
/-- Replace the preview slot of port p. -/
def State.setPreview (s : State) (p : Port) (e : Option PreviewSlot) : State :=
  { s with previews := s.previews.set (portNumber p) e }
/-- The notice queue of port p (R157). -/
def State.noticeQueue (s : State) (p : Port) : NoticeQueue := s.notices[portNumber p]
/-- Replace the notice queue of port p. -/
def State.setNotices (s : State) (p : Port) (q : NoticeQueue) : State :=
  { s with notices := s.notices.set (portNumber p) q }
/-- The port record of p (R165). -/
def State.port (s : State) (p : Port) : PortRec := s.ports[portNumber p]
/-- Replace the port record of p. -/
def State.setPort (s : State) (p : Port) (r : PortRec) : State := { s with ports := s.ports.set (portNumber p) r }
/-- The active plan entry n of a spoke (R31). -/
def State.activeEntry (s : State) (spoke : SpokeNo) (n : EntryNo) : PlanEntry := (s.activePlan[spoke])[n]
/-- The working plan entry n of a spoke (R31). -/
def State.workEntry (s : State) (spoke : SpokeNo) (n : EntryNo) : PlanEntry := (s.workPlan[spoke])[n]
/-- Write the working plan entry n of a spoke. -/
def State.setWorkEntry (s : State) (spoke : SpokeNo) (n : EntryNo) (e : PlanEntry) : State :=
  { s with workPlan := s.workPlan.set spoke ((s.workPlan[spoke]).set n e) }
/-- The shadow counter and mark of active entry n of a spoke (R31). -/
def State.shadow (s : State) (spoke : SpokeNo) (n : EntryNo) : Shadow := (s.shadows[spoke])[n]
/-- Replace the shadow counter and mark of active entry n of a spoke. -/
def State.setShadow (s : State) (spoke : SpokeNo) (n : EntryNo) (h : Shadow) : State :=
  { s with shadows := s.shadows.set spoke ((s.shadows[spoke]).set n h) }

/-- The stamp at this moment: the counts that the CST holds (R23, R155). -/
def State.stamp (s : State) : Stamp := { superframe := s.superframe, cycle := s.cycle }

/-- A count that stops at its maximum (00_scope, "Numbers"). -/
def saturate (limit n : Nat) : Nat := min n limit

/-- A value held within lo..hi (R50, R88, R101, R102). -/
def clampTo (lo hi n : Nat) : Nat := max lo (min n hi)

end Sys2Proof.Machine
end

