-- ==== Sys2Proof/Machine/Layout.lean ====
section
/-! DEFINITION. The layouts of chapter 11: byte order, code values, fields of payloads, notice records, plan
entries, spoke words, the reply frame and the CRC. -/

namespace Sys2Proof.Machine

open Sys2Proof

/-! ## Fields (R182) -/

/-- A field of one byte. -/
def u8 (n : Nat) : List Byte := [BitVec.ofNat 8 n]
/-- A field of two bytes, most significant first. -/
def u16 (n : Nat) : List Byte := [BitVec.ofNat 8 (n / 256), BitVec.ofNat 8 n]
/-- A field of four bytes, most significant first. -/
def u32 (n : Nat) : List Byte :=
  [BitVec.ofNat 8 (n / 16777216), BitVec.ofNat 8 (n / 65536), BitVec.ofNat 8 (n / 256), BitVec.ofNat 8 n]
/-- A yes/no field or flag: one byte, 0 for no and 1 for yes. -/
def flagByte (b : Bool) : List Byte := u8 (if b then 1 else 0)
/-- A sector field, where NONE is 0xFF. -/
def sectorByte : Option SectorNo → List Byte
  | none => [0xFF]
  | some sec => u8 sec.val
/-- A stamp: the superframe count in two bytes, then the cycle count in one. -/
def stampBytes (t : Stamp) : List Byte := u16 t.superframe ++ u8 t.cycle
/-- A list in a reply: a count byte, then its entries. -/
def listBytes (l : List (List Byte)) : List Byte := u8 l.length ++ l.flatten
/-- A set of bits with one bit per alarm class: bit n for class n, bits 7..6 0. -/
def classBits (f : ClassNo → Bool) : List Byte :=
  u8 ((if f 0 then 1 else 0) + (if f 1 then 2 else 0) + (if f 2 then 4 else 0) + (if f 3 then 8 else 0) +
    (if f 4 then 16 else 0) + (if f 5 then 32 else 0))

/-- The number that two bytes carry. -/
def num16 (a b : Byte) : Nat := a.toNat * 256 + b.toNat
/-- The number that four bytes carry. -/
def num32 (a b c d : Byte) : Nat := ((a.toNat * 256 + b.toNat) * 256 + c.toNat) * 256 + d.toNat
/-- A number field of a request that must lie below n; `none` where it lies above its range. -/
def numBelow (n : Nat) (b : Byte) : Option (Fin n) := if h : b.toNat < n then some ⟨b.toNat, h⟩ else none
/-- A yes/no field of a request; `none` for a byte other than 0 or 1. -/
def yesNo (b : Byte) : Option Bool := if b = 0 then some false else if b = 1 then some true else none
/-- A sector field that may be NONE (0xFF); `none` where it is neither a sector nor NONE. -/
def sectorOrNone (b : Byte) : Option (Option SectorNo) :=
  if b = 0xFF then some none else (numBelow 8 b).map some
/-- A zone field that may be ALL (0xFF), given as the zones it names; `none` where it is neither. -/
def zoneOrAll (b : Byte) : Option (List ZoneNo) :=
  if b = 0xFF then some allZones else (numBelow 64 b).map fun z => [z]

/-! ## Code values (section 11.3) -/

def ClassMode.code : ClassMode → Nat
  | .derate => 0
  | .latch => 1
  | .retrySlow => 2
  | .retryFast => 3
  | .report => 4
  | .ignore => 5

def modeOfCode (b : Byte) : Option ClassMode :=
  match b.toNat with
  | 0 => some .derate
  | 1 => some .latch
  | 2 => some .retrySlow
  | 3 => some .retryFast
  | 4 => some .report
  | 5 => some .ignore
  | _ => none

def Tenancy.code : Tenancy → Nat
  | .absent => 0
  | .active => 1
  | .suspended => 2

def Policy.code : Policy → Nat
  | .auto => 0
  | .consult => 1
  | .fixed => 2

def policyOfCode (b : Byte) : Option Policy :=
  match b.toNat with
  | 0 => some .auto
  | 1 => some .consult
  | 2 => some .fixed
  | _ => none

def SilenceRule.code : SilenceRule → Nat
  | .apply => 0
  | .drop => 1

def silenceOfCode (b : Byte) : Option SilenceRule :=
  match b.toNat with
  | 0 => some .apply
  | 1 => some .drop
  | _ => none

def EvalOutcome.code : EvalOutcome → Nat
  | .notRun => 0
  | .noPressure => 1
  | .noCandidate => 2
  | .latchPending => 3
  | .proposalOpen => 4
  | .moved => 5
  | .proposed => 6

def LinkState.code : LinkState → Nat
  | .idle => 0
  | .search => 1
  | .up => 2
  | .weak => 3
  | .lost => 4

def Transport.code : Transport → Nat
  | .stopped => 0
  | .running => 1
  | .draining => 2

def ProtState.code : ProtState → Nat
  | .idle => 0
  | .active => 1
  | .recovering _ => 2
  | .held => 3

def DarkCause.code : DarkCause → Nat
  | .linkLost => 1
  | .transportStop => 2
  | .retired => 3

def ClearCause.code : ClearCause → Nat
  | .falling => 1
  | .retryDone => 2
  | .faultClear => 3

def WithdrawCause.code : WithdrawCause → Nat
  | .zoneDark => 1
  | .zonePinned => 2
  | .manualMove => 3
  | .tenancy => 4
  | .policyChanged => 5
  | .sectorDisabled => 6
  | .streamDown => 7
  | .transportStop => 8

/-- The value of PROPOSAL_EXPIRED: 1 APPLIED, 2 DROPPED. -/
def SilenceRule.expiryCode : SilenceRule → Nat
  | .apply => 1
  | .drop => 2

/-- The value of PROPOSAL_ANSWERED: 1 ACCEPTED, 2 DECLINED. -/
def answerCode (accepted : Bool) : Nat := if accepted then 1 else 2

def presenceCode (up : Bool) : Nat := if up then 1 else 0

def NoticeKind.code : NoticeKind → Nat
  | .tenancyChanged => 0x01
  | .moveDone => 0x02
  | .shadowed => 0x03
  | .streamChanged => 0x04
  | .linkWeak => 0x05
  | .linkRestored => 0x06
  | .zoneLive => 0x07
  | .zoneDark => 0x08
  | .alarmRaised => 0x09
  | .alarmCleared => 0x0A
  | .zoneMuted => 0x0B
  | .zoneUnmuted => 0x0C
  | .derateChanged => 0x0D
  | .proposal => 0x0E
  | .proposalExpired => 0x0F
  | .proposalAnswered => 0x10
  | .proposalWithdrawn => 0x11
  | .grantShort => 0x12
  | .grantFull => 0x13
  | .previewResult => 0x14

/-- Result codes (section 11.1). -/
def Result.code : Result → Byte
  | .ok => 0x00
  | .clamped => 0x01
  | .stillActive => 0x02
  | .checkFailed => 0x10
  | .unknownRequest => 0x11
  | .badLength => 0x12
  | .notPermitted => 0x13
  | .tenantInactive => 0x14
  | .outOfRange => 0x20
  | .badState => 0x21
  | .shareExceeded => 0x22
  | .badMode => 0x23
  | .badList => 0x24
  | .thresholdOrder => 0x25
  | .late => 0x26
  | .unknownProposal => 0x27
  | .previewBusy => 0x28

/-- The state code of a preview slot: 0 empty, 1 WAITING, 2 RUNNING. -/
def slotCode : Option PreviewSlot → Nat
  | none => 0
  | some e => if e.running then 2 else 1

/-! ## Notice records and plan entries (R183) -/

/-- An optional one-byte field of a notice record; an absent field's byte is 0. -/
def noticeField (v : Option Nat) : List Byte := u8 (v.getD 0)

/-- The presence byte of a notice record: bit 6 zone down to bit 0 value. -/
def Notice.presence (n : Notice) : Nat :=
  (if n.zone.isSome then 64 else 0) + (if n.operator.isSome then 32 else 0) + (if n.fromSector.isSome then 16 else 0) +
    (if n.toSector.isSome then 8 else 0) + (if n.alarmClass.isSome then 4 else 0) + (if n.proposalId.isSome then 2 else 0) +
    (if n.value.isSome then 1 else 0)

/-- The thirteen bytes of a notice record. -/
def Notice.bytes (n : Notice) : List Byte :=
  u8 n.kind.code ++ u8 n.presence ++ stampBytes n.stamp ++ noticeField (n.zone.map Fin.val) ++
    noticeField (n.operator.map Fin.val) ++ noticeField (n.fromSector.map Fin.val) ++ noticeField (n.toSector.map Fin.val) ++
    noticeField (n.alarmClass.map Fin.val) ++ noticeField n.proposalId ++ u16 (n.value.getD 0)

/-- The three bytes of a plan entry. -/
def PlanEntry.bytes (e : PlanEntry) : List Byte :=
  u8 ((if e.enabled then 128 else 0) + e.slot.val) ++
    u8 (e.position.val * 32 + e.operator.val * 8 + e.periodCode.val) ++ u8 e.phase.val

/-- An entry as its three bytes spell it, before the check of R32. The period code is 0..7 and the phase 0..15. -/
structure RawEntry where
  enabled : Bool
  slot : SlotNo
  position : PosNo
  operator : OpNo
  periodCode : Fin 8
  phase : Fin 16
deriving DecidableEq, Repr

/-- The entry that three bytes of WRITE PLAN ENTRIES spell; the bits shown as 0 are ignored (R183). -/
def readEntry (a b c : Byte) : RawEntry :=
  { enabled := 128 ≤ a.toNat
    slot := ⟨a.toNat % 32, by omega⟩
    position := ⟨b.toNat / 32, by have := b.isLt; omega⟩
    operator := ⟨b.toNat / 8 % 4, by omega⟩
    periodCode := ⟨b.toNat % 8, by omega⟩
    phase := ⟨c.toNat % 16, by omega⟩ }

/-- The period of a period code: 1, 2, 4, 8 or 16 cycles (R31). -/
def periodOf (code : Nat) : Nat := 2 ^ code

/-- The check of R32 on the way into the working plan: a period code of 5 to 7 stores the entry disabled with
code and phase 0, a phase at or above the period is reduced, any other entry is stored as given. -/
def checkEntry (r : RawEntry) : PlanEntry :=
  if h : r.periodCode.val < 5 then
    { enabled := r.enabled, slot := r.slot, position := r.position, operator := r.operator,
      periodCode := ⟨r.periodCode.val, h⟩
      phase := ⟨r.phase.val % periodOf r.periodCode.val, Nat.lt_of_le_of_lt (Nat.mod_le _ _) r.phase.isLt⟩ }
  else
    { enabled := false, slot := r.slot, position := r.position, operator := r.operator, periodCode := 0, phase := 0 }

/-- Whether R32 counts the entry as forced off: written enabled with an illegal period code. -/
def forcedOff (r : RawEntry) : Bool := r.enabled && (5 ≤ r.periodCode.val : Bool)

/-- The five bytes of an entry in a READ PLAN ENTRIES reply; a filler for an empty stage (R179, R183). -/
def stageBytes : Option StageEntry → List Byte
  | none => [0xFF, 0xFF, 0, 0, 0]
  | some e => u8 e.spoke.val ++ u8 e.entry.val ++ e.plan.bytes

/-! ## The reply frame and the check sum (R166, R168, section 11.1) -/

/-- The sum of bytes modulo 256. -/
def sumBytes (l : List Byte) : Byte := l.foldl (· + ·) 0

/-- The byte that brings the sum of some bytes to 0 modulo 256. -/
def checkByte (l : List Byte) : Byte := 0 - sumBytes l

/-- The reply as it is sent: start marker, result code, length, payload and check byte. -/
def Reply.bytes (r : Reply) : List Byte :=
  let body := Config.startMarker :: r.result.code :: BitVec.ofNat 8 r.payload.length :: r.payload
  body ++ [checkByte body]

/-- The byte that a port sends on MISO while a byte is clocked in, where `sent` bytes of the reply have been sent. None in
IDLE, where MISO is released, and none while the header byte is clocked in: the status byte goes out with it bit by bit and
stands in the record as far as it has been placed (R165, R166, R168; section 11.1). -/
def PortRec.miso (r : PortRec) (sent : Nat) : Option Byte :=
  match r.frame with
  | .idle => none
  | .receiving headerDone => if headerDone then some Config.fillByte else none
  | .ignoring => some Config.fillByte
  | .waiting => some Config.waitByte
  | .replying => r.reply.bind fun rep => rep.bytes[sent]?
  | .ended => some Config.fillByte

/-- Whether a byte holds an odd number of one bits (R166). -/
def oddParity (b : Byte) : Bool :=
  ((b.toNat.testBit 0 ^^ b.toNat.testBit 1) ^^ (b.toNat.testBit 2 ^^ b.toNat.testBit 3)) ^^
    ((b.toNat.testBit 4 ^^ b.toNat.testBit 5) ^^ (b.toNat.testBit 6 ^^ b.toNat.testBit 7))

/-! ## Spoke words (section 11.5, R44, R184) -/

/-- The cycle marker: the superframe count, then the cycle count in bits 5..0. -/
def markerBytes (t : Stamp) : List Byte := u16 t.superframe ++ u8 (t.cycle % 64)

/-- The control word of a filled slot; its grant bytes are 0 when the null flag is set (R184). -/
def SlotSend.controlWord (w : SlotSend) : List Byte :=
  u8 (w.position.val * 32 + w.operator.val * 8 + (if w.stream.isNone then 4 else 0)) ++
    u16 (if w.stream.isNone then 0 else w.grant)

/-- One bit of the CRC register's shift: x^8 + x^2 + x + 1, most significant bit first (R44). -/
def crcShift (r : Byte) : Byte := if r.msb then (r <<< 1) ^^^ 0x07 else r <<< 1

/-- The CRC register after one more byte. -/
def crcByte (r b : Byte) : Byte :=
  crcShift (crcShift (crcShift (crcShift (crcShift (crcShift (crcShift (crcShift (r ^^^ b))))))))

/-- The CRC of some bytes, from an initial value of 0 (R44). -/
def crc8 (l : List Byte) : Byte := l.foldl crcByte 0

/-- A good uplink status word: its alarm vector, and its activity block when it carries one (R44, R46). -/
structure UplinkWord where
  alarms : Vector Bool 6
  activity : Option (Vector Nat 4)
deriving DecidableEq, Repr

/-- The alarm vector of byte 1: bit 0 TEMP_WARN to bit 5 OPTIC_LOW (section 11.5). -/
def alarmBits (b : Byte) : Vector Bool 6 :=
  #v[b.toNat.testBit 0, b.toNat.testBit 1, b.toNat.testBit 2, b.toNat.testBit 3, b.toNat.testBit 4, b.toNat.testBit 5]

/-- Four 10-bit samples, OP0 first, packed without gaps in five bytes (section 11.5). -/
def activitySamples (a b c d e : Byte) : Vector Nat 4 :=
  let n := (num32 a b c d) * 256 + e.toNat
  #v[n / 1073741824 % 1024, n / 1048576 % 1024, n / 1024 % 1024, n % 1024]

/-- The judgement of R44 and R184 on the bytes that arrived in the uplink slot of position `pos`: the word when
it is good, `none` when it is missed. -/
def judgeWord (pos : PosNo) (word : List Byte) : Option UplinkWord :=
  match word with
  | b0 :: b1 :: more =>
    if b0.toNat / 32 = pos.val then
      if b0.toNat.testBit 4 then
        match more with
        | a :: b :: c :: d :: e :: crc :: _ =>
          if crc8 [b0, b1, a, b, c, d, e] = crc then
            some { alarms := alarmBits b1, activity := some (activitySamples a b c d e) }
          else none
        | _ => none
      else
        match more with
        | crc :: _ => if crc8 [b0, b1] = crc then some { alarms := alarmBits b1, activity := none } else none
        | [] => none
    else none
  | _ => none

end Sys2Proof.Machine
end

