-- ==== Sys2Proof/Machine/Flags.lean ====
section
/-! DEFINITION. The conditions that are derived from the state and stored nowhere: live and carrying (R18,
R19), mute and derate factor (R73, R74), the missed tally (R49), effective budget and request (R121, R122),
sector loads (R92), the attention lines (R161) and the port status byte (R167). -/

namespace Sys2Proof.Machine

open Sys2Proof

/-! ## Live, mute, derate and carrying -/

/-- Whether a link state is one in which the remote unit is heard: UP or WEAK. -/
def heard : LinkState → Bool
  | .up => true
  | .weak => true
  | _ => false

/-- A zone is live when it is provisioned and its link is UP or WEAK; otherwise it is dark (R18). -/
def live (s : State) (z : ZoneNo) : Bool := (s.zone z).provisioned && heard (s.link z).state

/-- Whether a protection state counts as ACTIVE or RECOVERING. -/
def engaged : ProtState → Bool
  | .active => true
  | .recovering _ => true
  | _ => false

/-- Whether a mode mutes the zone in ACTIVE and RECOVERING: LATCH, RETRY_SLOW or RETRY_FAST (R73). -/
def mutingMode : ClassMode → Bool
  | .latch => true
  | .retrySlow => true
  | .retryFast => true
  | _ => false

/-- The mode of an alarm class (R64). -/
def State.mode (s : State) (c : ClassNo) : ClassMode := s.modes[c]

/-- Whether class c mutes zone z: HELD, or ACTIVE or RECOVERING under a muting mode (R73). -/
def classMutes (s : State) (z : ZoneNo) (c : ClassNo) : Bool :=
  decide ((s.protRec z c).state = .held) || (engaged (s.protRec z c).state && mutingMode (s.mode c))

/-- Protection-muted: at least one class mutes the zone (R73). -/
def muted (s : State) (z : ZoneNo) : Bool := allClasses.any (classMutes s z)

/-- The derate level of a class; only TEMP_WARN and REFLECT have one (R64). -/
def classLevel (s : State) (c : ClassNo) : Nat :=
  if c = 0 then s.tempLevel else if c = 2 then s.reflectLevel else Config.noDerate

/-- What class c asks of the derate factor at zone z: its level while ACTIVE or RECOVERING under DERATE, else
no derate (R74). -/
def classDerate (s : State) (z : ZoneNo) (c : ClassNo) : Nat :=
  if engaged (s.protRec z c).state && decide (s.mode c = .derate) then classLevel s c else Config.noDerate

/-- The derate factor D of a zone: the smallest level asked for, 256 when none is (R74). -/
def derate (s : State) (z : ZoneNo) : Nat := allClasses.foldl (fun d c => min d (classDerate s z c)) Config.noDerate

/-- Whether the active plan gives lane (z, o) an enabled entry (R31). -/
def slotted (s : State) (z : ZoneNo) (o : OpNo) : Bool :=
  allEntries.any fun n =>
    let e := s.activeEntry (spokeOf z) n
    e.enabled && decide (e.position = positionOf z) && decide (e.operator = o)

/-- Condition 4 of R19 for a binding: it names an enabled sector whose stream is UP. -/
def bindingServes (s : State) (o : OpNo) : Option SectorNo → Bool
  | none => false
  | some sec => (s.sector o sec).enabled && (s.sector o sec).streamUp

/-- A lane is carrying when the five conditions of R19 hold. -/
def carrying (s : State) (z : ZoneNo) (o : OpNo) : Bool :=
  decide (s.transport ≠ .stopped) && (live s z && !muted s z) && decide ((s.oper o).tenancy = .active) &&
    bindingServes s o (s.active z o) && slotted s z o

/-- The missed tally: the missed entries of the history (R49). -/
def LinkRec.tally (r : LinkRec) : Nat := r.history.countP (fun good => !good)

/-! ## Effective budgets, requests and loads -/

/-- The effective budget E of a zone: the floor of B x D / 256 (R121). -/
def effBudget (s : State) (z : ZoneNo) : Nat := (s.zone z).budget * derate s z / 256

/-- The request that a binding asks for. -/
def bindingRequest (s : State) (o : OpNo) : Option SectorNo → Nat
  | none => 0
  | some sec => (s.sector o sec).request

/-- The effective request q' of a lane: the request of its active sector while it carries, else 0 (R122). -/
def effRequest (s : State) (z : ZoneNo) (o : OpNo) : Nat :=
  if carrying s z o then bindingRequest s o (s.active z o) else 0

/-- Whether lane (z, o) adds to the load of sector sec (R92). -/
def contributes (s : State) (o : OpNo) (sec : SectorNo) (z : ZoneNo) : Bool :=
  decide (s.active z o = some sec) && (live s z && carrying s z o)

/-- The sector load S(o, sec): the sum of the cells of the zones that contribute (R92). -/
def sectorLoad (s : State) (o : OpNo) (sec : SectorNo) : Nat :=
  allZones.foldl (fun n z => if contributes s o sec z then n + s.cell z o else n) 0

/-- The number of zones that contribute to S(o, sec) (R95). -/
def contributors (s : State) (o : OpNo) (sec : SectorNo) : Nat := allZones.countP (contributes s o sec)

/-! ## Notice and port flags -/

/-- A queue holds a record or its overrun flag is set: the attention condition (R161). -/
def NoticeQueue.attention (q : NoticeQueue) : Bool := !q.records.isEmpty || q.overrun

/-- Port p's attention line is pulled low (R161). -/
def attentionLow (s : State) (p : Port) : Bool := (s.noticeQueue p).attention

/-- Whether the port's operator is ACTIVE; always so on VN (R167, R175). -/
def tenantActive (s : State) : Port → Bool
  | .vn => true
  | .op o => decide ((s.oper o).tenancy = .active)

/-- The bit of weight w when b holds. -/
def bitIf (w : Nat) (b : Bool) : Nat := if b then w else 0

/-- The port status byte as its fields stand: attention, overrun, FRAME_ERR, REPLY_CUT, tenant active, 0, and the transport
state in two bits (R167, section 11.1). -/
def statusByte (s : State) (p : Port) : Byte :=
  BitVec.ofNat 8 (bitIf 128 (attentionLow s p) + bitIf 64 (s.noticeQueue p).overrun + bitIf 32 (s.port p).frameErr +
    bitIf 16 (s.port p).replyCut + bitIf 8 (tenantActive s p) + s.transport.code)

end Sys2Proof.Machine
end

