-- ==== Sys2Proof/Machine/Operands.lean ====
section
/-! DEFINITION. The request table of section 11.2 (codes, forms and payload lengths) and the tests that the
MPI makes before it hands a request to its owner (R173 to R175). -/

namespace Sys2Proof.Machine

open Sys2Proof

/-- The request code (section 11.2). -/
def requestCode : Req → Nat
  | .readStatus => 0x01
  | .readNotices => 0x02
  | .readQueueLengths => 0x03
  | .start => 0x08
  | .stop => 0x09
  | .freeze => 0x0A
  | .commitPlan => 0x0B
  | .abortCommit => 0x0C
  | .readTransport => 0x0D
  | .readShadowCounts => 0x0E
  | .setPlanWindow => 0x10
  | .writePlanEntries => 0x11
  | .readPlanEntries => 0x12
  | .provisionZone => 0x18
  | .retireZone => 0x19
  | .setBudget => 0x1A
  | .setNeighbours => 0x1B
  | .pinZone => 0x1C
  | .moveZone => 0x1D
  | .readZone => 0x1E
  | .admitOperator => 0x20
  | .suspendOperator => 0x21
  | .releaseOperator => 0x22
  | .readOperator => 0x23
  | .setSectorEnable => 0x24
  | .setSectorPower => 0x25
  | .setLostLimit => 0x28
  | .resetLossCount => 0x29
  | .readLink => 0x2A
  | .setClassMode => 0x30
  | .setDerateLevel => 0x31
  | .faultClear => 0x32
  | .readClassSettings => 0x33
  | .readAlarmSummary => 0x34
  | .readProtection => 0x35
  | .setFilterWeight => 0x38
  | .readLoadCells => 0x39
  | .readSectorLoads => 0x3A
  | .setPolicy => 0x40
  | .setSilenceRule => 0x41
  | .setThresholds => 0x42
  | .setEvaluationPeriod => 0x43
  | .setProposalWindow => 0x44
  | .accept => 0x45
  | .decline => 0x46
  | .setSpreadTimes => 0x47
  | .readSpreadState => 0x48
  | .readSettleCounts => 0x49
  | .setShare => 0x50
  | .readPower => 0x51
  | .readShares => 0x52
  | .readGrants => 0x53
  | .preview => 0x58
  | .readEngine => 0x59

/-- The payload lengths of the venue form; `none` where the form is not offered (section 11.2). -/
def venueLengths : Req → Option (List Nat)
  | .readStatus => some [0]
  | .readNotices => some [1]
  | .readQueueLengths => some [0]
  | .start => some [0]
  | .stop => some [0]
  | .freeze => some [0]
  | .commitPlan => some [0]
  | .abortCommit => some [0]
  | .readTransport => some [0]
  | .readShadowCounts => some [3]
  | .setPlanWindow => some [4]
  | .writePlanEntries => some [3, 6, 9, 12, 15, 18]
  | .readPlanEntries => some [1]
  | .provisionZone => some [1]
  | .retireZone => some [1]
  | .setBudget => some [3]
  | .setNeighbours => some [1, 2, 3, 4, 5, 6, 7, 8, 9]
  | .pinZone => some [2]
  | .moveZone => some [3]
  | .readZone => some [1]
  | .admitOperator => some [1]
  | .suspendOperator => some [1]
  | .releaseOperator => some [1]
  | .readOperator => some [1]
  | .setSectorEnable => none
  | .setSectorPower => none
  | .setLostLimit => some [1]
  | .resetLossCount => some [1]
  | .readLink => some [1]
  | .setClassMode => some [2]
  | .setDerateLevel => some [2]
  | .faultClear => some [1]
  | .readClassSettings => some [0]
  | .readAlarmSummary => some [0]
  | .readProtection => some [1]
  | .setFilterWeight => none
  | .readLoadCells => some [3]
  | .readSectorLoads => some [1]
  | .setPolicy => none
  | .setSilenceRule => none
  | .setThresholds => none
  | .setEvaluationPeriod => none
  | .setProposalWindow => none
  | .accept => none
  | .decline => none
  | .setSpreadTimes => some [4]
  | .readSpreadState => some [1]
  | .readSettleCounts => some [3]
  | .setShare => some [3]
  | .readPower => some [1]
  | .readShares => some [0]
  | .readGrants => some [3]
  | .preview => some [4]
  | .readEngine => some [1]

/-- The payload lengths of the operator form; `none` where the form is not offered (section 11.2). -/
def operatorLengths : Req → Option (List Nat)
  | .readStatus => some [0]
  | .readNotices => some [1]
  | .readQueueLengths => none
  | .start => none
  | .stop => none
  | .freeze => none
  | .commitPlan => none
  | .abortCommit => none
  | .readTransport => none
  | .readShadowCounts => none
  | .setPlanWindow => none
  | .writePlanEntries => none
  | .readPlanEntries => none
  | .provisionZone => none
  | .retireZone => none
  | .setBudget => none
  | .setNeighbours => none
  | .pinZone => none
  | .moveZone => none
  | .readZone => some [1]
  | .admitOperator => none
  | .suspendOperator => none
  | .releaseOperator => none
  | .readOperator => some [0]
  | .setSectorEnable => some [2]
  | .setSectorPower => some [3]
  | .setLostLimit => none
  | .resetLossCount => none
  | .readLink => some [1]
  | .setClassMode => none
  | .setDerateLevel => none
  | .faultClear => none
  | .readClassSettings => none
  | .readAlarmSummary => some [0]
  | .readProtection => some [1]
  | .setFilterWeight => some [2]
  | .readLoadCells => some [2]
  | .readSectorLoads => some [0]
  | .setPolicy => some [1]
  | .setSilenceRule => some [1]
  | .setThresholds => some [8]
  | .setEvaluationPeriod => some [2]
  | .setProposalWindow => some [2]
  | .accept => some [1]
  | .decline => some [1]
  | .setSpreadTimes => none
  | .readSpreadState => some [0]
  | .readSettleCounts => some [2]
  | .setShare => none
  | .readPower => none
  | .readShares => none
  | .readGrants => some [2]
  | .preview => some [3]
  | .readEngine => some [0]

/-- All requests, in the order of section 11.2. -/
def allReqs : List Req :=
  [.readStatus, .readNotices, .readQueueLengths, .start, .stop, .freeze,
   .commitPlan, .abortCommit, .readTransport, .readShadowCounts, .setPlanWindow, .writePlanEntries,
   .readPlanEntries, .provisionZone, .retireZone, .setBudget, .setNeighbours, .pinZone,
   .moveZone, .readZone, .admitOperator, .suspendOperator, .releaseOperator, .readOperator,
   .setSectorEnable, .setSectorPower, .setLostLimit, .resetLossCount, .readLink, .setClassMode,
   .setDerateLevel, .faultClear, .readClassSettings, .readAlarmSummary, .readProtection, .setFilterWeight,
   .readLoadCells, .readSectorLoads, .setPolicy, .setSilenceRule, .setThresholds, .setEvaluationPeriod,
   .setProposalWindow, .accept, .decline, .setSpreadTimes, .readSpreadState, .readSettleCounts,
   .setShare, .readPower, .readShares, .readGrants, .preview, .readEngine]

/-- The request that a code names, if any (test 2 of R173). -/
def requestOfCode (n : Nat) : Option Req := allReqs.find? fun r => decide (requestCode r = n)

/-- The payload lengths of the request's form on a port; the port decides the form (R174). -/
def formLengths (r : Req) : Port → Option (List Nat)
  | .vn => venueLengths r
  | .op _ => operatorLengths r

/-- The requests that an operator port takes in every tenancy state (R175). -/
def takenUntenanted (r : Req) : Bool := decide (r = .readStatus) || decide (r = .readNotices)

/-- Test 4 of R173: the tenancy of the port's operator (R175). -/
def tenancyPasses (s : State) (p : Port) (r : Req) : Bool := tenantActive s p || takenUntenanted r

/-- Tests 3, 4 and 5 of R173 in their order: the result of the first that fails, or `none` when all pass. -/
def testsBeforeOwner (s : State) (p : Port) (r : Req) (len : Nat) : Option Result :=
  match formLengths r p with
  | none => some .notPermitted
  | some lens =>
    if tenancyPasses s p r then
      if lens.contains len then none else some .badLength
    else some .tenantInactive

/-! ## Operands that several requests share -/

/-- A run of a run read: a first number and a count, refused where the first lies at or above 64, the count is 0
or above 16, or the run passes 64 (R48, R94, R119, R137). -/
def runOf (first count : Byte) : Option (List ZoneNo) :=
  if first.toNat < 64 ∧ 0 < count.toNat ∧ count.toNat ≤ Config.maxRun ∧ first.toNat + count.toNat ≤ 64 then
    some ((allZones.drop first.toNat).take count.toNat)
  else none

/-- The operator and the run that READ LOAD CELLS, READ SETTLE COUNTS and READ GRANTS name: the port's own
operator on an operator port, a named one on VN (R94, R119, R137). -/
def laneRun (p : Port) (payload : List Byte) : Option (OpNo × List ZoneNo) :=
  match p, payload with
  | .op o, [first, count] => (runOf first count).map fun l => (o, l)
  | .vn, [o, first, count] => (numBelow 4 o).bind fun o => (runOf first count).map fun l => (o, l)
  | _, _ => none

/-- The operator that READ OPERATOR, READ SECTOR LOADS and READ SPREAD STATE name (R22, R95, R118). -/
def namedOperator (p : Port) (payload : List Byte) : Option OpNo :=
  match p, payload with
  | .op o, [] => some o
  | .vn, [o] => numBelow 4 o
  | _, _ => none

/-- The zone that a one-byte payload names. -/
def namedZone : List Byte → Option ZoneNo
  | [z] => numBelow 64 z
  | _ => none

/-- The operator that a one-byte payload names. -/
def namedOp : List Byte → Option OpNo
  | [o] => numBelow 4 o
  | _ => none

/-! ## Replies -/

/-- A reply with this result and no payload. -/
def replyOf (r : Result) : Reply := { result := r, payload := [], removed := false }

/-- An OK reply with this payload. -/
def replyWith (payload : List Byte) : Reply := { result := .ok, payload := payload, removed := false }

/-- OK, or CLAMPED when the value was changed. -/
def okOrClamped (given stored : Nat) : Reply := replyOf (if given = stored then .ok else .clamped)

end Sys2Proof.Machine
end

