-- ==== Sys2Proof/Decode.lean ====
section
/-! DEFINITION. What a word and what the bytes of a window spell. The table gives no command any bits, so no word
spells a command; a request reaches the part as a frame of bytes (R166), and the command it spells is read here. -/

namespace Sys2Proof

open Machine

/-- The command that a word spells by the table's bits: the table gives none (log entry 13). -/
def decodeTableWord (_nbits _w : Nat) : Option Instr := none

/-- The command that stands for a request completed on a port with a payload. -/
def Req.toInstr : Req → Port → List Byte → Instr
  | .readStatus => .readStatus
  | .readNotices => .readNotices
  | .readQueueLengths => .readQueueLengths
  | .start => .start
  | .stop => .stop
  | .freeze => .freeze
  | .commitPlan => .commitPlan
  | .abortCommit => .abortCommit
  | .readTransport => .readTransport
  | .readShadowCounts => .readShadowCounts
  | .setPlanWindow => .setPlanWindow
  | .writePlanEntries => .writePlanEntries
  | .readPlanEntries => .readPlanEntries
  | .provisionZone => .provisionZone
  | .retireZone => .retireZone
  | .setBudget => .setBudget
  | .setNeighbours => .setNeighbours
  | .pinZone => .pinZone
  | .moveZone => .moveZone
  | .readZone => .readZone
  | .admitOperator => .admitOperator
  | .suspendOperator => .suspendOperator
  | .releaseOperator => .releaseOperator
  | .readOperator => .readOperator
  | .setSectorEnable => .setSectorEnable
  | .setSectorPower => .setSectorPower
  | .setLostLimit => .setLostLimit
  | .resetLossCount => .resetLossCount
  | .readLink => .readLink
  | .setClassMode => .setClassMode
  | .setDerateLevel => .setDerateLevel
  | .faultClear => .faultClear
  | .readClassSettings => .readClassSettings
  | .readAlarmSummary => .readAlarmSummary
  | .readProtection => .readProtection
  | .setFilterWeight => .setFilterWeight
  | .readLoadCells => .readLoadCells
  | .readSectorLoads => .readSectorLoads
  | .setPolicy => .setPolicy
  | .setSilenceRule => .setSilenceRule
  | .setThresholds => .setThresholds
  | .setEvaluationPeriod => .setEvaluationPeriod
  | .setProposalWindow => .setProposalWindow
  | .accept => .accept
  | .decline => .decline
  | .setSpreadTimes => .setSpreadTimes
  | .readSpreadState => .readSpreadState
  | .readSettleCounts => .readSettleCounts
  | .setShare => .setShare
  | .readPower => .readPower
  | .readShares => .readShares
  | .readGrants => .readGrants
  | .preview => .preview
  | .readEngine => .readEngine

/-- The header byte of a request: its code, with the parity bit that makes the number of one bits odd (R166). -/
def headerOf (r : Req) : Byte :=
  if oddParity (BitVec.ofNat 8 (requestCode r)) then BitVec.ofNat 8 (requestCode r) else BitVec.ofNat 8 (requestCode r + 128)

/-- The bytes of a request frame: header, length, payload and check byte (R166, section 11.1). -/
def encodeFrame (r : Req) (payload : List Byte) : List Byte :=
  let body := headerOf r :: BitVec.ofNat 8 payload.length :: payload
  body ++ [checkByte body]

/-- The command that the completed check byte of a frame stands for: tests 1 and 2 of R173, then the request. -/
def judgeFrame (p : Port) (header : Byte) (payload frame : List Byte) : Instr :=
  if oddParity header ∧ sumBytes frame = 0 then
    match requestOfCode (header.toNat % 128) with
    | some r => r.toInstr p payload
    | none => .unknownRequest p
  else .checkFailed p

/-- The command that a frame's bytes stand for once its last byte has come; none while the frame is not complete or
where bytes follow it, which are no part of it (R166, R169). -/
def decodeFrame (p : Port) (frame : List Byte) : Option Instr :=
  match frame with
  | header :: len :: rest =>
    if Config.maxPayload < len.toNat then (if rest = [] then some (.frameLengthError p) else none)
    else if rest.length = len.toNat + 1 then some (judgeFrame p header (rest.take len.toNat) frame)
    else none
  | _ => none

end Sys2Proof
end

