-- ==== Sys2Proof/Machine/Ops.lean ====
section
/-! DEFINITION. The operations that the blocks share: filing notices (R155 to R157), withdrawing proposals
(R116), the working-map write (R13), the immediate clips, short flags and reallocation queue of the Power Share
Unit (R127 to R136), the allocation formula (R124) and the Allocation Engine's arbitration (R142 to R148). -/

namespace Sys2Proof.Machine

open Sys2Proof

/-! ## Notices -/

/-- A notice of a kind with the present stamp and every optional field absent (R155). -/
def notice (s : State) (k : NoticeKind) : Notice :=
  { kind := k, stamp := s.stamp, zone := none, operator := none, fromSector := none, toSector := none,
    alarmClass := none, proposalId := none, value := none }

/-- Append a notice to a queue; a full queue loses its oldest record and sets its overrun flag (R157). -/
def appendNotice (q : NoticeQueue) (n : Notice) : NoticeQueue :=
  if q.records.length < Config.noticeCapacity then { q with records := q.records ++ [n] }
  else { records := q.records.drop 1 ++ [n], overrun := true }

/-- File a notice to one port. -/
def fileOne (n : Notice) (s : State) (p : Port) : State := s.setNotices p (appendNotice (s.noticeQueue p) n)

/-- File a notice: one copy to the queue of each port in the set (R156). -/
def file (s : State) (ports : List Port) (n : Notice) : State := ports.foldl (fileOne n) s

/-- The port of an operator, unless it is ABSENT. -/
def unlessAbsent (s : State) (o : OpNo) : List Port := if (s.oper o).tenancy = .absent then [] else [.op o]

/-- Zone routing: VN, and every operator that is not ABSENT and whose active binding at the zone is not NONE (R59, R76). -/
def zoneRoute (s : State) (z : ZoneNo) : List Port :=
  .vn :: (allOps.filter fun o => decide ((s.oper o).tenancy ≠ .absent) && (s.active z o).isSome).map .op

/-- A zone-routed notice with a value. -/
def fileZone (s : State) (z : ZoneNo) (k : NoticeKind) (value : Nat) : State :=
  file s (zoneRoute s z) { notice s k with zone := some z, value := some value }

/-- A zone-routed notice of an alarm class with a value (R76). -/
def fileAlarm (s : State) (z : ZoneNo) (c : ClassNo) (k : NoticeKind) (value : Nat) : State :=
  file s (zoneRoute s z) { notice s k with zone := some z, alarmClass := some c, value := some value }

/-- TENANCY_CHANGED to the operator and to VN (R8, R9, R10). -/
def fileTenancy (s : State) (o : OpNo) : State :=
  file s [.op o, .vn] { notice s .tenancyChanged with operator := some o, value := some (s.oper o).tenancy.code }

/-! ## Proposals and the working map -/

/-- A notice that carries a proposal (section 9.2). -/
def proposalNotice (s : State) (k : NoticeKind) (o : OpNo) (p : Proposal) (value : Nat) : Notice :=
  { notice s k with
    zone := some p.zone, operator := some o, fromSector := some p.fromSector, toSector := some p.toSector,
    proposalId := some p.id, value := some value }

/-- Close the open proposal p of o: its id becomes the last closed id. -/
def closeProposal (s : State) (o : OpNo) (p : Proposal) : State :=
  s.setSpread o { s.spreadRec o with proposal := none, lastClosed := some p.id }

/-- Withdraw the open proposal of o, if it has one, and file PROPOSAL_WITHDRAWN to o and VN (R116). -/
def withdraw (s : State) (o : OpNo) (why : WithdrawCause) : State :=
  match (s.spreadRec o).proposal with
  | none => s
  | some p => file (closeProposal s o p) [.op o, .vn] (proposalNotice s .proposalWithdrawn o p why.code)

/-- Withdraw the open proposal of o if it satisfies a test. -/
def withdrawIf (s : State) (o : OpNo) (test : Proposal → Bool) (why : WithdrawCause) : State :=
  match (s.spreadRec o).proposal with
  | none => s
  | some p => if test p then withdraw s o why else s

/-- Withdraw every proposal open on a zone, in operator order (R6, R58; the order is log entry 6). -/
def withdrawOnZone (s : State) (z : ZoneNo) (why : WithdrawCause) : State :=
  allOps.foldl (fun s o => withdrawIf s o (fun p => decide (p.zone = z)) why) s

/-- Withdraw every open proposal, in operator order (R29). -/
def withdrawAll (s : State) (why : WithdrawCause) : State := allOps.foldl (fun s o => withdraw s o why) s

/-- Set the working binding of lane (z, o), leaving the latch-pending flag as it is. -/
def setWorking (s : State) (z : ZoneNo) (o : OpNo) (b : Option SectorNo) : State :=
  s.setZone z { s.zone z with working := (s.zone z).working.set o b }

/-- A working-map write: it sets the working binding and the latch-pending flag (R13). -/
def workingWrite (s : State) (z : ZoneNo) (o : OpNo) (b : Option SectorNo) : State :=
  { setWorking s z o b with latchPending := true }

/-! ## Short flags, clips and the reallocation queue -/

/-- A GRANT_SHORT or GRANT_FULL notice, to the lane's operator alone unless it is ABSENT (R136). -/
def fileGrant (s : State) (z : ZoneNo) (o : OpNo) (k : NoticeKind) : State :=
  file s (unlessAbsent s o) { notice s k with zone := some z, operator := some o, value := some (s.grant z o) }

/-- Judge the short flag of lane (z, o) after its grant was written, against its effective request q (R135). -/
def judgeShort (s : State) (z : ZoneNo) (o : OpNo) (q : Nat) : State :=
  if s.grant z o < q ∧ s.isShort z o = false then fileGrant (s.setShort z o true) z o .grantShort
  else if s.grant z o = q ∧ s.isShort z o = true then fileGrant (s.setShort z o false) z o .grantFull
  else s

/-- Append a zone to the reallocation queue unless it is there (R131). -/
def enqueue (s : State) (z : ZoneNo) : State := if z ∈ s.realloc then s else { s with realloc := s.realloc ++ [z] }

/-- The grant that the clips leave: the budget clip when E fell (R128), then the request clip when q' fell (R129). -/
def clippedGrant (g budgetOld budgetNew reqOld reqNew : Nat) : Nat :=
  let g1 := if budgetNew < budgetOld then g * budgetNew / budgetOld else g
  if reqNew < reqOld then min g1 reqNew else g1

/-- Write the four grants of a zone. -/
def setGrants (s : State) (z : ZoneNo) (g : Vector Nat 4) : State := { s with grants := s.grants.set z g }

/-- The immediate clips of zone z for an event that took `old` to `s` (R127, R128, R129). -/
def clipZone (old s : State) (z : ZoneNo) : State :=
  setGrants s z (vec4 fun o =>
    clippedGrant (s.grant z o) (effBudget old z) (effBudget s z) (effRequest old z o) (effRequest s z o))

/-- Whether a clip wrote the grant of lane (z, o): E fell, or the lane's q' fell (R127). -/
def clipWrote (old s : State) (z : ZoneNo) (o : OpNo) : Bool :=
  decide (effBudget s z < effBudget old z) || decide (effRequest s z o < effRequest old z o)

/-- An input change of zone z, for an event that took `old` to `s` as far as the inputs of z go: the clips, the
judgement of each lane whose grant a clip wrote, then the queue (R127). A lane that has started carrying and is clipped
before its zone's next allocation, with grant 0 and q' above 0, is judged like any other: its flag is set and GRANT_SHORT is
filed. R135 has every clip judged, and yet has such a lane's flag clear until that allocation (DESIGN CHOICE, log entry 18). -/
def inputChange (old s : State) (z : ZoneNo) : State :=
  enqueue (allOps.foldl (fun t o => if clipWrote old s z o then judgeShort t z o (effRequest s z o) else t) (clipZone old s z)) z

/-- Whether a lane of zone z had a carrying change between two states (R20). -/
def carryChanged (old s : State) (z : ZoneNo) : Bool := allOps.any fun o => carrying old z o != carrying s z o

/-- The input changes of an event, in zone order: the zones that `also` names and those with a carrying change
(R20, R127, R132). -/
def inputChanges (old s : State) (also : ZoneNo → Bool) : State :=
  (allZones.filter fun z => also z || carryChanged old s z).foldl (inputChange old) s

/-- A share change: all 64 zones are queued and no grant is clipped (R123, R132). -/
def shareChange (s : State) : State := allZones.foldl enqueue s

/-! ## The allocation formula -/

/-- The share grant G of R124: the floor of E x s / 1000. -/
def shareGrant (budget share : Nat) : Nat := budget * share / 1000

/-- The grants of R124 for an effective budget, four shares and four effective requests. -/
def allocate (n : Snapshot) : Vector Nat 4 :=
  if sum4 n.requests ≤ n.budget then n.requests
  else
    let first := vec4 fun o => min n.requests[o] (shareGrant n.budget n.shares[o])
    let leftover := n.budget - sum4 first
    let unmet := vec4 fun o => n.requests[o] - first[o]
    vec4 fun o => first[o] + leftover * unmet[o] / sum4 unmet

/-- The four shares in operator order (R120). -/
def shares (s : State) : Vector Nat 4 := vec4 fun o => (s.oper o).share

/-- The snapshot of zone z: E, the four q' and the four shares as they stand (R144). -/
def snapshotOf (s : State) (z : ZoneNo) : Snapshot :=
  { budget := effBudget s z, requests := vec4 (effRequest s z), shares := shares s }

/-! ## The Allocation Engine -/

/-- The engine state: BUSY while a computation is in flight (R141). -/
def engineBusy (s : State) : Bool := s.flight.isSome

/-- Start a reallocation of zone z, the head of the queue, leaving `rest` queued (R143 step 2, R144). -/
def startReallocation (s : State) (z : ZoneNo) (rest : List ZoneNo) : State :=
  { s with
    realloc := rest
    flight := some { kind := .reallocation, zone := z, snapshot := snapshotOf s z }
    consecutive := saturate Config.maxConsecutive (s.consecutive + 1) }

/-- The snapshot of a preview: the slot's zone with the previewed lane's request replaced where the lane carries (R148). -/
def previewSnapshot (s : State) (e : PreviewSlot) : Snapshot :=
  let n := snapshotOf s e.zone
  if carrying s e.zone e.operator then { n with requests := n.requests.set e.operator e.request } else n

/-- The active sector that a preview keeps: none when the lane is not carrying at the start (R148). -/
def previewSector (s : State) (e : PreviewSlot) : Option SectorNo :=
  if carrying s e.zone e.operator then s.active e.zone e.operator else none

/-- Start the preview of port p, whose slot holds e (R143 step 4, R148). -/
def startPreview (s : State) (p : Port) (e : PreviewSlot) : State :=
  { s.setPreview p (some { e with running := true }) with
    flight := some { kind := .preview p e.operator e.request (previewSector s e), zone := e.zone, snapshot := previewSnapshot s e }
    lastPort := p
    consecutive := 0 }

/-- The rotation VN, OP0, OP1, OP2, OP3 beginning with the port after p (R143 step 4). -/
def rotationAfter (p : Port) : List Port :=
  allPorts.drop ((portNumber p).val + 1) ++ allPorts.take ((portNumber p).val + 1)

/-- The WAITING preview of a port, if its slot holds one. -/
def waitingPreview (s : State) (p : Port) : Option PreviewSlot :=
  match s.previewSlot p with
  | some e => if e.running then none else some e
  | none => none

/-- The first port of the rotation whose slot is WAITING, with its slot (R143 step 4). -/
def nextPreview (s : State) : Option (Port × PreviewSlot) :=
  (rotationAfter s.lastPort).findSome? fun p => (waitingPreview s p).map fun e => (p, e)

/-- An arbitration (R143). -/
def arbitrate (s : State) : State :=
  match s.realloc, nextPreview s with
  | [], none => { s with consecutive := 0 }
  | [], some (p, e) => startPreview { s with consecutive := 0 } p e
  | z :: rest, none => startReallocation s z rest
  | z :: rest, some (p, e) =>
    if s.consecutive < Config.maxConsecutive then startReallocation s z rest else startPreview s p e

/-- Whether an event that took `old` to `s` appended a zone to the queue or filled a preview slot (R142). -/
def workArrived (old s : State) : Bool :=
  decide (old.realloc.length < s.realloc.length) ||
    allPorts.any fun p => (old.previewSlot p).isNone && (s.previewSlot p).isSome

/-- The end of an event that took `old` to `s`: an arbitration where the engine is FREE and work arrived (R142). -/
def endEvent (old s : State) : State := if s.flight.isNone && workArrived old s then arbitrate s else s

/-- Write the grants of a completed reallocation and judge the short flags in operator order (R145). -/
def writeGrants (s : State) (z : ZoneNo) (g : Vector Nat 4) : State :=
  allOps.foldl (fun t o => judgeShort t z o (effRequest s z o)) (setGrants s z g)

/-- The completion of a reallocation of zone z: discarded as stale when z is queued, else written (R145, R146). -/
def completeReallocation (s : State) (z : ZoneNo) (n : Snapshot) : State :=
  if z ∈ s.realloc then { s with stale := saturate Config.max16 (s.stale + 1) } else writeGrants s z (allocate n)

/-- The completion of the preview of port p: PREVIEW_RESULT unless cancelled, and the slot is emptied (R149). -/
def completePreview (s : State) (p : Port) (o : OpNo) (sec : Option SectorNo) (z : ZoneNo) (n : Snapshot) : State :=
  let result :=
    { notice s .previewResult with zone := some z, operator := some o, toSector := sec, value := some (allocate n)[o] }
  let cancelled := match s.previewSlot p with
    | some e => e.cancelled
    | none => false
  (if cancelled then s else file s [p] result).setPreview p none

end Sys2Proof.Machine
end

