-- ==== Sys2Proof/Machine/Events.lean ====
section
/-! DEFINITION. What comes about inside the commands (spec file 95): alarm edges and zone outputs (R68 to R75),
going live and dark (R58, R59), the map latch (R15, R16), the plan commit (R36), entering STOPPED (R29), slot
filling (R30, R34, R35) and the Spread Engine's evaluation and expiry (R104 to R112). -/

namespace Sys2Proof.Machine

open Sys2Proof

/-! ## Alarm edges -/

/-- A record after a rising edge under a mode, and whether ALARM_RAISED is filed (R69). The raw bit is set in
every case; the combinations that R69 calls not reachable keep the rest of the record. -/
def risingEdge (m : ClassMode) (r : ProtRec) : ProtRec × Bool :=
  match r.state with
  | .idle => if m = .ignore then ({ r with raw := true }, false) else ({ raw := true, state := .active, latched := true }, true)
  | .recovering _ =>
    if m = .ignore then ({ r with raw := true }, false) else ({ raw := true, state := .active, latched := true }, true)
  | .held => ({ r with raw := true }, false)
  | .active => ({ r with raw := true }, false)

/-- A record after a falling edge under a mode, and whether ALARM_CLEARED is filed (R70). The raw bit is clear in
every case. -/
def fallingEdge (m : ClassMode) (r : ProtRec) : ProtRec × Bool :=
  match r.state with
  | .active =>
    match m with
    | .report => ({ r with raw := false, state := .idle }, true)
    | .retrySlow => ({ r with raw := false, state := .recovering Config.slowTime }, false)
    | .retryFast => ({ r with raw := false, state := .recovering Config.fastTime }, false)
    | .derate => ({ r with raw := false, state := .recovering Config.slowTime }, false)
    | .latch => ({ r with raw := false, state := .held }, false)
    | .ignore => ({ r with raw := false }, false)
  | _ => ({ r with raw := false }, false)

/-- Take the edge of class c at zone z against the new raw bit; an equal bit is no edge (R68). -/
def takeEdge (s : State) (z : ZoneNo) (c : ClassNo) (bit : Bool) : State :=
  let r := s.protRec z c
  if r.raw = bit then s
  else if bit then
    let (r', told) := risingEdge (s.mode c) r
    if told then fileAlarm (s.setProt z c r') z c .alarmRaised (s.mode c).code else s.setProt z c r'
  else
    let (r', told) := fallingEdge (s.mode c) r
    if told then fileAlarm (s.setProt z c r') z c .alarmCleared ClearCause.falling.code else s.setProt z c r'

/-- Take the edges of a whole vector, in class order (R68). -/
def takeEdges (s : State) (z : ZoneNo) (bits : Vector Bool 6) : State :=
  allClasses.foldl (fun s c => takeEdge s z c bits[c]) s

/-- Whether the mute or D of zone z differ between two states (R75). -/
def outputsChanged (old s : State) (z : ZoneNo) : Bool := muted old z != muted s z || decide (derate old z ≠ derate s z)

/-- The notices of the zone outputs: ZONE_MUTED or ZONE_UNMUTED, then DERATE_CHANGED (R75). -/
def outputNotices (old s : State) (z : ZoneNo) : State :=
  let t := if muted old z != muted s z then
      fileZone s z (if muted s z then .zoneMuted else .zoneUnmuted) (derate s z)
    else s
  if derate old z ≠ derate s z then fileZone t z .derateChanged (derate s z) else t

/-- The Protection Unit's evaluation of zone z after an event that took `old` to `s`: its notices and the input
change, where an output changed (R75). -/
def takeOutputs (old s : State) (z : ZoneNo) : State :=
  if outputsChanged old s z then inputChange old (outputNotices old s z) z else s

/-- The alarm vector of a good word of zone z (R68). -/
def takeVector (s : State) (z : ZoneNo) (bits : Vector Bool 6) : State := takeOutputs s (takeEdges s z bits) z

/-! ## Going live and going dark -/

/-- What a zone's darkness brings before the Power Share Unit's part: ZONE_DARK, the falling edges with the
Protection Unit's notices, and the withdrawals, in the order of R59 (R58, R72, R116). `old` is the state before
the event; in `s` the link has left UP and WEAK. -/
def goDark (old s : State) (z : ZoneNo) (cause : DarkCause) (why : WithdrawCause) : State :=
  let t := takeEdges (fileZone s z .zoneDark cause.code) z (Vector.replicate 6 false)
  withdrawOnZone (outputNotices old t z) z why

/-- A link record in IDLE: everything but the loss count is cleared (R57). -/
def LinkRec.toIdle (r : LinkRec) : LinkRec := { LinkRec.reset with loss := r.loss }

/-- A link record on entry to SEARCH (R51, R56). -/
def LinkRec.toSearch (r : LinkRec) : LinkRec := { LinkRec.reset with state := .search, loss := r.loss }

/-- A zone goes live: ZONE_LIVE with the loss count, then the input change (R58, R59; log entry 3). `old` is the
state before the event; in `s` the link is UP. -/
def goLive (old s : State) (z : ZoneNo) : State := inputChange old (fileZone s z .zoneLive (s.link z).loss) z

/-! ## The Link Supervisor's judgement of a word -/

/-- A history with one more word at its tail, keeping the last 16 (R53 step 1). -/
def pushHistory (h : List Bool) (good : Bool) : List Bool :=
  (if h.length < Config.historyLength then h else h.drop 1) ++ [good]

/-- A word taken in SEARCH (R52). -/
def searchWord (s : State) (z : ZoneNo) (good : Bool) : State :=
  let r := s.link z
  if good then
    if r.goodRun + 1 < Config.goodRunUp then s.setLink z { r with goodRun := r.goodRun + 1, missed := 0 }
    else goLive s (s.setLink z { r with state := .up, goodRun := 0, missed := 0, history := [] }) z
  else s.setLink z { r with goodRun := 0, missed := saturate Config.max8 (r.missed + 1) }

/-- The link record after steps 1 and 2 of R53. -/
def LinkRec.heardWord (r : LinkRec) (good : Bool) : LinkRec :=
  { r with
    history := pushHistory r.history good
    missed := if good then 0 else saturate Config.max8 (r.missed + 1) }

/-- A loss: the link goes LOST and the zone goes dark (R55). `r` is the record after steps 1 and 2 of R53. -/
def loseLink (s : State) (z : ZoneNo) (r : LinkRec) : State :=
  let t := s.setLink z { r with state := .lost, history := [], dwell := 0, loss := saturate Config.max8 (r.loss + 1) }
  inputChange s (goDark s t z .linkLost .zoneDark) z

/-- A LINK_WEAK or LINK_RESTORED notice to VN, with the missed tally (R54). -/
def fileLink (s : State) (z : ZoneNo) (k : NoticeKind) : State :=
  file s [.vn] { notice s k with zone := some z, value := some (s.link z).tally }

/-- A word taken in UP or WEAK (R53). -/
def heardLinkWord (s : State) (z : ZoneNo) (good : Bool) : State :=
  let r := (s.link z).heardWord good
  if good = false ∧ s.lostLimit ≤ r.missed then loseLink s z r
  else if r.state = .up ∧ Config.weakTally ≤ r.tally then fileLink (s.setLink z { r with state := .weak }) z .linkWeak
  else if r.state = .weak ∧ r.tally ≤ Config.restoreTally then fileLink (s.setLink z { r with state := .up }) z .linkRestored
  else s.setLink z r

/-- The Link Supervisor takes a word of zone z, good or missed (R51 to R55). -/
def linkWord (s : State) (z : ZoneNo) (good : Bool) : State :=
  match (s.link z).state with
  | .idle => s
  | .search => searchWord s z good
  | .up => heardLinkWord s z good
  | .weak => heardLinkWord s z good
  | .lost => s

/-! ## The Load Monitor -/

/-- The step of R87 for a filter weight K and a signed difference d. -/
def filterStep (weight : Nat) (d : Int) : Int :=
  let quotient := (weight * d).tdiv 4096
  if d ≠ 0 ∧ quotient = 0 then d.sign else quotient

/-- The new value of a cell Y for a weight K and a sample X (R87). -/
def filterCell (weight y x : Nat) : Nat := ((y : Int) + filterStep weight (((64 * x : Nat) : Int) - (y : Int))).toNat

/-- The activity block of a good cycle-0 word: each carrying lane's cell is updated (R86). -/
def takeActivity (s : State) (z : ZoneNo) (x : Vector Nat 4) : State :=
  { s with cells := s.cells.set z (vec4 fun o =>
      if carrying s z o then filterCell (s.oper o).weight (s.cell z o) x[o] else s.cell z o) }

/-- Set the four load cells of a zone to 0 (R90). -/
def clearZoneCells (s : State) (z : ZoneNo) : State := { s with cells := s.cells.set z (vec4 fun _ => 0) }

/-- Write one value into the entries of one operator in a table of lanes. -/
def fillOperator {α : Type} (t : Vector (Vector α 4) 64) (o : OpNo) (a : α) : Vector (Vector α 4) 64 :=
  retable (fun _ lanes => lanes.set o a) t

/-! ## The map latch and the plan commit -/

/-- Whether the working binding of lane (z, o) differs from its active binding. -/
def bindingDiffers (s : State) (z : ZoneNo) (o : OpNo) : Bool := decide (s.working z o ≠ s.active z o)

/-- The map with every working binding copied into the active map, and the flag clear (R15). -/
def copyBindings (s : State) : State :=
  { s with zones := retable (fun _ r => { r with active := r.working }) s.zones, latchPending := false }

/-- MOVE_DONE of a changed lane, to VN and to the operator unless ABSENT; `old` holds the old binding (R15). -/
def fileMove (old s : State) (z : ZoneNo) (o : OpNo) : State :=
  file s (.vn :: unlessAbsent s o)
    { notice s .moveDone with
      zone := some z, operator := some o, fromSector := old.active z o, toSector := old.working z o }

/-- The notice and the settle load of a changed lane (R15, R105). -/
def moveLane (old s : State) (z : ZoneNo) (o : OpNo) : State :=
  if bindingDiffers old z o then
    let t := fileMove old s z o
    if (t.oper o).tenancy = .absent then t else t.setSettle z o t.settleTime
  else s

/-- The map latch without MARK (R15, R16). -/
def takeLatch (s : State) : State :=
  let t := allZones.foldl (fun t z => allOps.foldl (fun t o => moveLane s t z o) t) (copyBindings s)
  inputChanges s t fun z => allOps.any (bindingDiffers s z)

/-- While STOPPED the latch is taken within the event that set the flag (R16). -/
def latchIfStopped (s : State) : State := if s.transport = .stopped ∧ s.latchPending = true then takeLatch s else s

/-- The plan commit without MARK (R36). -/
def takeCommit (s : State) : State :=
  let t := { s with
    activePlan := s.workPlan
    shadows := Vector.replicate 8 (Vector.replicate 64 Shadow.reset)
    commitPending := false
    lastCommit := some s.stamp }
  inputChanges s t fun z => allOps.any fun o => slotted s z o != slotted t z o

/-! ## Entering STOPPED -/

/-- One zone's part in the entry into STOPPED: the link goes IDLE and, where the zone was live, it goes dark with
its consequences (R29, R57, R59). -/
def stopZone (old s : State) (z : ZoneNo) : State :=
  let t := s.setLink z (s.link z).toIdle
  if live old z then inputChange old (goDark old t z .transportStop .transportStop) z else t

/-- The effects of R29 before the latch and the commit. -/
def stopLinks (s : State) : State :=
  let t := { s with transport := .stopped, firstPending := false, downlink := none }
  withdrawAll (allZones.foldl (stopZone s) t) .transportStop

/-- The latch taken on entry to STOPPED when the flag is set (R16, R29). -/
def latchOnEntry (s : State) : State := if s.latchPending then takeLatch s else s

/-- The commit taken on entry to STOPPED when commit-pending is set (R29, R36). -/
def commitOnEntry (s : State) : State := if s.commitPending then takeCommit s else s

/-- The transport enters STOPPED (R29). -/
def enterStopped (s : State) : State := commitOnEntry (latchOnEntry (stopLinks s))

/-! ## Slot filling -/

/-- Whether an entry matches the cycle (R33). -/
def matchesCycle (s : State) (e : PlanEntry) : Bool := decide (s.cycle % periodOf e.periodCode.val = e.phase.val)

/-- The enabled entries of a spoke's active plan that match the cycle, in entry order (R34). -/
def matchingEntries (s : State) (spoke : SpokeNo) : List EntryNo :=
  allEntries.filter fun n => (s.activeEntry spoke n).enabled && matchesCycle s (s.activeEntry spoke n)

/-- The entries gathered for a slot, the winner first (R34). -/
def gathered (s : State) (spoke : SpokeNo) (slot : SlotNo) : List EntryNo :=
  (matchingEntries s spoke).filter fun n => decide ((s.activeEntry spoke n).slot = slot)

/-- What the slot that an entry wins carries (R35). -/
def slotContent (s : State) (spoke : SpokeNo) (e : PlanEntry) : SlotSend :=
  let z := zoneAt spoke e.position
  if carrying s z e.operator then
    { position := e.position, operator := e.operator, stream := s.active z e.operator, grant := s.grant z e.operator }
  else { position := e.position, operator := e.operator, stream := none, grant := 0 }

/-- Shadow an entry: count it and, at its first shadowing since the commit, report it (R34). -/
def shadowEntry (s : State) (spoke : SpokeNo) (n : EntryNo) : State :=
  let h := s.shadow spoke n
  let e := s.activeEntry spoke n
  let t := s.setShadow spoke n { count := saturate Config.max8 (h.count + 1), reported := true }
  if h.reported then t
  else file t [.vn] { notice s .shadowed with
    zone := some (zoneAt spoke e.position), operator := some e.operator, value := some n.val }

/-- Shadow the losers of every slot of a spoke, in slot order and entry order (R34). -/
def shadowSpoke (s : State) (spoke : SpokeNo) : State :=
  let entries := matchingEntries s spoke
  allSlots.foldl (fun t slot =>
    ((entries.filter fun n => decide ((s.activeEntry spoke n).slot = slot)).drop 1).foldl (fun t n => shadowEntry t spoke n) t) s

/-- The content of a slot: the winner's, or none where no entry is gathered (R30, R34). -/
def fillSlot (s : State) (spoke : SpokeNo) (slot : SlotNo) : Option SlotSend :=
  match gathered s spoke slot with
  | [] => none
  | n :: _ => some (slotContent s spoke (s.activeEntry spoke n))

/-- Slot filling: the marker, the content of all slots fixed from the state as it stands, and the shadowing of
the losers in spoke order (R30, R34, R35). -/
def fillSlots (s : State) : State :=
  let t := allSpokes.foldl shadowSpoke s
  { t with downlink := some { marker := s.stamp, slots := Vector.ofFn fun spoke => Vector.ofFn (fillSlot s spoke) } }

/-! ## The Link Supervisor and the Protection Unit at a cycle start -/

/-- A link record at a cycle start: a LOST link's dwell counts, and its 64th count takes it to SEARCH (R56). -/
def LinkRec.dwellCount (r : LinkRec) : LinkRec :=
  if r.state = .lost then
    if r.dwell + 1 < Config.dwellCycles then { r with dwell := r.dwell + 1 } else r.toSearch
  else r

/-- The dwell counts of all zones at a cycle start (R56). -/
def countDwells (s : State) : State := { s with links := retable (fun _ r => r.dwellCount) s.links }

/-- A retry timer that reaches 0: the record enters IDLE and ALARM_CLEARED (RETRY_DONE) is filed (R71). -/
def expireRetry (s : State) (z : ZoneNo) (c : ClassNo) : State :=
  fileAlarm (s.setProt z c { s.protRec z c with state := .idle }) z c .alarmCleared ClearCause.retryDone.code

/-- One record's retry timer at a superframe start (R71). -/
def countRetry (s : State) (z : ZoneNo) (c : ClassNo) : State :=
  match (s.protRec z c).state with
  | .recovering left =>
    if 1 < left then s.setProt z c { s.protRec z c with state := .recovering (left - 1) } else expireRetry s z c
  | _ => s

/-- The retry timers of one zone at a superframe start, then the zone's outputs once (R71). -/
def countZoneRetries (s : State) (z : ZoneNo) : State := takeOutputs s (allClasses.foldl (fun t c => countRetry t z c) s) z

/-- The Protection Unit's reaction to a superframe start, in zone order (R71, R76). -/
def protectReaction (s : State) : State := allZones.foldl countZoneRetries s

/-! ## The Spread Engine -/

/-- The expiry of the open proposal p of o under the stored silence rule (R112). -/
def expireProposal (s : State) (o : OpNo) (p : Proposal) : State :=
  let rule := (s.oper o).silence
  let t := match rule with
    | .apply => workingWrite s p.zone o (some p.toSector)
    | .drop => s.setSettle p.zone o s.settleTime
  file (closeProposal t o p) [.op o, .vn] (proposalNotice t .proposalExpired o p rule.expiryCode)

/-- The countdown of o's open proposal at a superframe start (R112). -/
def countProposal (s : State) (o : OpNo) : State :=
  match (s.spreadRec o).proposal with
  | none => s
  | some p =>
    if 1 < p.remaining then
      s.setSpread o { s.spreadRec o with proposal := some { p with remaining := p.remaining - 1 } }
    else expireProposal s o p

/-- The enabled sector with the largest load, the lower-numbered of equals (R107 step 3). -/
def loadedSector (s : State) (o : OpNo) (loads : Vector Nat 8) : Option SectorNo :=
  allSectors.foldl (fun best t =>
    if (s.sector o t).enabled then
      match best with
      | none => some t
      | some b => if loads[b] < loads[t] then some t else best
    else best) none

/-- Whether t is a target sector of o when h is loaded (R108). -/
def isTarget (s : State) (o : OpNo) (h : SectorNo) (loads : Vector Nat 8) (t : SectorNo) : Bool :=
  (s.sector o t).enabled && (s.sector o t).streamUp && decide (t ≠ h) && decide (loads[t] < (s.oper o).low)

/-- Whether zone z is a candidate for target t (R108). -/
def isCandidate (s : State) (o : OpNo) (h : SectorNo) (loads : Vector Nat 8) (t : SectorNo) (z : ZoneNo) : Bool :=
  decide (s.active z o = some h) && carrying s z o && !(s.zone z).pinned && decide (s.settleCount z o = 0) &&
    decide (0 < s.cell z o) &&
    ((s.zone z).neighbours.any fun n => live s n && decide (s.active n o = some t)) &&
    decide (loads[t] + s.cell z o ≤ (s.oper o).high) &&
    (allZones.any fun y => decide (y ≠ z) && live s y && decide (s.active y o = some h))

/-- The zone with the largest cell of a list in zone order, the lower-numbered of equals (R109). -/
def fullestZone (s : State) (o : OpNo) (l : List ZoneNo) : Option ZoneNo :=
  l.foldl (fun best z =>
    match best with
    | none => some z
    | some b => if s.cell b o < s.cell z o then some z else best) none

/-- The pair chosen by R109: the target of the smallest load that has a candidate, and its candidate of the
largest cell. -/
def choosePair (s : State) (o : OpNo) (h : SectorNo) (loads : Vector Nat 8) : Option (SectorNo × ZoneNo) :=
  allSectors.foldl (fun best t =>
    if isTarget s o h loads t then
      match fullestZone s o (allZones.filter (isCandidate s o h loads t)) with
      | none => best
      | some z =>
        match best with
        | none => some (t, z)
        | some (b, _) => if loads[t] < loads[b] then some (t, z) else best
    else best) none

/-- What an evaluation decides: an outcome that ends it, or a move of a zone from a sector to a sector. -/
inductive Decision where
  | ends (outcome : EvalOutcome)
  | move (zone : ZoneNo) (fromSector toSector : SectorNo)
deriving DecidableEq, Repr

/-- The tests and the choice of an evaluation of o (R107 to R109). -/
def decideMove (s : State) (o : OpNo) : Decision :=
  if (s.spreadRec o).proposal.isSome then .ends .proposalOpen
  else if s.latchPending && allZones.any (fun z => bindingDiffers s z o) then .ends .latchPending
  else
    let loads := Vector.ofFn (sectorLoad s o)
    match loadedSector s o loads with
    | none => .ends .noPressure
    | some h =>
      if loads[h] ≤ (s.oper o).high then .ends .noPressure
      else
        match choosePair s o h loads with
        | none => .ends .noCandidate
        | some (t, z) => .move z h t

/-- Record the outcome of an evaluation of o (R106). -/
def setOutcome (s : State) (o : OpNo) (e : EvalOutcome) : State := s.setSpread o { s.spreadRec o with outcome := e }

/-- Open a proposal of o (R111). -/
def openProposal (s : State) (o : OpNo) (z : ZoneNo) (h t : SectorNo) : State :=
  let r := s.spreadRec o
  let p : Proposal := { id := r.nextId, zone := z, fromSector := h, toSector := t, remaining := (s.oper o).window }
  let u := s.setSpread o { r with proposal := some p, nextId := (r.nextId + 1) % Config.idCount, outcome := .proposed }
  file u [.op o, .vn] (proposalNotice u .proposal o p p.remaining)

/-- An evaluation of operator o (R107 to R111). -/
def evaluate (s : State) (o : OpNo) : State :=
  match decideMove s o with
  | .ends e => setOutcome s o e
  | .move z h t =>
    if (s.oper o).policy = .auto then setOutcome (workingWrite s z o (some t)) o .moved else openProposal s o z h t

/-- Whether superframe starts are counted on o's evaluation counter (R106). -/
def counted (s : State) (o : OpNo) : Bool := decide ((s.oper o).tenancy = .active) && decide ((s.oper o).policy ≠ .fixed)

/-- Set o's evaluation counter. -/
def setEvalCount (s : State) (o : OpNo) (n : Nat) : State := s.setSpread o { s.spreadRec o with evalCount := n }

/-- Run the evaluation of o that falls due: the counter returns to 0 (R106). -/
def runEvaluation (s : State) (o : OpNo) : State := evaluate (setEvalCount s o 0) o

/-- One operator's evaluation counter at a superframe start (R106). -/
def countEvaluation (s : State) (o : OpNo) : State :=
  if counted s o then
    if (s.spreadRec o).evalCount + 1 < (s.oper o).period then setEvalCount s o ((s.spreadRec o).evalCount + 1)
    else runEvaluation s o
  else s

/-- Every settle counter above 0 is decremented (R104 part 1, R105). -/
def countSettles (s : State) : State := { s with settle := retable (fun _ lanes => retable (fun _ n => n - 1) lanes) s.settle }

/-- The Spread Engine's reaction to a superframe start, its three parts in order (R104). -/
def spreadReaction (s : State) : State := allOps.foldl countEvaluation (allOps.foldl countProposal (countSettles s))

end Sys2Proof.Machine
end

