-- ==== Sys2Proof/Machine/Ports.lean ====
section
/-! DEFINITION. The Management Port Interface (chapter 10): the taking of a request, the frame events of a port,
READ STATUS and the slot plan window. -/

namespace Sys2Proof.Machine

open Sys2Proof

/-! ## The taking of a request -/

/-- Give port p its reply: the frame has been judged and the port enters WAITING (R166, R168). -/
def answer (s : State) (p : Port) (r : Reply) : State :=
  s.setPort p { s.port p with frame := .waiting, reply := some r }

/-- The completion of the check byte of a good frame of request r on port p. A frame completes in RECEIVING with
its header byte complete; in every other frame state bytes are ignored or cannot come, and nothing changes (R166,
R168, R169, log entry 2). Tests 3 to 5 come before the owner (R173); the owner acts within the event, whose end
may hold an arbitration (R142). -/
def serve (r : Req) (p : Port) (payload : List Byte) (owner : State → State × Reply) (s : State) : State :=
  if (s.port p).frame = .receiving true then
    match testsBeforeOwner s p r payload.length with
    | some result => answer s p (replyOf result)
    | none => answer (endEvent s (owner s).1) p (owner s).2
  else s

/-- An owner that declines: no state changes and the reply has no payload (R173). -/
def refuse (s : State) (r : Result) : State × Reply := (s, replyOf r)

/-- The operator of an operator port, for a request offered in the operator form alone; the port test has
refused VN before (R174). -/
def withOperator (p : Port) (s : State) (f : OpNo → State × Reply) : State × Reply :=
  match p with
  | .op o => f o
  | .vn => refuse s .notPermitted

/-! ## Frame events -/

/-- The bits of the status byte whose fields are still to be read when n bits have been placed. A field is read when its first
bit is sent (R167), so bit 0 is read with bit 1: the transport state shows its old or its new value, and no mixture (R180; log
entry 9). -/
def unreadBits (n : Nat) : Byte := if n < 7 then (0xFF : Byte) >>> n else 0

/-- The status byte of the window with the fields that a mask names read at this moment. What was read before stays (R164, R167). -/
def readFields (s : State) (p : Port) (mask : Byte) : Byte := ((s.port p).status &&& ~~~mask) ||| (statusByte s p &&& mask)

/-- The chip-select of an IDLE port is asserted: RECEIVING, and the first bit of the status byte is placed, bit 7 (R164, R166). -/
def assertSelect (s : State) (p : Port) : State :=
  if (s.port p).frame = .idle then
    s.setPort p { s.port p with frame := .receiving false, status := statusByte s p &&& ~~~unreadBits 1, placed := 1, reply := none }
  else s

/-- Whether a port's header byte is being clocked in. -/
def inHeader (s : State) (p : Port) : Bool := decide ((s.port p).frame = .receiving false)

/-- A falling edge of SCLK on a port whose header byte is being clocked in: the next bit of the status byte is placed, and the
field that begins with it is read (R164, R167). The eighth bit is the last. -/
def placeNext (s : State) (p : Port) : State :=
  if inHeader s p = true ∧ (s.port p).placed < 8 then
    let n := (s.port p).placed
    s.setPort p { s.port p with status := readFields s p (unreadBits n &&& ~~~unreadBits (n + 1)), placed := n + 1 }
  else s

/-- The port of a number. -/
def portOf (n : Fin 5) : Port := if h : n.val = 0 then .vn else .op ⟨n.val - 1, by omega⟩

/-- Time passes with no command waiting: while a header byte is being clocked in, one SCLK falls, that of the port that the
free value names (R164, log entries 9 and 10). With no header byte under way nothing happens. -/
def clockFalls (s : State) : State :=
  if allPorts.any (inHeader s) then { placeNext s (portOf (Config.clockedPort s.edges)) with edges := s.edges + 1 } else s

/-- The header byte completes: the status byte counts as shown and both sticky flags are cleared (R167). The bits that no
falling edge has placed since the last event have been placed since then, their fields as they stand (R164). -/
def headerDone (s : State) (p : Port) : State :=
  if (s.port p).frame = .receiving false then
    s.setPort p { s.port p with
      frame := .receiving true, frameErr := false, replyCut := false
      status := readFields s p (unreadBits (s.port p).placed), placed := 8 }
  else s

/-- A length byte above 30 completes: FRAME_ERR and IGNORING (R169). -/
def lengthError (s : State) (p : Port) : State :=
  if (s.port p).frame = .receiving true then s.setPort p { s.port p with frame := .ignoring, frameErr := true } else s

/-- A completed frame that is refused before any owner is reached (R171, R173 tests 1 and 2). -/
def refuseFrame (s : State) (p : Port) (r : Result) : State :=
  if (s.port p).frame = .receiving true then answer s p (replyOf r) else s

/-- The reply is assembled: WAITING to REPLYING (R168). -/
def startReply (s : State) (p : Port) : State :=
  if (s.port p).frame = .waiting then s.setPort p { s.port p with frame := .replying } else s

/-- The reply check byte has been sent: REPLYING to ENDED (R168). -/
def endReply (s : State) (p : Port) : State :=
  if (s.port p).frame = .replying then s.setPort p { s.port p with frame := .ended } else s

/-- Whether the reply of the window is that of a READ NOTICES that removed records (R159). -/
def replyRemoved (r : PortRec) : Bool :=
  match r.reply with
  | some x => x.removed
  | none => false

/-- A reply that is cut: REPLY_CUT, and the overrun flag again where a READ NOTICES removed records (R159, R172). VN is no
exception, though the table under R162 has its flag "kept" (DESIGN CHOICE, log entry 17). -/
def cutReply (s : State) (p : Port) : State :=
  let t := s.setPort p { s.port p with frame := .idle, replyCut := true, reply := none }
  if replyRemoved (s.port p) then t.setNotices p { t.noticeQueue p with overrun := true } else t

/-- The chip-select is released (section 10.2, R168 to R172). -/
def releaseSelect (s : State) (p : Port) : State :=
  match (s.port p).frame with
  | .idle => s
  | .receiving false => s.setPort p { s.port p with frame := .idle, reply := none }
  | .receiving true => s.setPort p { s.port p with frame := .idle, frameErr := true, reply := none }
  | .ignoring => s.setPort p { s.port p with frame := .idle, reply := none }
  | .waiting => cutReply s p
  | .replying => cutReply s p
  | .ended => s.setPort p { s.port p with frame := .idle, reply := none }

/-- CHIP_SELECT_ASSERT (R166). -/
def execChipSelectAssert (p : Port) (s : State) : Host.Outcome State Fault Refusal := .next (assertSelect s p)
/-- CHIP_SELECT_RELEASE (R170, R172). -/
def execChipSelectRelease (p : Port) (s : State) : Host.Outcome State Fault Refusal := .next (releaseSelect s p)
/-- HEADER_BYTE_COMPLETE (R167). -/
def execHeaderByteComplete (p : Port) (s : State) : Host.Outcome State Fault Refusal := .next (headerDone s p)
/-- FRAME_LENGTH_ERROR (R169). -/
def execFrameLengthError (p : Port) (s : State) : Host.Outcome State Fault Refusal := .next (lengthError s p)
/-- CHECK_FAILED (R171). -/
def execCheckFailed (p : Port) (s : State) : Host.Outcome State Fault Refusal := .next (refuseFrame s p .checkFailed)
/-- UNKNOWN_REQUEST (R173 test 2). -/
def execUnknownRequest (p : Port) (s : State) : Host.Outcome State Fault Refusal :=
  .next (refuseFrame s p .unknownRequest)
/-- REPLY_START (R168). -/
def execReplyStart (p : Port) (s : State) : Host.Outcome State Fault Refusal := .next (startReply s p)
/-- REPLY_END (R168). -/
def execReplyEnd (p : Port) (s : State) : Host.Outcome State Fault Refusal := .next (endReply s p)

/-- RSTN: every block at its values after RSTn; the model's queue of waiting commands and its count of falling edges are not
the part's (R23, R154, R165). -/
def execRstn (s : State) : Host.Outcome State Fault Refusal :=
  .next { State.reset with pending := s.pending, edges := s.edges }

/-! ## READ STATUS -/

/-- The tenancy that READ STATUS shows: the operator's, and ACTIVE on VN (R176). -/
def shownTenancy (s : State) : Port → Tenancy
  | .vn => .active
  | .op o => (s.oper o).tenancy

/-- The payload of READ STATUS in the order of R176. -/
def statusPayload (s : State) (p : Port) : List Byte :=
  u8 (portNumber p).val ++ Config.partIdentity ++ [Config.partRevision] ++ u8 (shownTenancy s p).code ++
    u8 s.transport.code ++ u16 s.superframe ++ u8 s.cycle ++ u8 (s.noticeQueue p).records.length ++
    flagByte (s.noticeQueue p).overrun ++ u8 (slotCode (s.previewSlot p))

/-- READ STATUS (R176). -/
def execReadStatus (p : Port) (payload : List Byte) (s : State) : Host.Outcome State Fault Refusal :=
  .next (serve .readStatus p payload (fun s => (s, replyWith (statusPayload s p))) s)

/-! ## The slot plan window -/

/-- SET PLAN WINDOW (R177). -/
def ownSetPlanWindow (payload : List Byte) (s : State) : State × Reply :=
  match payload with
  | [a, b, c, d] =>
    match numBelow 8 a, numBelow 8 b, numBelow 64 c, numBelow 64 d with
    | some fs, some ls, some fe, some le =>
      if fs ≤ ls ∧ fe ≤ le then
        ({ s with window := { firstSpoke := fs, lastSpoke := ls, firstEntry := fe, lastEntry := le, spoke := fs,
                              entry := fe, stage := none } }, replyOf .ok)
      else refuse s .outOfRange
    | _, _, _, _ => refuse s .outOfRange
  | _ => refuse s .badLength

/-- One step of the pointer: the next entry of the row, then the next spoke, then the window's start (R178). -/
def PlanWindow.advance (w : PlanWindow) : PlanWindow :=
  if h : w.entry.val + 1 ≤ w.lastEntry.val then { w with entry := ⟨w.entry.val + 1, by omega⟩ }
  else if h2 : w.spoke.val + 1 ≤ w.lastSpoke.val then
    { w with entry := w.firstEntry, spoke := ⟨w.spoke.val + 1, by omega⟩ }
  else { w with entry := w.firstEntry, spoke := w.firstSpoke }

/-- The entries that a payload of three-byte entries spells; `none` where bytes are left over. -/
def readEntries : List Byte → Option (List RawEntry)
  | [] => some []
  | a :: b :: c :: rest => (readEntries rest).map fun l => readEntry a b c :: l
  | _ => none

/-- Write one entry at the pointer, checked and stored as R32 states, and advance the pointer (R178). -/
def writeEntry (s : State) (r : RawEntry) : State :=
  let t := s.setWorkEntry s.window.spoke s.window.entry (checkEntry r)
  { t with window := s.window.advance }

/-- WRITE PLAN ENTRIES (R32, R178). -/
def ownWritePlanEntries (payload : List Byte) (s : State) : State × Reply :=
  match readEntries payload with
  | some entries =>
    let t := entries.foldl writeEntry s
    (t, replyWith (u8 (entries.countP forcedOff) ++ u8 t.window.spoke.val ++ u8 t.window.entry.val))
  | none => refuse s .badLength

/-- One step of READ PLAN ENTRIES: the copy of the entry at the pointer goes into the stage and the pointer
advances (R179). -/
def stageStep (s : State) : State :=
  let w := s.window
  { s with window := { w.advance with stage := some { spoke := w.spoke, entry := w.entry, plan := s.workEntry w.spoke w.entry } } }

/-- The state after n steps of READ PLAN ENTRIES and the bytes placed in the reply, entry after entry with no count byte
before them (R179, R183; DESIGN CHOICE, log entry 8). -/
def readSteps : Nat → State → State × List Byte
  | 0, s => (s, [])
  | n + 1, s => ((readSteps n (stageStep s)).1, stageBytes s.window.stage ++ (readSteps n (stageStep s)).2)

/-- READ PLAN ENTRIES (R179): the reply is the entries alone, five bytes each (R183); that no count byte comes before them is
a DESIGN CHOICE (log entry 8). -/
def ownReadPlanEntries (payload : List Byte) (s : State) : State × Reply :=
  match payload with
  | [count] =>
    if 0 < count.toNat ∧ count.toNat ≤ Config.maxPlanRead then
      ((readSteps count.toNat s).1, replyWith (readSteps count.toNat s).2)
    else refuse s .outOfRange
  | _ => refuse s .badLength

/-- SET PLAN WINDOW (R177). -/
def execSetPlanWindow (p : Port) (payload : List Byte) (s : State) : Host.Outcome State Fault Refusal :=
  .next (serve .setPlanWindow p payload (ownSetPlanWindow payload) s)
/-- WRITE PLAN ENTRIES (R178). -/
def execWritePlanEntries (p : Port) (payload : List Byte) (s : State) : Host.Outcome State Fault Refusal :=
  .next (serve .writePlanEntries p payload (ownWritePlanEntries payload) s)
/-- READ PLAN ENTRIES (R179). -/
def execReadPlanEntries (p : Port) (payload : List Byte) (s : State) : Host.Outcome State Fault Refusal :=
  .next (serve .readPlanEntries p payload (ownReadPlanEntries payload) s)

end Sys2Proof.Machine
end

