-- ==== Sys2Proof/Machine/Link.lean ====
section
/-! DEFINITION. The Link Supervisor's requests and its dwell (chapter 3). -/

namespace Sys2Proof.Machine

open Sys2Proof

/-- SET LOST LIMIT (R50). -/
def ownSetLostLimit (payload : List Byte) (s : State) : State × Reply :=
  match payload with
  | [n] =>
    let limit := clampTo Config.minLostLimit Config.maxLostLimit n.toNat
    ({ s with lostLimit := limit }, okOrClamped n.toNat limit)
  | _ => refuse s .badLength

/-- Set the loss count of one zone to 0 (R61). -/
def clearLoss (s : State) (z : ZoneNo) : State := s.setLink z { s.link z with loss := 0 }

/-- RESET LOSS COUNT (R61). -/
def ownResetLossCount (payload : List Byte) (s : State) : State × Reply :=
  match payload with
  | [a] =>
    match zoneOrAll a with
    | none => refuse s .outOfRange
    | some zones => (zones.foldl clearLoss s, replyOf .ok)
  | _ => refuse s .badLength

/-- The payload of READ LINK: the whole record and the lost limit on VN, three fields on an operator port (R60). -/
def linkPayload (s : State) (z : ZoneNo) : Port → List Byte
  | .vn =>
    u8 (s.link z).state.code ++ listBytes ((s.link z).history.map flagByte) ++ u8 (s.link z).tally ++ u8 (s.link z).goodRun ++
      u8 (s.link z).missed ++ u8 (s.link z).dwell ++ u8 (s.link z).loss ++ u8 s.lostLimit
  | .op _ => u8 (s.link z).state.code ++ u8 (s.link z).tally ++ u8 (s.link z).loss

/-- READ LINK (R60). -/
def ownReadLink (p : Port) (payload : List Byte) (s : State) : State × Reply :=
  match namedZone payload with
  | none => refuse s .outOfRange
  | some z => (s, replyWith (linkPayload s z p))

/-- The dwell of zone z's link reaches 64 at a cycle start: LOST to SEARCH. Where the next cycle start is not the
64th in LOST, the event cannot come (R56, R27, log entry 2). -/
def dwellExpiry (s : State) (z : ZoneNo) : State :=
  if s.transport ≠ .stopped ∧ (s.link z).state = .lost ∧ Config.dwellCycles ≤ (s.link z).dwell + 1 then
    s.setLink z (s.link z).toSearch
  else s

/-- SET LOST LIMIT (R50). -/
def execSetLostLimit (p : Port) (payload : List Byte) (s : State) : Host.Outcome State Fault Refusal :=
  .next (serve .setLostLimit p payload (ownSetLostLimit payload) s)
/-- RESET LOSS COUNT (R61). -/
def execResetLossCount (p : Port) (payload : List Byte) (s : State) : Host.Outcome State Fault Refusal :=
  .next (serve .resetLossCount p payload (ownResetLossCount payload) s)
/-- READ LINK (R60). -/
def execReadLink (p : Port) (payload : List Byte) (s : State) : Host.Outcome State Fault Refusal :=
  .next (serve .readLink p payload (ownReadLink p payload) s)
/-- LOST_DWELL_EXPIRY (R56). -/
def execLostDwellExpiry (z : ZoneNo) (s : State) : Host.Outcome State Fault Refusal := .next (dwellExpiry s z)

end Sys2Proof.Machine
end

