-- ==== Sys2Proof/Machine/Load.lean ====
section
/-! DEFINITION. The Load Monitor's requests (chapter 5). -/

namespace Sys2Proof.Machine

open Sys2Proof

/-- SET FILTER WEIGHT (R88). -/
def ownSetFilterWeight (o : OpNo) (payload : List Byte) (s : State) : State × Reply :=
  match payload with
  | [hi, lo] =>
    let k := clampTo 1 Config.filterOne (num16 hi lo)
    (s.setOper o { s.oper o with weight := k }, okOrClamped (num16 hi lo) k)
  | _ => refuse s .badLength

/-- READ LOAD CELLS (R94). -/
def ownReadLoadCells (p : Port) (payload : List Byte) (s : State) : State × Reply :=
  match laneRun p payload with
  | none => refuse s .outOfRange
  | some (o, run) =>
    (s, replyWith (run.flatMap fun z => u16 (s.cell z o) ++ flagByte (carrying s z o) ++ sectorByte (s.active z o)))

/-- The payload of READ SECTOR LOADS (R95). -/
def loadsPayload (s : State) (o : OpNo) : List Byte :=
  allSectors.flatMap (fun sec => u32 (sectorLoad s o sec) ++ u8 (contributors s o sec)) ++ u32 (s.oper o).high ++
    u32 (s.oper o).low

/-- READ SECTOR LOADS (R95). -/
def ownReadSectorLoads (p : Port) (payload : List Byte) (s : State) : State × Reply :=
  match namedOperator p payload with
  | none => refuse s .outOfRange
  | some o => (s, replyWith (loadsPayload s o))

/-- SET FILTER WEIGHT (R88). -/
def execSetFilterWeight (p : Port) (payload : List Byte) (s : State) : Host.Outcome State Fault Refusal :=
  .next (serve .setFilterWeight p payload (fun s => withOperator p s fun o => ownSetFilterWeight o payload s) s)
/-- READ LOAD CELLS (R94). -/
def execReadLoadCells (p : Port) (payload : List Byte) (s : State) : Host.Outcome State Fault Refusal :=
  .next (serve .readLoadCells p payload (ownReadLoadCells p payload) s)
/-- READ SECTOR LOADS (R95). -/
def execReadSectorLoads (p : Port) (payload : List Byte) (s : State) : Host.Outcome State Fault Refusal :=
  .next (serve .readSectorLoads p payload (ownReadSectorLoads p payload) s)

end Sys2Proof.Machine
end

