-- ==== Sys2Proof/Machine/Notices.lean ====
section
/-! DEFINITION. The Notice Unit's requests (chapter 9). -/

namespace Sys2Proof.Machine

open Sys2Proof

/-- The payload of READ NOTICES: the overrun flag, the records removed and the remaining count (R158, R183). -/
def noticesPayload (q : NoticeQueue) (count : Nat) : List Byte :=
  flagByte q.overrun ++ listBytes ((q.records.take count).map Notice.bytes) ++ u8 (q.records.drop count).length

/-- READ NOTICES (R158). -/
def ownReadNotices (p : Port) (payload : List Byte) (s : State) : State × Reply :=
  match payload with
  | [a] =>
    if 0 < a.toNat ∧ a.toNat ≤ Config.maxNoticeRead then
      let q := s.noticeQueue p
      (s.setNotices p { records := q.records.drop a.toNat, overrun := false },
        { result := .ok, payload := noticesPayload q a.toNat, removed := !q.records.isEmpty })
    else refuse s .outOfRange
  | _ => refuse s .badLength

/-- The payload of READ QUEUE LENGTHS (R160). -/
def lengthsPayload (s : State) : List Byte :=
  allPorts.flatMap fun p => u8 (s.noticeQueue p).records.length ++ flagByte (s.noticeQueue p).overrun

/-- READ NOTICES (R158). -/
def execReadNotices (p : Port) (payload : List Byte) (s : State) : Host.Outcome State Fault Refusal :=
  .next (serve .readNotices p payload (ownReadNotices p payload) s)
/-- READ QUEUE LENGTHS (R160). -/
def execReadQueueLengths (p : Port) (payload : List Byte) (s : State) : Host.Outcome State Fault Refusal :=
  .next (serve .readQueueLengths p payload (fun s => (s, replyWith (lengthsPayload s))) s)

end Sys2Proof.Machine
end

