-- ==== Sys2Proof/Machine/Power.lean ====
section
/-! DEFINITION. The requests of the Power Share Unit and of the Allocation Engine, and the engine's completions
(chapters 7 and 8). -/

namespace Sys2Proof.Machine

open Sys2Proof

/-! ## Power Share Unit -/

/-- The sum of the four shares with o's replaced (R123). -/
def shareSumWith (s : State) (o : OpNo) (n : Nat) : Nat := sum4 ((shares s).set o n)

/-- Store a share; a new value is a share change (R123, R132). -/
def storeShare (s : State) (o : OpNo) (n : Nat) : State :=
  if (s.oper o).share = n then s else shareChange (s.setOper o { s.oper o with share := n })

/-- SET SHARE (R123). -/
def ownSetShare (payload : List Byte) (s : State) : State × Reply :=
  match payload with
  | [a, hi, lo] =>
    match numBelow 4 a with
    | none => refuse s .outOfRange
    | some o =>
      if Config.maxShare < num16 hi lo then refuse s .outOfRange
      else if Config.maxShare < shareSumWith s o (num16 hi lo) then refuse s .shareExceeded
      else (storeShare s o (num16 hi lo), replyWith (u16 (shareSumWith s o (num16 hi lo))))
  | _ => refuse s .badLength

/-- A zone's place in the reallocation queue, 1 at the head, 0 when it is not in it (R138). -/
def queuePlace (s : State) (z : ZoneNo) : Nat := if z ∈ s.realloc then s.realloc.idxOf z + 1 else 0

/-- The sum of a zone's grants. -/
def grantSum (s : State) (z : ZoneNo) : Nat := sum4 (vec4 (s.grant z))

/-- The payload of READ POWER (R138). -/
def powerPayload (s : State) (z : ZoneNo) : List Byte :=
  u16 (s.zone z).budget ++ u16 (derate s z) ++ u16 (effBudget s z) ++ allOps.flatMap (fun o => u16 (effRequest s z o)) ++
    allOps.flatMap (fun o => u16 (s.grant z o)) ++ allOps.flatMap (fun o => flagByte (s.isShort z o)) ++ u16 (grantSum s z) ++
    u16 (effBudget s z - grantSum s z) ++ u8 (queuePlace s z) ++ u8 s.realloc.length

/-- READ POWER (R138). -/
def ownReadPower (payload : List Byte) (s : State) : State × Reply :=
  match namedZone payload with
  | none => refuse s .outOfRange
  | some z => (s, replyWith (powerPayload s z))

/-- The payload of READ SHARES (R139). -/
def sharesPayload (s : State) : List Byte := allOps.flatMap (fun o => u16 (s.oper o).share) ++ u16 (sum4 (shares s))

/-- READ GRANTS (R137). -/
def ownReadGrants (p : Port) (payload : List Byte) (s : State) : State × Reply :=
  match laneRun p payload with
  | none => refuse s .outOfRange
  | some (o, run) =>
    (s, replyWith (run.flatMap fun z => u16 (s.grant z o) ++ u16 (effRequest s z o) ++ flagByte (s.isShort z o)))

/-! ## Allocation Engine -/

/-- The lane and the hypothetical request that a PREVIEW names: the port's own operator on an operator port, a named
one on VN (R147). -/
def previewLane (p : Port) (payload : List Byte) : Option (ZoneNo × OpNo × Nat) :=
  match p, payload with
  | .op o, [a, hi, lo] => (numBelow 64 a).map fun z => (z, o, num16 hi lo)
  | .vn, [a, b, hi, lo] => (numBelow 64 a).bind fun z => (numBelow 4 b).map fun o => (z, o, num16 hi lo)
  | _, _ => none

/-- PREVIEW (R147). -/
def ownPreview (p : Port) (payload : List Byte) (s : State) : State × Reply :=
  match previewLane p payload with
  | none => refuse s .outOfRange
  | some (z, o, n) =>
    match s.previewSlot p with
    | some _ => refuse s .previewBusy
    | none =>
      (s.setPreview p (some { zone := z, operator := o, request := min n Config.maxRequest, running := false, cancelled := false }),
        okOrClamped n (min n Config.maxRequest))

/-- The computation in flight, or none, in the VN reply of READ ENGINE (R152; log entry 8). -/
def flightBytes : Option Computation → List Byte
  | none => flagByte false ++ u8 0 ++ u8 0 ++ u8 0
  | some c =>
    match c.kind with
    | .reallocation => flagByte true ++ u8 0 ++ u8 c.zone.val ++ u8 0
    | .preview p _ _ _ => flagByte true ++ u8 1 ++ u8 c.zone.val ++ u8 (portNumber p).val

/-- A preview slot in the VN reply of READ ENGINE: its state, and whether it is cancelled (R152; log entry 8). -/
def slotBytes (e : Option PreviewSlot) : List Byte :=
  u8 (slotCode e) ++ flagByte (match e with
    | some x => x.running && x.cancelled
    | none => false)

/-- An operator port's own slot in READ ENGINE (R152; log entry 8). -/
def ownSlotBytes : Option PreviewSlot → List Byte
  | none => u8 0 ++ u8 0 ++ u16 0
  | some e => u8 (slotCode (some e)) ++ u8 e.zone.val ++ u16 e.request

/-- The payload of READ ENGINE on VN (R152). -/
def enginePayload (s : State) : List Byte :=
  u8 (if engineBusy s then 1 else 0) ++ flightBytes s.flight ++ u8 s.consecutive ++ u8 (portNumber s.lastPort).val ++
    u8 s.realloc.length ++ allPorts.flatMap (fun p => slotBytes (s.previewSlot p)) ++ u16 s.stale

/-- READ ENGINE: on VN with its clear flag, on an operator port the port's own slot alone (R152). -/
def ownReadEngine (p : Port) (payload : List Byte) (s : State) : State × Reply :=
  match p, payload with
  | .vn, [a] =>
    match yesNo a with
    | none => refuse s .outOfRange
    | some clear => (if clear then { s with stale := 0 } else s, replyWith (enginePayload s))
  | .op o, [] => (s, replyWith (ownSlotBytes (s.previewSlot (.op o))))
  | _, _ => refuse s .badLength

/-- The end of a computation: nothing is in flight and an arbitration follows (R142, R145, R149). -/
def finishComputation (s : State) : State := arbitrate { s with flight := none }

/-- A reallocation in flight completes; with none in flight the event cannot come (R145, log entry 2). -/
def reallocationCompletes (s : State) : State :=
  match s.flight with
  | some { kind := .reallocation, zone := z, snapshot := n } => finishComputation (completeReallocation s z n)
  | _ => s

/-- A preview in flight completes; with none in flight the event cannot come (R149, log entry 2). -/
def previewCompletes (s : State) : State :=
  match s.flight with
  | some { kind := .preview p o _ sec, zone := z, snapshot := n } => finishComputation (completePreview s p o sec z n)
  | _ => s

/-! ## The commands -/

/-- SET SHARE (R123). -/
def execSetShare (p : Port) (payload : List Byte) (s : State) : Host.Outcome State Fault Refusal :=
  .next (serve .setShare p payload (ownSetShare payload) s)
/-- READ POWER (R138). -/
def execReadPower (p : Port) (payload : List Byte) (s : State) : Host.Outcome State Fault Refusal :=
  .next (serve .readPower p payload (ownReadPower payload) s)
/-- READ SHARES (R139). -/
def execReadShares (p : Port) (payload : List Byte) (s : State) : Host.Outcome State Fault Refusal :=
  .next (serve .readShares p payload (fun s => (s, replyWith (sharesPayload s))) s)
/-- READ GRANTS (R137). -/
def execReadGrants (p : Port) (payload : List Byte) (s : State) : Host.Outcome State Fault Refusal :=
  .next (serve .readGrants p payload (ownReadGrants p payload) s)
/-- PREVIEW (R147). -/
def execPreview (p : Port) (payload : List Byte) (s : State) : Host.Outcome State Fault Refusal :=
  .next (serve .preview p payload (ownPreview p payload) s)
/-- READ ENGINE (R152). -/
def execReadEngine (p : Port) (payload : List Byte) (s : State) : Host.Outcome State Fault Refusal :=
  .next (serve .readEngine p payload (ownReadEngine p payload) s)
/-- REALLOCATION_COMPLETION (R145). -/
def execReallocationCompletion (s : State) : Host.Outcome State Fault Refusal := .next (reallocationCompletes s)
/-- PREVIEW_COMPLETION (R149). -/
def execPreviewCompletion (s : State) : Host.Outcome State Fault Refusal := .next (previewCompletes s)

end Sys2Proof.Machine
end

