-- ==== Sys2Proof/Machine/Protection.lean ====
section
/-! DEFINITION. The Protection Unit's requests and its retry timers (chapter 4). -/

namespace Sys2Proof.Machine

open Sys2Proof

/-- The modes that each class permits (R64). -/
def permits (c : ClassNo) (m : ClassMode) : Bool :=
  match c, m with
  | 0, .derate => true
  | 0, .report => true
  | 0, .ignore => true
  | 1, .latch => true
  | 1, .retrySlow => true
  | 1, .retryFast => true
  | 2, .derate => true
  | 2, .latch => true
  | 2, .retrySlow => true
  | 2, .retryFast => true
  | 2, .report => true
  | 3, .latch => true
  | 3, .retrySlow => true
  | 3, .retryFast => true
  | 3, .report => true
  | 3, .ignore => true
  | 4, .latch => true
  | 4, .retrySlow => true
  | 4, .retryFast => true
  | 4, .report => true
  | 5, .report => true
  | 5, .ignore => true
  | _, _ => false

/-- A record re-entered from its raw bit under a new mode (R66). -/
def reenter (m : ClassMode) (r : ProtRec) : ProtRec :=
  if r.raw then (if m = .ignore then { r with state := .idle } else { r with state := .active, latched := true })
  else { r with state := .idle }

/-- The new mode of class c with every record of the class re-entered, then the zones' outputs in zone order (R66). -/
def changeMode (s : State) (c : ClassNo) (m : ClassMode) : State :=
  let t := { s with modes := s.modes.set c m, prot := retable (fun _ recs => recs.set c (reenter m recs[c])) s.prot }
  allZones.foldl (takeOutputs s) t

/-- SET CLASS MODE (R65). -/
def ownSetClassMode (payload : List Byte) (s : State) : State × Reply :=
  match payload with
  | [a, b] =>
    match numBelow 6 a with
    | none => refuse s .outOfRange
    | some c =>
      match modeOfCode b with
      | none => refuse s .badMode
      | some m =>
        if permits c m then (if s.mode c = m then s else changeMode s c m, replyOf .ok) else refuse s .badMode
  | _ => refuse s .badLength

/-- Store the derate level of TEMP_WARN or REFLECT. -/
def storeLevel (s : State) (c : ClassNo) (level : Nat) : State :=
  if c = 0 then { s with tempLevel := level } else { s with reflectLevel := level }

/-- SET DERATE LEVEL (R67). -/
def ownSetDerateLevel (payload : List Byte) (s : State) : State × Reply :=
  match payload with
  | [a, b] =>
    match numBelow 6 a with
    | none => refuse s .outOfRange
    | some c =>
      if c = 0 ∨ c = 2 then
        if b = 0 then refuse s .outOfRange
        else (allZones.foldl (takeOutputs s) (storeLevel s c b.toNat), replyOf .ok)
      else refuse s .badMode
  | _ => refuse s .badLength

/-- FAULT CLEAR of one record (R77). -/
def clearRecord (s : State) (z : ZoneNo) (c : ClassNo) : State :=
  let r := s.protRec z c
  if r.raw then s
  else if r.state = .held then
    fileAlarm (s.setProt z c { r with state := .idle, latched := false }) z c .alarmCleared ClearCause.faultClear.code
  else s.setProt z c { r with latched := false }

/-- FAULT CLEAR of one zone: its records in class order, then its outputs once (R77). -/
def clearZone (s : State) (z : ZoneNo) : State := takeOutputs s (allClasses.foldl (fun t c => clearRecord t z c) s) z

/-- The latched bits set at some zones. -/
def latchedCount (s : State) (zones : List ZoneNo) : Nat :=
  zones.foldl (fun n z => n + allClasses.countP fun c => (s.protRec z c).latched) 0

/-- The reply of FAULT CLEAR: the count of latched bits still set, STILL_ACTIVE unless it is 0 (R77). -/
def clearReply (n : Nat) : Reply :=
  { result := if n = 0 then .ok else .stillActive, payload := u16 n, removed := false }

/-- FAULT CLEAR (R77). -/
def ownFaultClear (payload : List Byte) (s : State) : State × Reply :=
  match payload with
  | [a] =>
    match zoneOrAll a with
    | none => refuse s .outOfRange
    | some zones => (zones.foldl clearZone s, clearReply (latchedCount (zones.foldl clearZone s) zones))
  | _ => refuse s .badLength

/-- The payload of READ CLASS SETTINGS (R81). -/
def settingsPayload (s : State) : List Byte :=
  allClasses.flatMap (fun c => u8 (s.mode c).code) ++ u8 s.tempLevel ++ u8 s.reflectLevel

/-- Whether class c is latched at a zone that a test names. -/
def latchedAt (s : State) (here : ZoneNo → Bool) (c : ClassNo) : Bool :=
  allZones.any fun z => here z && (s.protRec z c).latched

/-- The counts of the zones that a test names: the muted ones, then those with D below 256 (R78, R79). -/
def outputCounts (s : State) (here : ZoneNo → Bool) : List Byte :=
  u8 (allZones.countP fun z => here z && muted s z) ++
    u8 (allZones.countP fun z => here z && decide (derate s z < Config.noDerate))

/-- The payload of READ ALARM SUMMARY: by provisioning on VN (R78), by the operator's active bindings on its port (R79). -/
def summaryPayload (s : State) : Port → List Byte
  | .vn =>
    classBits (latchedAt s fun z => (s.zone z).provisioned) ++ classBits (latchedAt s fun z => !(s.zone z).provisioned) ++
      outputCounts s fun z => (s.zone z).provisioned
  | .op o =>
    classBits (latchedAt s fun z => (s.active z o).isSome) ++ outputCounts s fun z => (s.active z o).isSome

/-- The remaining count of a retry timer, 0 when it is absent (R80). -/
def ProtState.timer : ProtState → Nat
  | .recovering left => left
  | _ => 0

/-- A protection record in the VN reply of READ PROTECTION (R80). -/
def ProtRec.bytes (r : ProtRec) : List Byte :=
  flagByte r.raw ++ u8 r.state.code ++ u8 r.state.timer ++ flagByte r.latched

/-- The payload of READ PROTECTION (R80). -/
def protectionPayload (s : State) (z : ZoneNo) : Port → List Byte
  | .vn => allClasses.flatMap (fun c => (s.protRec z c).bytes) ++ flagByte (muted s z) ++ u16 (derate s z)
  | .op _ => classBits (fun c => (s.protRec z c).latched) ++ flagByte (muted s z) ++ u16 (derate s z)

/-- READ PROTECTION (R80). -/
def ownReadProtection (p : Port) (payload : List Byte) (s : State) : State × Reply :=
  match namedZone payload with
  | none => refuse s .outOfRange
  | some z => (s, replyWith (protectionPayload s z p))

/-- Whether the record's retry timer reaches 0 at its next count. -/
def retryDue (s : State) (z : ZoneNo) (c : ClassNo) : Bool :=
  match (s.protRec z c).state with
  | .recovering left => decide (left ≤ 1)
  | _ => false

/-- The retry timer of class c at zone z reaches 0 at a superframe start. Where its next count does not reach 0,
the event cannot come (R71, R27, log entry 2). -/
def retryExpiry (s : State) (z : ZoneNo) (c : ClassNo) : State :=
  if s.transport ≠ .stopped ∧ retryDue s z c = true then endEvent s (takeOutputs s (expireRetry s z c) z) else s

/-- SET CLASS MODE (R65). -/
def execSetClassMode (p : Port) (payload : List Byte) (s : State) : Host.Outcome State Fault Refusal :=
  .next (serve .setClassMode p payload (ownSetClassMode payload) s)
/-- SET DERATE LEVEL (R67). -/
def execSetDerateLevel (p : Port) (payload : List Byte) (s : State) : Host.Outcome State Fault Refusal :=
  .next (serve .setDerateLevel p payload (ownSetDerateLevel payload) s)
/-- FAULT CLEAR (R77). -/
def execFaultClear (p : Port) (payload : List Byte) (s : State) : Host.Outcome State Fault Refusal :=
  .next (serve .faultClear p payload (ownFaultClear payload) s)
/-- READ CLASS SETTINGS (R81). -/
def execReadClassSettings (p : Port) (payload : List Byte) (s : State) : Host.Outcome State Fault Refusal :=
  .next (serve .readClassSettings p payload (fun s => (s, replyWith (settingsPayload s))) s)
/-- READ ALARM SUMMARY (R78, R79). -/
def execReadAlarmSummary (p : Port) (payload : List Byte) (s : State) : Host.Outcome State Fault Refusal :=
  .next (serve .readAlarmSummary p payload (fun s => (s, replyWith (summaryPayload s p))) s)
/-- READ PROTECTION (R80). -/
def execReadProtection (p : Port) (payload : List Byte) (s : State) : Host.Outcome State Fault Refusal :=
  .next (serve .readProtection p payload (ownReadProtection p payload) s)
/-- RETRY_EXPIRY (R71). -/
def execRetryExpiry (z : ZoneNo) (c : ClassNo) (s : State) : Host.Outcome State Fault Refusal := .next (retryExpiry s z c)

end Sys2Proof.Machine
end

