-- ==== Sys2Proof/Machine/Spread.lean ====
section
/-! DEFINITION. The Spread Engine's requests, its expiries and its evaluations (chapter 6). -/

namespace Sys2Proof.Machine

open Sys2Proof

/-- A new policy: the proposal is withdrawn, the evaluation counter and the outcome return to 0 and NONE (R98). -/
def changePolicy (s : State) (o : OpNo) (m : Policy) : State :=
  let t := withdraw (s.setOper o { s.oper o with policy := m }) o .policyChanged
  t.setSpread o { t.spreadRec o with evalCount := 0, outcome := .notRun }

/-- SET POLICY (R98). -/
def ownSetPolicy (o : OpNo) (payload : List Byte) (s : State) : State × Reply :=
  match payload with
  | [a] =>
    match policyOfCode a with
    | none => refuse s .badMode
    | some m => (if (s.oper o).policy = m then s else changePolicy s o m, replyOf .ok)
  | _ => refuse s .badLength

/-- SET SILENCE RULE (R99). -/
def ownSetSilenceRule (o : OpNo) (payload : List Byte) (s : State) : State × Reply :=
  match payload with
  | [a] =>
    match silenceOfCode a with
    | none => refuse s .badMode
    | some r => (s.setOper o { s.oper o with silence := r }, replyOf .ok)
  | _ => refuse s .badLength

/-- SET THRESHOLDS (R100). -/
def ownSetThresholds (o : OpNo) (payload : List Byte) (s : State) : State × Reply :=
  match payload with
  | [a, b, c, d, e, f, g, h] =>
    if Config.maxLoad < num32 a b c d ∨ Config.maxLoad < num32 e f g h then refuse s .outOfRange
    else if num32 a b c d ≤ num32 e f g h then refuse s .thresholdOrder
    else (s.setOper o { s.oper o with high := num32 a b c d, low := num32 e f g h }, replyOf .ok)
  | _ => refuse s .badLength

/-- SET EVALUATION PERIOD (R101). -/
def ownSetEvaluationPeriod (o : OpNo) (payload : List Byte) (s : State) : State × Reply :=
  match payload with
  | [hi, lo] =>
    let n := clampTo 1 Config.filterOne (num16 hi lo)
    (s.setOper o { s.oper o with period := n }, okOrClamped (num16 hi lo) n)
  | _ => refuse s .badLength

/-- SET PROPOSAL WINDOW (R102). -/
def ownSetProposalWindow (o : OpNo) (payload : List Byte) (s : State) : State × Reply :=
  match payload with
  | [hi, lo] =>
    let n := clampTo 1 Config.filterOne (num16 hi lo)
    (s.setOper o { s.oper o with window := n }, okOrClamped (num16 hi lo) n)
  | _ => refuse s .badLength

/-- SET SPREAD TIMES (R103). -/
def ownSetSpreadTimes (payload : List Byte) (s : State) : State × Reply :=
  match payload with
  | [a, b, c, d] => ({ s with settleTime := num16 a b, holdOff := num16 c d }, replyOf .ok)
  | _ => refuse s .badLength

/-- The open proposal of o that bears an id, if any (R113, R114). -/
def openWithId (s : State) (o : OpNo) (id : Nat) : Option Proposal :=
  match (s.spreadRec o).proposal with
  | some p => if p.id = id then some p else none
  | none => none

/-- The answer to an id that names no open proposal: LATE for the last closed id, else UNKNOWN_PROPOSAL (R115). -/
def lateOrUnknown (s : State) (o : OpNo) (id : Nat) : Result :=
  if (s.spreadRec o).lastClosed = some id then .late else .unknownProposal

/-- The acceptance of the open proposal p of o: its move is written, it is closed, and VN is told (R113). While
STOPPED the latch follows (R16). -/
def acceptProposal (s : State) (o : OpNo) (p : Proposal) : State :=
  let t := closeProposal (workingWrite s p.zone o (some p.toSector)) o p
  latchIfStopped (file t [.vn] (proposalNotice t .proposalAnswered o p (answerCode true)))

/-- ACCEPT (R113, R115). -/
def ownAccept (o : OpNo) (payload : List Byte) (s : State) : State × Reply :=
  match payload with
  | [a] =>
    match openWithId s o a.toNat with
    | some p => (acceptProposal s o p, replyWith (u8 p.zone.val ++ u8 p.toSector.val))
    | none => refuse s (lateOrUnknown s o a.toNat)
  | _ => refuse s .badLength

/-- The refusal of the open proposal p of o: the hold-off is loaded, it is closed, and VN is told (R114). -/
def declineProposal (s : State) (o : OpNo) (p : Proposal) : State :=
  let t := closeProposal (s.setSettle p.zone o s.holdOff) o p
  file t [.vn] (proposalNotice t .proposalAnswered o p (answerCode false))

/-- DECLINE (R114, R115). -/
def ownDecline (o : OpNo) (payload : List Byte) (s : State) : State × Reply :=
  match payload with
  | [a] =>
    match openWithId s o a.toNat with
    | some p => (declineProposal s o p, replyOf .ok)
    | none => refuse s (lateOrUnknown s o a.toNat)
  | _ => refuse s .badLength

/-- An open proposal, or none, in a reply (R118, R182). -/
def proposalBytes : Option Proposal → List Byte
  | none => flagByte false ++ u8 0 ++ u8 0 ++ u8 0 ++ u8 0 ++ u16 0
  | some p => flagByte true ++ u8 p.id ++ u8 p.zone.val ++ u8 p.fromSector.val ++ u8 p.toSector.val ++ u16 p.remaining

/-- An optional id in a reply: a presence byte, then the id or 0 (R182). -/
def idBytes : Option Nat → List Byte
  | none => flagByte false ++ u8 0
  | some n => flagByte true ++ u8 n

/-- The fields that READ SPREAD STATE returns on every port (R118). -/
def spreadFields (s : State) (o : OpNo) : List Byte :=
  u8 (s.oper o).policy.code ++ u8 (s.oper o).silence.code ++ u32 (s.oper o).high ++ u32 (s.oper o).low ++
    u16 (s.oper o).period ++ u16 (s.oper o).window ++ u16 (s.spreadRec o).evalCount ++ u8 (s.spreadRec o).outcome.code ++
    proposalBytes (s.spreadRec o).proposal ++ idBytes (s.spreadRec o).lastClosed ++ u8 (s.spreadRec o).nextId

/-- The payload of READ SPREAD STATE, with the two times on VN (R118). -/
def spreadPayload (s : State) (o : OpNo) : Port → List Byte
  | .vn => spreadFields s o ++ u16 s.settleTime ++ u16 s.holdOff
  | .op _ => spreadFields s o

/-- READ SPREAD STATE (R118). -/
def ownReadSpreadState (p : Port) (payload : List Byte) (s : State) : State × Reply :=
  match namedOperator p payload with
  | none => refuse s .outOfRange
  | some o => (s, replyWith (spreadPayload s o p))

/-- READ SETTLE COUNTS (R119). -/
def ownReadSettleCounts (p : Port) (payload : List Byte) (s : State) : State × Reply :=
  match laneRun p payload with
  | none => refuse s .outOfRange
  | some (o, run) => (s, replyWith (run.flatMap fun z => u16 (s.settleCount z o) ++ flagByte (s.zone z).pinned))

/-- The open proposal of o that expires at the next count of a superframe start, if any. -/
def expiring (s : State) (o : OpNo) : Option Proposal :=
  match (s.spreadRec o).proposal with
  | some p => if p.remaining ≤ 1 then some p else none
  | none => none

/-- The remaining count of o's proposal reaches 0 at a superframe start. Where its next count does not reach 0, the
event cannot come (R112, R27, log entry 2). -/
def proposalExpiry (s : State) (o : OpNo) : State :=
  match expiring s o with
  | some p => if s.transport = .stopped then s else expireProposal s o p
  | none => s

/-- The evaluation counter of o reaches P at a superframe start. Where the next count does not reach P, the event
cannot come (R106, R27, log entry 2). -/
def evaluationDue (s : State) (o : OpNo) : State :=
  if s.transport ≠ .stopped ∧ counted s o = true ∧ (s.oper o).period ≤ (s.spreadRec o).evalCount + 1 then runEvaluation s o
  else s

/-- SET POLICY (R98). -/
def execSetPolicy (p : Port) (payload : List Byte) (s : State) : Host.Outcome State Fault Refusal :=
  .next (serve .setPolicy p payload (fun s => withOperator p s fun o => ownSetPolicy o payload s) s)
/-- SET SILENCE RULE (R99). -/
def execSetSilenceRule (p : Port) (payload : List Byte) (s : State) : Host.Outcome State Fault Refusal :=
  .next (serve .setSilenceRule p payload (fun s => withOperator p s fun o => ownSetSilenceRule o payload s) s)
/-- SET THRESHOLDS (R100). -/
def execSetThresholds (p : Port) (payload : List Byte) (s : State) : Host.Outcome State Fault Refusal :=
  .next (serve .setThresholds p payload (fun s => withOperator p s fun o => ownSetThresholds o payload s) s)
/-- SET EVALUATION PERIOD (R101). -/
def execSetEvaluationPeriod (p : Port) (payload : List Byte) (s : State) : Host.Outcome State Fault Refusal :=
  .next (serve .setEvaluationPeriod p payload (fun s => withOperator p s fun o => ownSetEvaluationPeriod o payload s) s)
/-- SET PROPOSAL WINDOW (R102). -/
def execSetProposalWindow (p : Port) (payload : List Byte) (s : State) : Host.Outcome State Fault Refusal :=
  .next (serve .setProposalWindow p payload (fun s => withOperator p s fun o => ownSetProposalWindow o payload s) s)
/-- ACCEPT (R113). -/
def execAccept (p : Port) (payload : List Byte) (s : State) : Host.Outcome State Fault Refusal :=
  .next (serve .accept p payload (fun s => withOperator p s fun o => ownAccept o payload s) s)
/-- DECLINE (R114). -/
def execDecline (p : Port) (payload : List Byte) (s : State) : Host.Outcome State Fault Refusal :=
  .next (serve .decline p payload (fun s => withOperator p s fun o => ownDecline o payload s) s)
/-- SET SPREAD TIMES (R103). -/
def execSetSpreadTimes (p : Port) (payload : List Byte) (s : State) : Host.Outcome State Fault Refusal :=
  .next (serve .setSpreadTimes p payload (ownSetSpreadTimes payload) s)
/-- READ SPREAD STATE (R118). -/
def execReadSpreadState (p : Port) (payload : List Byte) (s : State) : Host.Outcome State Fault Refusal :=
  .next (serve .readSpreadState p payload (ownReadSpreadState p payload) s)
/-- READ SETTLE COUNTS (R119). -/
def execReadSettleCounts (p : Port) (payload : List Byte) (s : State) : Host.Outcome State Fault Refusal :=
  .next (serve .readSettleCounts p payload (ownReadSettleCounts p payload) s)
/-- PROPOSAL_EXPIRY (R112). -/
def execProposalExpiry (o : OpNo) (s : State) : Host.Outcome State Fault Refusal := .next (proposalExpiry s o)
/-- EVALUATION (R106, R107). -/
def execEvaluation (o : OpNo) (s : State) : Host.Outcome State Fault Refusal := .next (evaluationDue s o)

end Sys2Proof.Machine
end

