-- ==== Sys2Proof/Machine/Orders.lean ====
section
/-! DEFINITION. The orders in which the blocks may take their reactions to one cycle start (R17, R36, R42, R104). -/

namespace Sys2Proof.Machine

open Sys2Proof

/-- The six reactions, each once, in the order that stands where a command names no legal one. -/
def standardOrder : List Reaction := [.latch, .commit, .fill, .dwell, .protect, .spread]

/-- An order is legal when it holds each reaction once and the commit stands before slot filling: R36 fixes that
one pair, and R17, R42 and R104 leave the others open. -/
def legalOrder (order : List Reaction) : Bool :=
  decide (order.length = 6) && standardOrder.all (fun r => order.contains r) &&
    decide (order.idxOf .commit < order.idxOf .fill)

/-- The order that a cycle start follows. -/
def effectiveOrder (order : List Reaction) : List Reaction := if legalOrder order then order else standardOrder

end Sys2Proof.Machine
end

