-- ==== Sys2Proof/Machine/Transport.lean ====
section
/-! DEFINITION. The Cycle Timer and Spoke Transport (chapter 2): its requests, the cycle start, the end of
draining, MARK, stream presence and the uplink status word. -/

namespace Sys2Proof.Machine

open Sys2Proof

/-! ## Requests -/

/-- START (R24, R51). -/
def ownStart (s : State) : State × Reply :=
  if s.transport = .stopped then
    ({ s with
        transport := .running, cycle := 0, superframe := 0, firstPending := true
        links := retable (fun z r => if (s.zone z).provisioned ∧ r.state = .idle then r.toSearch else r) s.links },
      replyOf .ok)
  else refuse s .badState

/-- STOP (R25). -/
def ownStop (s : State) : State × Reply :=
  (if s.transport = .running then { s with transport := .draining } else s, replyOf .ok)

/-- FREEZE (R26). -/
def ownFreeze (s : State) : State × Reply := (if s.transport = .stopped then s else enterStopped s, replyOf .ok)

/-- COMMIT PLAN (R37). -/
def ownCommitPlan (s : State) : State × Reply :=
  (if s.transport = .stopped then takeCommit s else { s with commitPending := true }, replyOf .ok)

/-- ABORT COMMIT, which reports whether a commit was withdrawn (R38). -/
def ownAbortCommit (s : State) : State × Reply := ({ s with commitPending := false }, replyWith (flagByte s.commitPending))

/-- The last commit stamp, or none, in a reply (R47, R182). -/
def commitStampBytes (s : State) : List Byte :=
  match s.lastCommit with
  | none => flagByte false ++ stampBytes { superframe := 0, cycle := 0 }
  | some t => flagByte true ++ stampBytes t

/-- The payload of READ TRANSPORT (R47). -/
def transportPayload (s : State) : List Byte :=
  u8 s.transport.code ++ u16 s.superframe ++ u8 s.cycle ++ flagByte s.commitPending ++ commitStampBytes s

/-- READ SHADOW COUNTS (R48). -/
def ownReadShadowCounts (payload : List Byte) (s : State) : State × Reply :=
  match payload with
  | [a, first, count] =>
    match numBelow 8 a, runOf first count with
    | some spoke, some run =>
      (s, replyWith (run.flatMap fun n => u8 (s.shadow spoke n).count ++ flagByte (s.shadow spoke n).reported))
    | _, _ => refuse s .outOfRange
  | _ => refuse s .badLength

/-- START (R24). -/
def execStart (p : Port) (payload : List Byte) (s : State) : Host.Outcome State Fault Refusal :=
  .next (serve .start p payload ownStart s)
/-- STOP (R25). -/
def execStop (p : Port) (payload : List Byte) (s : State) : Host.Outcome State Fault Refusal :=
  .next (serve .stop p payload ownStop s)
/-- FREEZE (R26, R29). -/
def execFreeze (p : Port) (payload : List Byte) (s : State) : Host.Outcome State Fault Refusal :=
  .next (serve .freeze p payload ownFreeze s)
/-- COMMIT PLAN (R37). -/
def execCommitPlan (p : Port) (payload : List Byte) (s : State) : Host.Outcome State Fault Refusal :=
  .next (serve .commitPlan p payload ownCommitPlan s)
/-- ABORT COMMIT (R38). -/
def execAbortCommit (p : Port) (payload : List Byte) (s : State) : Host.Outcome State Fault Refusal :=
  .next (serve .abortCommit p payload ownAbortCommit s)
/-- READ TRANSPORT (R47). -/
def execReadTransport (p : Port) (payload : List Byte) (s : State) : Host.Outcome State Fault Refusal :=
  .next (serve .readTransport p payload (fun s => (s, replyWith (transportPayload s))) s)
/-- READ SHADOW COUNTS (R48). -/
def execReadShadowCounts (p : Port) (payload : List Byte) (s : State) : Host.Outcome State Fault Refusal :=
  .next (serve .readShadowCounts p payload (ownReadShadowCounts payload) s)

/-! ## The cycle timer -/

/-- The counts of the cycle that a cycle start opens; the first one after START does not advance them (R24, R27). -/
def advanceCounts (s : State) : State :=
  if s.firstPending then { s with firstPending := false }
  else if s.cycle < Config.lastCycle then { s with cycle := s.cycle + 1 }
  else { s with cycle := 0, superframe := if s.superframe < Config.lastSuperframe then s.superframe + 1 else 0 }

/-- Whether the next boundary is that of a superframe start: the first after START, or the one after cycle 63 (R24, R27). -/
def superframeBoundary (s : State) : Bool := s.firstPending || decide (Config.lastCycle ≤ s.cycle)

/-- The map latch at a cycle start, with its pulse of MARK (R15, R40). The flag is read when the reaction is taken: one that was
clear when the cycle start began and that the Spread Engine's reaction set is latched at once where the latch follows that
reaction, and at the next cycle start where it comes first (DESIGN CHOICE, log entry 16). -/
def latchReaction (s : State) : State := if s.latchPending then { takeLatch s with mark := true } else s

/-- The plan commit at a superframe start, with its pulse of MARK (R36, R40). -/
def commitReaction (s : State) : State :=
  if s.commitPending ∧ s.cycle = 0 then { takeCommit s with mark := true } else s

/-- One reaction to the cycle start whose counts stand in s; those to a superframe start are taken in cycle 0 alone. -/
def react (s : State) : Reaction → State
  | .latch => latchReaction s
  | .commit => commitReaction s
  | .fill => fillSlots s
  | .dwell => countDwells s
  | .protect => if s.cycle = 0 then protectReaction s else s
  | .spread => if s.cycle = 0 then spreadReaction s else s

/-- A cycle start: the counts advance and every block takes its reaction, in the order given (R27, R17, R42, R104). -/
def cycleStart (order : List Reaction) (s : State) : State := (effectiveOrder order).foldl react (advanceCounts s)

/-- A boundary of the cycle timer: none counts while STOPPED (R27), the one that would be a superframe start ends
the draining (R28), and every other is a cycle start. -/
def cycleBoundary (order : List Reaction) (s : State) : State :=
  if s.transport = .stopped then s
  else if s.transport = .draining ∧ superframeBoundary s = true then endEvent s (enterStopped s)
  else endEvent s (cycleStart order s)

/-- The end of draining at its boundary (R28); at any other moment the event cannot come (log entry 2). -/
def endDraining (s : State) : State :=
  if s.transport = .draining ∧ superframeBoundary s = true then endEvent s (enterStopped s) else s

/-- CYCLE_START (R27). -/
def execCycleStart (order : List Reaction) (s : State) : Host.Outcome State Fault Refusal := .next (cycleBoundary order s)
/-- DRAIN_END (R28). -/
def execDrainEnd (s : State) : Host.Outcome State Fault Refusal := .next (endDraining s)
/-- MARK_PULSE_END: MARK is idle again (R40). -/
def execMarkPulseEnd (s : State) : Host.Outcome State Fault Refusal := .next { s with mark := false }

/-! ## Stream presence -/

/-- A framer report that stream (o, sec) is UP or DOWN (R41). A report that matches changes nothing. -/
def streamReport (s : State) (o : OpNo) (sec : SectorNo) (up : Bool) : State :=
  if (s.sector o sec).streamUp = up then s
  else
    let t := s.setSector o sec { s.sector o sec with streamUp := up }
    let u := file t (.vn :: unlessAbsent t o)
      { notice t .streamChanged with operator := some o, toSector := some sec, value := some (presenceCode up) }
    let v := if up then u else withdrawIf u o (fun p => decide (p.toSector = sec)) .streamDown
    endEvent s (inputChanges s v fun z => decide (s.active z o = some sec))

/-- STREAM_UP (R41). -/
def execStreamUp (o : OpNo) (sec : SectorNo) (s : State) : Host.Outcome State Fault Refusal :=
  .next (streamReport s o sec true)
/-- STREAM_DOWN (R41). -/
def execStreamDown (o : OpNo) (sec : SectorNo) (s : State) : Host.Outcome State Fault Refusal :=
  .next (streamReport s o sec false)

/-! ## Uplink status words -/

/-- The activity block of a word, used in cycle 0 alone (R46). -/
def takeBlock (s : State) (z : ZoneNo) (u : UplinkWord) : State :=
  match u.activity with
  | some x => if s.cycle = 0 then takeActivity s z x else s
  | none => s

/-- The taking of a word of zone z: the Link Supervisor, then for a good word of a zone that was live the
Protection Unit and then the Load Monitor (R45, R46, R86; log entry 12). -/
def takeWord (s : State) (z : ZoneNo) (w : Option UplinkWord) : State :=
  let t := linkWord s z w.isSome
  match w with
  | some u => if live s z then takeBlock (takeVector t z u.alarms) z u else t
  | none => t

/-- The end of an uplink slot: no slots while STOPPED, and the content of an unprovisioned zone's slot is discarded (R43). -/
def uplinkSlot (s : State) (spoke : SpokeNo) (pos : PosNo) (word : List Byte) : State :=
  let z := zoneAt spoke pos
  if s.transport ≠ .stopped ∧ (s.zone z).provisioned = true then endEvent s (takeWord s z (judgeWord pos word)) else s

/-- UPLINK_STATUS_WORD (R43 to R46). -/
def execUplinkStatusWord (spoke : SpokeNo) (pos : PosNo) (word : List Byte) (s : State) :
    Host.Outcome State Fault Refusal := .next (uplinkSlot s spoke pos word)

end Sys2Proof.Machine
end

