-- ==== Sys2Proof/Machine/ZoneMap.lean ====
section
/-! DEFINITION. The Zone Map (chapter 1): zone records, tenancy, sector tables and manual moves. -/

namespace Sys2Proof.Machine

open Sys2Proof

/-! ## Zone records -/

/-- PROVISION ZONE (R2). -/
def ownProvisionZone (payload : List Byte) (s : State) : State × Reply :=
  match namedZone payload with
  | none => refuse s .outOfRange
  | some z =>
    if (s.zone z).provisioned then refuse s .badState
    else
      let t := clearZoneCells (s.setZone z { s.zone z with provisioned := true }) z
      (if s.transport = .running ∧ (s.link z).state = .idle then t.setLink z (s.link z).toSearch else t, replyOf .ok)

/-- A zone record after steps 2 and 3 of R3: no binding, not pinned, not provisioned. -/
def ZoneRec.retired (r : ZoneRec) : ZoneRec :=
  { r with working := vec4 fun _ => none, active := vec4 fun _ => none, pinned := false, provisioned := false }

/-- Step 1 of R3: the link goes IDLE, and a live zone goes dark with its consequences but for the input change,
which step 5 takes once. -/
def retireLink (s : State) (z : ZoneNo) : State :=
  let t := s.setLink z (s.link z).toIdle
  if live s z then goDark s t z .retired .zoneDark else t

/-- The retirement of a provisioned zone, its five steps in order (R3). -/
def retire (s : State) (z : ZoneNo) : State :=
  let t := retireLink s z
  inputChange s (clearZoneCells (t.setZone z (t.zone z).retired) z) z

/-- RETIRE ZONE (R3). -/
def ownRetireZone (payload : List Byte) (s : State) : State × Reply :=
  match namedZone payload with
  | none => refuse s .outOfRange
  | some z => if (s.zone z).provisioned then (retire s z, replyOf .ok) else refuse s .badState

/-- Store a budget; a new value is an input change (R4). -/
def storeBudget (s : State) (z : ZoneNo) (b : Nat) : State :=
  if (s.zone z).budget = b then s else inputChange s (s.setZone z { s.zone z with budget := b }) z

/-- SET BUDGET (R4). -/
def ownSetBudget (payload : List Byte) (s : State) : State × Reply :=
  match payload with
  | [a, hi, lo] =>
    match numBelow 64 a with
    | none => refuse s .outOfRange
    | some z => (storeBudget s z (num16 hi lo), replyOf .ok)
  | _ => refuse s .badLength

/-- The zones that list bytes name; `none` where one lies above 63. -/
def zoneList : List Byte → Option (List ZoneNo)
  | [] => some []
  | b :: rest => (numBelow 64 b).bind fun z => (zoneList rest).map fun l => z :: l

/-- The tests of R5 on a neighbour list of zone z: at most 4 entries, none twice, z not among them. -/
def goodNeighbours (z : ZoneNo) (l : List ZoneNo) : Bool :=
  decide (l.length ≤ Config.maxNeighbours) && decide l.Nodup && !l.contains z

/-- SET NEIGHBOURS (R5). -/
def ownSetNeighbours (payload : List Byte) (s : State) : State × Reply :=
  match payload with
  | a :: more =>
    match numBelow 64 a with
    | none => refuse s .outOfRange
    | some z =>
      match zoneList more with
      | none => refuse s .badList
      | some l => if goodNeighbours z l then (s.setZone z { s.zone z with neighbours := l }, replyOf .ok) else refuse s .badList
  | [] => refuse s .badLength

/-- Set the pin of a zone; a pin that goes from no to yes withdraws the proposals open on it (R6). -/
def setPin (s : State) (z : ZoneNo) (pin : Bool) : State :=
  let t := s.setZone z { s.zone z with pinned := pin }
  if pin = true ∧ (s.zone z).pinned = false then withdrawOnZone t z .zonePinned else t

/-- PIN ZONE (R6). -/
def ownPinZone (payload : List Byte) (s : State) : State × Reply :=
  match payload with
  | [a, b] =>
    match numBelow 64 a, yesNo b with
    | some z, some pin =>
      if (s.zone z).provisioned then (setPin s z pin, replyOf .ok)
      else if pin then refuse s .badState else (s, replyOf .ok)
    | _, _ => refuse s .outOfRange
  | _ => refuse s .badLength

/-- The manual move of a lane: the working-map write, the withdrawal of that operator's proposal on the zone, and
the latch where the transport is STOPPED (R14, R16). -/
def manualMove (s : State) (z : ZoneNo) (o : OpNo) (b : Option SectorNo) : State :=
  latchIfStopped (withdrawIf (workingWrite s z o b) o (fun p => decide (p.zone = z)) .manualMove)

/-- MOVE ZONE (R14). -/
def ownMoveZone (payload : List Byte) (s : State) : State × Reply :=
  match payload with
  | [a, b, c] =>
    match numBelow 64 a, numBelow 4 b, sectorOrNone c with
    | some z, some o, some sec =>
      if (s.zone z).provisioned = false ∨ (s.oper o).tenancy = .absent then refuse s .badState
      else (manualMove s z o sec, replyOf .ok)
    | _, _, _ => refuse s .outOfRange
  | _ => refuse s .badLength

/-- The payload of READ ZONE: in full on VN, live and the operator's own two bindings on an operator port (R21). -/
def zonePayload (s : State) (z : ZoneNo) : Port → List Byte
  | .vn =>
    flagByte (s.zone z).provisioned ++ flagByte (s.zone z).pinned ++ flagByte (live s z) ++ u16 (s.zone z).budget ++
      listBytes ((s.zone z).neighbours.map fun n => u8 n.val) ++ allOps.flatMap (fun o => sectorByte (s.working z o)) ++
      allOps.flatMap (fun o => sectorByte (s.active z o)) ++ flagByte s.latchPending
  | .op o => flagByte (live s z) ++ sectorByte (s.working z o) ++ sectorByte (s.active z o)

/-- READ ZONE (R21). -/
def ownReadZone (p : Port) (payload : List Byte) (s : State) : State × Reply :=
  match namedZone payload with
  | none => refuse s .outOfRange
  | some z => (s, replyWith (zonePayload s z p))

/-! ## Tenancy -/

/-- The state with o's tenancy changed. -/
def setTenancy (s : State) (o : OpNo) (t : Tenancy) : State := s.setOper o { s.oper o with tenancy := t }

/-- The admission of an operator that is not ACTIVE (R8). -/
def admission (s : State) (o : OpNo) : State :=
  inputChanges s (fileTenancy (setTenancy s o .active) o) fun _ => false

/-- ADMIT (R8). -/
def ownAdmit (payload : List Byte) (s : State) : State × Reply :=
  match namedOp payload with
  | none => refuse s .outOfRange
  | some o => if (s.oper o).tenancy = .active then refuse s .badState else (admission s o, replyOf .ok)

/-- The suspension of an ACTIVE operator: TENANCY_CHANGED, the withdrawal, then the clips (R9). -/
def suspension (s : State) (o : OpNo) : State :=
  inputChanges s (withdraw (fileTenancy (setTenancy s o .suspended) o) o .tenancy) fun _ => false

/-- SUSPEND (R9). -/
def ownSuspend (payload : List Byte) (s : State) : State × Reply :=
  match namedOp payload with
  | none => refuse s .outOfRange
  | some o => if (s.oper o).tenancy = .active then (suspension s o, replyOf .ok) else refuse s .badState

/-- Step 1 of R10: an ACTIVE operator's proposal is withdrawn, and the operator becomes ABSENT, so that its lanes
stop carrying. -/
def releaseTenancy (s : State) (o : OpNo) : State :=
  let t := if (s.oper o).tenancy = .active then withdraw s o .tenancy else s
  inputChanges s (setTenancy t o .absent) fun _ => false

/-- The operator record after RSTn, with stream presence kept (R10 step 2). -/
def OpRec.released (r : OpRec) : OpRec :=
  { OpRec.reset with sectors := retable (fun _ e => { SectorEntry.reset with streamUp := e.streamUp }) r.sectors }

/-- Step 2 of R10: the record returns to its reset values; a share above 0 makes a share change. -/
def releaseRecord (s : State) (o : OpNo) : State :=
  let t := s.setOper o (s.oper o).released
  if (s.oper o).share = 0 then t else shareChange t

/-- Step 3 of R10: all working bindings of o become NONE and the latch-pending flag is set. -/
def releaseBindings (s : State) (o : OpNo) : State :=
  { s with zones := retable (fun _ r => { r with working := r.working.set o none }) s.zones, latchPending := true }

/-- Step 4 of R10: cells, settle counters, evaluation counter and outcome. -/
def releaseCounters (s : State) (o : OpNo) : State :=
  let t := { s with cells := fillOperator s.cells o 0, settle := fillOperator s.settle o 0 }
  t.setSpread o { s.spreadRec o with evalCount := 0, outcome := .notRun }

/-- Step 5 of R10: a WAITING preview is emptied, a RUNNING one is cancelled (R150). -/
def releasePreview (s : State) (o : OpNo) : State :=
  match s.previewSlot (.op o) with
  | none => s
  | some e => s.setPreview (.op o) (if e.running then some { e with cancelled := true } else none)

/-- Step 6 of R10: the operator's queue is emptied, its overrun flag cleared, and TENANCY_CHANGED filed (R162). -/
def releaseNotices (s : State) (o : OpNo) : State := fileTenancy (s.setNotices (.op o) { records := [], overrun := false }) o

/-- The release of an operator, its six steps in order; while STOPPED the latch follows (R10, R16, log entry 5). -/
def releaseAll (s : State) (o : OpNo) : State :=
  latchIfStopped (releaseNotices (releasePreview (releaseCounters (releaseBindings (releaseRecord (releaseTenancy s o) o) o) o) o) o)

/-- RELEASE (R10). -/
def ownRelease (payload : List Byte) (s : State) : State × Reply :=
  match namedOp payload with
  | none => refuse s .outOfRange
  | some o => (releaseAll s o, replyOf .ok)

/-- A sector table entry in a reply (R22). -/
def SectorEntry.bytes (e : SectorEntry) : List Byte := flagByte e.enabled ++ u16 e.request ++ u8 (presenceCode e.streamUp)

/-- The payload of READ OPERATOR (R22). -/
def OpRec.bytes (r : OpRec) : List Byte :=
  u8 r.tenancy.code ++ u8 r.policy.code ++ u8 r.silence.code ++ u32 r.high ++ u32 r.low ++ u16 r.period ++ u16 r.window ++
    u16 r.weight ++ u16 r.share ++ allSectors.flatMap (fun sec => r.sectors[sec].bytes)

/-- READ OPERATOR (R22). -/
def ownReadOperator (p : Port) (payload : List Byte) (s : State) : State × Reply :=
  match namedOperator p payload with
  | none => refuse s .outOfRange
  | some o => (s, replyWith (s.oper o).bytes)

/-! ## Sector tables -/

/-- Store a sector's enabled field: a sector that is disabled withdraws the proposal that names it, and the lanes
bound to it start or stop carrying (R11). That PROPOSAL_WITHDRAWN is filed before the GRANT_FULL notices of the clips is a
DESIGN CHOICE: R9, R41 and R59 fix that order for their events, R11, R116 and R136 do not for this one (log entry 15). -/
def storeEnable (s : State) (o : OpNo) (sec : SectorNo) (on : Bool) : State :=
  if (s.sector o sec).enabled = on then s
  else
    let t := s.setSector o sec { s.sector o sec with enabled := on }
    let u := if on then t else withdrawIf t o (fun p => decide (p.fromSector = sec) || decide (p.toSector = sec)) .sectorDisabled
    inputChanges s u fun _ => false

/-- SET SECTOR ENABLE (R11). -/
def ownSetSectorEnable (o : OpNo) (payload : List Byte) (s : State) : State × Reply :=
  match payload with
  | [a, b] =>
    match numBelow 8 a, yesNo b with
    | some sec, some on => (storeEnable s o sec on, replyOf .ok)
    | _, _ => refuse s .outOfRange
  | _ => refuse s .badLength

/-- Store a sector's request; a new value is an input change of each zone with a carrying lane bound to it (R12). -/
def storePower (s : State) (o : OpNo) (sec : SectorNo) (r : Nat) : State :=
  if (s.sector o sec).request = r then s
  else
    inputChanges s (s.setSector o sec { s.sector o sec with request := r })
      fun z => decide (s.active z o = some sec) && carrying s z o

/-- SET SECTOR POWER (R12). -/
def ownSetSectorPower (o : OpNo) (payload : List Byte) (s : State) : State × Reply :=
  match payload with
  | [a, hi, lo] =>
    match numBelow 8 a with
    | none => refuse s .outOfRange
    | some sec =>
      (storePower s o sec (min (num16 hi lo) Config.maxRequest),
        okOrClamped (num16 hi lo) (min (num16 hi lo) Config.maxRequest))
  | _ => refuse s .badLength

/-! ## The commands -/

/-- PROVISION ZONE (R2). -/
def execProvisionZone (p : Port) (payload : List Byte) (s : State) : Host.Outcome State Fault Refusal :=
  .next (serve .provisionZone p payload (ownProvisionZone payload) s)
/-- RETIRE ZONE (R3). -/
def execRetireZone (p : Port) (payload : List Byte) (s : State) : Host.Outcome State Fault Refusal :=
  .next (serve .retireZone p payload (ownRetireZone payload) s)
/-- SET BUDGET (R4). -/
def execSetBudget (p : Port) (payload : List Byte) (s : State) : Host.Outcome State Fault Refusal :=
  .next (serve .setBudget p payload (ownSetBudget payload) s)
/-- SET NEIGHBOURS (R5). -/
def execSetNeighbours (p : Port) (payload : List Byte) (s : State) : Host.Outcome State Fault Refusal :=
  .next (serve .setNeighbours p payload (ownSetNeighbours payload) s)
/-- PIN ZONE (R6). -/
def execPinZone (p : Port) (payload : List Byte) (s : State) : Host.Outcome State Fault Refusal :=
  .next (serve .pinZone p payload (ownPinZone payload) s)
/-- MOVE ZONE (R14). -/
def execMoveZone (p : Port) (payload : List Byte) (s : State) : Host.Outcome State Fault Refusal :=
  .next (serve .moveZone p payload (ownMoveZone payload) s)
/-- READ ZONE (R21). -/
def execReadZone (p : Port) (payload : List Byte) (s : State) : Host.Outcome State Fault Refusal :=
  .next (serve .readZone p payload (ownReadZone p payload) s)
/-- ADMIT (R8). -/
def execAdmit (p : Port) (payload : List Byte) (s : State) : Host.Outcome State Fault Refusal :=
  .next (serve .admitOperator p payload (ownAdmit payload) s)
/-- SUSPEND (R9). -/
def execSuspend (p : Port) (payload : List Byte) (s : State) : Host.Outcome State Fault Refusal :=
  .next (serve .suspendOperator p payload (ownSuspend payload) s)
/-- RELEASE (R10). -/
def execRelease (p : Port) (payload : List Byte) (s : State) : Host.Outcome State Fault Refusal :=
  .next (serve .releaseOperator p payload (ownRelease payload) s)
/-- READ OPERATOR (R22). -/
def execReadOperator (p : Port) (payload : List Byte) (s : State) : Host.Outcome State Fault Refusal :=
  .next (serve .readOperator p payload (ownReadOperator p payload) s)
/-- SET SECTOR ENABLE (R11). -/
def execSetSectorEnable (p : Port) (payload : List Byte) (s : State) : Host.Outcome State Fault Refusal :=
  .next (serve .setSectorEnable p payload (fun s => withOperator p s fun o => ownSetSectorEnable o payload s) s)
/-- SET SECTOR POWER (R12). -/
def execSetSectorPower (p : Port) (payload : List Byte) (s : State) : Host.Outcome State Fault Refusal :=
  .next (serve .setSectorPower p payload (fun s => withOperator p s fun o => ownSetSectorPower o payload s) s)

end Sys2Proof.Machine
end

