-- ==== Sys2Proof/Machine/Dispatch.lean ====
section
/-! DEFINITION. The dispatch of every command to its meaning, in the order of `Instr`. -/

namespace Sys2Proof.Machine

open Sys2Proof

/-- The effect of a command on everything but the queue of waiting commands. -/
def exec (i : Instr) (s : State) : Host.Outcome State Fault Refusal :=
  match i with
  | .rstn => Sys2Proof.Machine.execRstn s
  | .chipSelectAssert p => Sys2Proof.Machine.execChipSelectAssert p s
  | .chipSelectRelease p => Sys2Proof.Machine.execChipSelectRelease p s
  | .frameLengthError p => Sys2Proof.Machine.execFrameLengthError p s
  | .checkFailed p => Sys2Proof.Machine.execCheckFailed p s
  | .unknownRequest p => Sys2Proof.Machine.execUnknownRequest p s
  | .replyStart p => Sys2Proof.Machine.execReplyStart p s
  | .readStatus p payload => Sys2Proof.Machine.execReadStatus p payload s
  | .readNotices p payload => Sys2Proof.Machine.execReadNotices p payload s
  | .readQueueLengths p payload => Sys2Proof.Machine.execReadQueueLengths p payload s
  | .start p payload => Sys2Proof.Machine.execStart p payload s
  | .stop p payload => Sys2Proof.Machine.execStop p payload s
  | .freeze p payload => Sys2Proof.Machine.execFreeze p payload s
  | .commitPlan p payload => Sys2Proof.Machine.execCommitPlan p payload s
  | .abortCommit p payload => Sys2Proof.Machine.execAbortCommit p payload s
  | .readTransport p payload => Sys2Proof.Machine.execReadTransport p payload s
  | .readShadowCounts p payload => Sys2Proof.Machine.execReadShadowCounts p payload s
  | .setPlanWindow p payload => Sys2Proof.Machine.execSetPlanWindow p payload s
  | .writePlanEntries p payload => Sys2Proof.Machine.execWritePlanEntries p payload s
  | .readPlanEntries p payload => Sys2Proof.Machine.execReadPlanEntries p payload s
  | .provisionZone p payload => Sys2Proof.Machine.execProvisionZone p payload s
  | .retireZone p payload => Sys2Proof.Machine.execRetireZone p payload s
  | .setBudget p payload => Sys2Proof.Machine.execSetBudget p payload s
  | .setNeighbours p payload => Sys2Proof.Machine.execSetNeighbours p payload s
  | .pinZone p payload => Sys2Proof.Machine.execPinZone p payload s
  | .moveZone p payload => Sys2Proof.Machine.execMoveZone p payload s
  | .readZone p payload => Sys2Proof.Machine.execReadZone p payload s
  | .admitOperator p payload => Sys2Proof.Machine.execAdmit p payload s
  | .suspendOperator p payload => Sys2Proof.Machine.execSuspend p payload s
  | .releaseOperator p payload => Sys2Proof.Machine.execRelease p payload s
  | .readOperator p payload => Sys2Proof.Machine.execReadOperator p payload s
  | .setSectorEnable p payload => Sys2Proof.Machine.execSetSectorEnable p payload s
  | .setSectorPower p payload => Sys2Proof.Machine.execSetSectorPower p payload s
  | .setLostLimit p payload => Sys2Proof.Machine.execSetLostLimit p payload s
  | .resetLossCount p payload => Sys2Proof.Machine.execResetLossCount p payload s
  | .readLink p payload => Sys2Proof.Machine.execReadLink p payload s
  | .setClassMode p payload => Sys2Proof.Machine.execSetClassMode p payload s
  | .setDerateLevel p payload => Sys2Proof.Machine.execSetDerateLevel p payload s
  | .faultClear p payload => Sys2Proof.Machine.execFaultClear p payload s
  | .readClassSettings p payload => Sys2Proof.Machine.execReadClassSettings p payload s
  | .readAlarmSummary p payload => Sys2Proof.Machine.execReadAlarmSummary p payload s
  | .readProtection p payload => Sys2Proof.Machine.execReadProtection p payload s
  | .setFilterWeight p payload => Sys2Proof.Machine.execSetFilterWeight p payload s
  | .readLoadCells p payload => Sys2Proof.Machine.execReadLoadCells p payload s
  | .readSectorLoads p payload => Sys2Proof.Machine.execReadSectorLoads p payload s
  | .setPolicy p payload => Sys2Proof.Machine.execSetPolicy p payload s
  | .setSilenceRule p payload => Sys2Proof.Machine.execSetSilenceRule p payload s
  | .setThresholds p payload => Sys2Proof.Machine.execSetThresholds p payload s
  | .setEvaluationPeriod p payload => Sys2Proof.Machine.execSetEvaluationPeriod p payload s
  | .setProposalWindow p payload => Sys2Proof.Machine.execSetProposalWindow p payload s
  | .accept p payload => Sys2Proof.Machine.execAccept p payload s
  | .decline p payload => Sys2Proof.Machine.execDecline p payload s
  | .setSpreadTimes p payload => Sys2Proof.Machine.execSetSpreadTimes p payload s
  | .readSpreadState p payload => Sys2Proof.Machine.execReadSpreadState p payload s
  | .readSettleCounts p payload => Sys2Proof.Machine.execReadSettleCounts p payload s
  | .setShare p payload => Sys2Proof.Machine.execSetShare p payload s
  | .readPower p payload => Sys2Proof.Machine.execReadPower p payload s
  | .readShares p payload => Sys2Proof.Machine.execReadShares p payload s
  | .readGrants p payload => Sys2Proof.Machine.execReadGrants p payload s
  | .preview p payload => Sys2Proof.Machine.execPreview p payload s
  | .readEngine p payload => Sys2Proof.Machine.execReadEngine p payload s
  | .streamUp o sec => Sys2Proof.Machine.execStreamUp o sec s
  | .streamDown o sec => Sys2Proof.Machine.execStreamDown o sec s
  | .uplinkStatusWord spoke pos word => Sys2Proof.Machine.execUplinkStatusWord spoke pos word s
  | .cycleStart order => Sys2Proof.Machine.execCycleStart order s
  | .drainEnd => Sys2Proof.Machine.execDrainEnd s
  | .lostDwellExpiry z => Sys2Proof.Machine.execLostDwellExpiry z s
  | .retryExpiry z c => Sys2Proof.Machine.execRetryExpiry z c s
  | .proposalExpiry o => Sys2Proof.Machine.execProposalExpiry o s
  | .evaluation o => Sys2Proof.Machine.execEvaluation o s
  | .reallocationCompletion => Sys2Proof.Machine.execReallocationCompletion s
  | .previewCompletion => Sys2Proof.Machine.execPreviewCompletion s
  | .markPulseEnd => Sys2Proof.Machine.execMarkPulseEnd s
  | .headerByteComplete p => Sys2Proof.Machine.execHeaderByteComplete p s
  | .replyEnd p => Sys2Proof.Machine.execReplyEnd p s

end Sys2Proof.Machine
end

