-- ==== Sys2Proof/Machine/Step.lean ====
section
/-! DEFINITION. One step of the machine: the command at the front of the queue is taken off it and has its effect. -/

namespace Sys2Proof.Machine

open Sys2Proof

/-- One step. With no command waiting, time passes: a falling edge of SCLK may place a bit of a status byte, and nothing else
happens, since the AP-648's own time is counted by CYCLE_START (log entry 10). -/
def step (s : State) : Host.Outcome State Fault Refusal :=
  match s.pending with
  | [] => .next (clockFalls s)
  | i :: rest => exec i { s with pending := rest }

/-- The state with the command that a word spells put at the front of its queue; the table gives no command any
bits, so no word spells one (log entry 13). -/
def State.withFetchWord (s : State) (nbits w : Nat) : State :=
  match decodeTableWord nbits w with
  | some i => { s with pending := i :: s.pending }
  | none => s

end Sys2Proof.Machine
end

