-- ==== Sys2Proof/WellFormed.lean ====
section
/-! DEFINITION. When a command's operands are such as the spec allows. The operands that name a port, a zone, an
operator, a class, a spoke or a position are in range by their types. -/

namespace Sys2Proof

/-- The largest length of an uplink status word (R184). -/
def maxWord : Nat := 8

/-- A payload is at most as long as a request frame carries (R166). -/
def goodPayload (payload : List Byte) : Bool := decide (payload.length ≤ Config.maxPayload)

/-- The operand that the spec bounds: a request's payload (R166), the bytes of an uplink word (R184) and the order of
the reactions at a cycle start (R36). -/
def Instr.wellFormed : Instr → Bool
  | .rstn => true
  | .chipSelectAssert _ => true
  | .chipSelectRelease _ => true
  | .frameLengthError _ => true
  | .checkFailed _ => true
  | .unknownRequest _ => true
  | .replyStart _ => true
  | .readStatus _ payload => goodPayload payload
  | .readNotices _ payload => goodPayload payload
  | .readQueueLengths _ payload => goodPayload payload
  | .start _ payload => goodPayload payload
  | .stop _ payload => goodPayload payload
  | .freeze _ payload => goodPayload payload
  | .commitPlan _ payload => goodPayload payload
  | .abortCommit _ payload => goodPayload payload
  | .readTransport _ payload => goodPayload payload
  | .readShadowCounts _ payload => goodPayload payload
  | .setPlanWindow _ payload => goodPayload payload
  | .writePlanEntries _ payload => goodPayload payload
  | .readPlanEntries _ payload => goodPayload payload
  | .provisionZone _ payload => goodPayload payload
  | .retireZone _ payload => goodPayload payload
  | .setBudget _ payload => goodPayload payload
  | .setNeighbours _ payload => goodPayload payload
  | .pinZone _ payload => goodPayload payload
  | .moveZone _ payload => goodPayload payload
  | .readZone _ payload => goodPayload payload
  | .admitOperator _ payload => goodPayload payload
  | .suspendOperator _ payload => goodPayload payload
  | .releaseOperator _ payload => goodPayload payload
  | .readOperator _ payload => goodPayload payload
  | .setSectorEnable _ payload => goodPayload payload
  | .setSectorPower _ payload => goodPayload payload
  | .setLostLimit _ payload => goodPayload payload
  | .resetLossCount _ payload => goodPayload payload
  | .readLink _ payload => goodPayload payload
  | .setClassMode _ payload => goodPayload payload
  | .setDerateLevel _ payload => goodPayload payload
  | .faultClear _ payload => goodPayload payload
  | .readClassSettings _ payload => goodPayload payload
  | .readAlarmSummary _ payload => goodPayload payload
  | .readProtection _ payload => goodPayload payload
  | .setFilterWeight _ payload => goodPayload payload
  | .readLoadCells _ payload => goodPayload payload
  | .readSectorLoads _ payload => goodPayload payload
  | .setPolicy _ payload => goodPayload payload
  | .setSilenceRule _ payload => goodPayload payload
  | .setThresholds _ payload => goodPayload payload
  | .setEvaluationPeriod _ payload => goodPayload payload
  | .setProposalWindow _ payload => goodPayload payload
  | .accept _ payload => goodPayload payload
  | .decline _ payload => goodPayload payload
  | .setSpreadTimes _ payload => goodPayload payload
  | .readSpreadState _ payload => goodPayload payload
  | .readSettleCounts _ payload => goodPayload payload
  | .setShare _ payload => goodPayload payload
  | .readPower _ payload => goodPayload payload
  | .readShares _ payload => goodPayload payload
  | .readGrants _ payload => goodPayload payload
  | .preview _ payload => goodPayload payload
  | .readEngine _ payload => goodPayload payload
  | .streamUp _ _ => true
  | .streamDown _ _ => true
  | .uplinkStatusWord _ _ word => decide (word.length ≤ maxWord)
  | .cycleStart order => Machine.legalOrder order
  | .drainEnd => true
  | .lostDwellExpiry _ => true
  | .retryExpiry _ _ => true
  | .proposalExpiry _ => true
  | .evaluation _ => true
  | .reallocationCompletion => true
  | .previewCompletion => true
  | .markPulseEnd => true
  | .headerByteComplete _ => true
  | .replyEnd _ => true

end Sys2Proof
end

