-- ==== Sys2Proof/Safety.lean ====
section
/-! DEFINITION. What holds of every state that the AP-648 reaches: the Power Sharing laws, and what the other chapters
say stands at every moment. Each is a predicate on one state; the statements say that a step keeps it. -/

namespace Sys2Proof.Machine

open Sys2Proof

/-! ## Terms of the statements -/

/-- A whole request frame is in on port p: the port is RECEIVING with its header byte complete, so that the check byte
may complete (R165, R166). -/
def FrameIn (s : State) (p : Port) : Prop := (s.port p).frame = .receiving true

/-- Operator o is ACTIVE (R7). -/
def Tenant (s : State) (o : OpNo) : Prop := (s.oper o).tenancy = .active

/-- Whether a result is a refusal: every one but OK, CLAMPED and STILL_ACTIVE (R173). -/
def Result.refuses : Result → Bool
  | .ok => false
  | .clamped => false
  | .stillActive => false
  | _ => true

/-- Bit k of the port status byte as its field stands: attention, overrun, FRAME_ERR, REPLY_CUT, tenant active, 0, and the
transport state, 00 STOPPED, 01 RUNNING, 10 DRAINING (R167, section 11.1). -/
def statusField (s : State) (p : Port) : Nat → Bool
  | 7 => !(s.noticeQueue p).records.isEmpty || (s.noticeQueue p).overrun
  | 6 => (s.noticeQueue p).overrun
  | 5 => (s.port p).frameErr
  | 4 => (s.port p).replyCut
  | 3 => match p with
    | .vn => true
    | .op o => decide ((s.oper o).tenancy = .active)
  | 1 => decide (s.transport = .draining)
  | 0 => decide (s.transport = .running)
  | _ => false

/-- The GRANT_FULL notices of those lanes of operator o that a test names, that were short with a request above 0, and that
an event clips to 0, in zone order (R129, R135, R136). -/
def fullNotices (s : State) (o : OpNo) (test : ZoneNo → Bool) : List Notice :=
  ((List.finRange 64).filter fun z => test z && (s.isShort z o && decide (0 < effRequest s z o))).map fun z =>
    { kind := .grantFull, stamp := s.stamp, zone := some z, operator := some o, fromSector := none, toSector := none,
      alarmClass := none, proposalId := none, value := some 0 }

/-- Port p has been given this reply, and no other port is touched (R166, R168). -/
def Answers (s t : State) (p : Port) (rep : Reply) : Prop := t.ports = (answer s p rep).ports

/-- The state u with the Power Share Unit's and the Allocation Engine's fields, the notice queues and the ports of t, so
that `t = u.leaving t` says that t agrees with u in every other field. -/
def State.leaving (u t : State) : State :=
  { u with
    grants := t.grants, short := t.short, realloc := t.realloc, flight := t.flight, previews := t.previews,
    consecutive := t.consecutive, lastPort := t.lastPort, notices := t.notices, ports := t.ports }

/-- The Spread Engine's state of an operator after its open proposal p is closed (R112, R113, R114, R116). -/
def SpreadRec.closed (r : SpreadRec) (p : Proposal) : SpreadRec := { r with proposal := none, lastClosed := some p.id }

/-- The Spread Engine's states after every operator's open proposal that passes a test is closed. -/
def closedWhere (s : State) (test : OpNo → Proposal → Bool) : Vector SpreadRec 4 :=
  vec4 fun o =>
    match (s.spreadRec o).proposal with
    | some p => if test o p then (s.spreadRec o).closed p else s.spreadRec o
    | none => s.spreadRec o

/-- Zone z waits for the Allocation Engine or its reallocation is in flight with the inputs as they stand (R131, R144). -/
def AwaitsAllocation (s : State) (z : ZoneNo) : Prop :=
  z ∈ s.realloc ∨ s.flight = some { kind := .reallocation, zone := z, snapshot := snapshotOf s z }

/-- The map latch took s to t: every working binding is active, the flag is clear, the settle counter of each changed lane
holds the settle time unless its operator is ABSENT, and each zone with a changed lane is queued (R15, R16). -/
def LatchTaken (s t : State) : Prop :=
  t.latchPending = false ∧ (∀ z : ZoneNo, t.zone z = { s.zone z with active := (s.zone z).working }) ∧
    (∀ (z : ZoneNo) (o : OpNo), t.settleCount z o =
      if s.working z o ≠ s.active z o ∧ (s.oper o).tenancy ≠ .absent then s.settleTime else s.settleCount z o) ∧
    ∀ z : ZoneNo, (∃ o : OpNo, s.working z o ≠ s.active z o) → AwaitsAllocation t z

/-! ## The choice of an evaluation (R107 to R109) -/

/-- Sector h is the loaded sector of o: enabled, of the largest load among the enabled, the lower-numbered of equals (R107). -/
def LoadedSector (s : State) (o : OpNo) (h : SectorNo) : Prop :=
  (s.sector o h).enabled = true ∧ ∀ x : SectorNo, (s.sector o x).enabled = true →
    sectorLoad s o x < sectorLoad s o h ∨ sectorLoad s o x = sectorLoad s o h ∧ h ≤ x

/-- Zone z is a candidate to move from the loaded sector h to sector t (R108). -/
def Candidate (s : State) (o : OpNo) (h t : SectorNo) (z : ZoneNo) : Prop :=
  ((s.sector o t).enabled = true ∧ (s.sector o t).streamUp = true ∧ t ≠ h ∧ sectorLoad s o t < (s.oper o).low) ∧
    (s.active z o = some h ∧ carrying s z o = true ∧ (s.zone z).pinned = false ∧ s.settleCount z o = 0 ∧ 0 < s.cell z o) ∧
    (∃ n ∈ (s.zone z).neighbours, live s n = true ∧ s.active n o = some t) ∧
    sectorLoad s o t + s.cell z o ≤ (s.oper o).high ∧ ∃ y : ZoneNo, y ≠ z ∧ live s y = true ∧ s.active y o = some h

/-- The pair of a target and a candidate that R109 chooses: the smallest target load, then the largest cell, the
lower-numbered of equals. -/
def Chosen (s : State) (o : OpNo) (h t : SectorNo) (z : ZoneNo) : Prop :=
  Candidate s o h t z ∧
    (∀ (t' : SectorNo) (z' : ZoneNo), Candidate s o h t' z' →
      sectorLoad s o t < sectorLoad s o t' ∨ sectorLoad s o t = sectorLoad s o t' ∧ t ≤ t') ∧
    ∀ z' : ZoneNo, Candidate s o h t z' → s.cell z' o < s.cell z o ∨ s.cell z' o = s.cell z o ∧ z ≤ z'

/-! ## Power sharing (Laws 1, 2, 3 and 5) -/

/-- Law 1: the sum of a zone's grants never exceeds its effective budget (R126). -/
def BudgetLaw (s : State) : Prop := ∀ z : ZoneNo, grantSum s z ≤ effBudget s z

/-- Law 2: a grant is at most its lane's effective request (R126). -/
def RequestLaw (s : State) : Prop := ∀ (z : ZoneNo) (o : OpNo), s.grant z o ≤ effRequest s z o

/-- The transport entered STOPPED between s and t: nothing is sent, every link is IDLE with its loss count kept, a live
zone's raw bits are clear with latched bits kept and the zone is queued, every proposal is closed, the latch and the commit
that were pending are taken, without MARK, the counts hold, and grants that kept Law 2 are 0 (R16, R29, R36, R57, R72). -/
def EnteredStopped (s t : State) : Prop :=
  (t.transport = .stopped ∧ t.firstPending = false ∧ t.downlink = none ∧ t.latchPending = false ∧ t.commitPending = false ∧
    t.cycle = s.cycle ∧ t.superframe = s.superframe ∧ t.mark = s.mark ∧ t.ops = s.ops ∧ t.workPlan = s.workPlan ∧
    t.modes = s.modes ∧ t.cells = s.cells ∧ t.stale = s.stale ∧ t.window = s.window) ∧
  (∀ z : ZoneNo, t.link z = { LinkRec.reset with loss := (s.link z).loss } ∧
    (live s z = true → AwaitsAllocation t z) ∧
    t.zone z = (if s.latchPending then { s.zone z with active := (s.zone z).working } else s.zone z) ∧
    ∀ c : ClassNo, (t.protRec z c).latched = (s.protRec z c).latched ∧
      if live s z then (t.protRec z c).raw = false else t.protRec z c = s.protRec z c) ∧
  t.spread = closedWhere s (fun _ _ => true) ∧ t.activePlan = (if s.commitPending then s.workPlan else s.activePlan) ∧
  t.lastCommit = (if s.commitPending then some s.stamp else s.lastCommit) ∧
  (∀ (spoke : SpokeNo) (n : EntryNo), t.shadow spoke n =
    if s.commitPending then { count := 0, reported := false } else s.shadow spoke n) ∧
  (RequestLaw s → ∀ (z : ZoneNo) (o : OpNo), t.grant z o = 0)

/-- Law 3: the sum of the four shares never exceeds 1000 (R123). -/
def ShareLaw (s : State) : Prop := sum4 (shares s) ≤ Config.maxShare

/-- Law 5: the reallocation queue never holds a zone twice (R131). -/
def QueueLaw (s : State) : Prop := s.realloc.Nodup

/-- The snapshot of a reallocation in flight matches its zone's present inputs unless the zone is queued (R145). -/
def freshFlight (s : State) : Option Computation → Prop
  | some { kind := .reallocation, zone := z, snapshot := n } => z ∈ s.realloc ∨ n = snapshotOf s z
  | _ => True

/-- The link of a zone is IDLE while the zone is unprovisioned or the transport STOPPED (R49, R57). -/
def IdleLaw (s : State) : Prop :=
  ∀ z : ZoneNo, (s.zone z).provisioned = false ∨ s.transport = .stopped → (s.link z).state = .idle

/-- The laws of Power Sharing with what carries them from an allocation's start to its completion (R126, R145). -/
def PowerInv (s : State) : Prop :=
  BudgetLaw s ∧ RequestLaw s ∧ ShareLaw s ∧ QueueLaw s ∧ freshFlight s s.flight ∧ IdleLaw s

/-! ## Protection (R63 to R72) -/

/-- A stored raw bit of a class that is not ignored has its latched bit set (R63). -/
def LatchedLaw (s : State) : Prop :=
  ∀ (z : ZoneNo) (c : ClassNo), (s.protRec z c).raw = true → s.mode c ≠ .ignore → (s.protRec z c).latched = true

/-- What a record's state says of its raw bit, its latched bit, its timer and its class's mode (R63, R66, R69, R70). -/
def goodRecord (m : ClassMode) (r : ProtRec) : Prop :=
  match r.state with
  | .idle => r.raw = true → m = .ignore
  | .active => r.raw = true ∧ m ≠ .ignore
  | .recovering left => r.raw = false ∧ 1 ≤ left ∧ left ≤ Config.slowTime ∧ (m = .derate ∨ m = .retrySlow ∨ m = .retryFast)
  | .held => m = .latch ∧ r.latched = true

/-- Each class holds a mode that it permits (R64). -/
def ModesLaw (s : State) : Prop := ∀ c : ClassNo, permits c (s.mode c) = true

/-- The raw bits of a dark zone are clear (R72). -/
def DarkLaw (s : State) : Prop := ∀ (z : ZoneNo) (c : ClassNo), live s z = false → (s.protRec z c).raw = false

/-- The protection records as chapter 4 leaves them. -/
def ProtectionInv (s : State) : Prop :=
  LatchedLaw s ∧ (∀ (z : ZoneNo) (c : ClassNo), goodRecord (s.mode c) (s.protRec z c)) ∧ ModesLaw s ∧ DarkLaw s

/-! ## The zone map and the proposals (R1, R13, R49, R111) -/

/-- An unprovisioned zone has NONE in all eight bindings, is not pinned and has its link IDLE (R1, R49). -/
def unprovisionedZone (s : State) (z : ZoneNo) : Prop :=
  (∀ o : OpNo, s.working z o = none ∧ s.active z o = none) ∧ (s.zone z).pinned = false ∧ (s.link z).state = .idle

/-- A proposal stands only while its operator is ACTIVE, its zone is live and unpinned, and the zone's working binding
is its from sector (R111). -/
def standingProposal (s : State) (o : OpNo) (p : Proposal) : Prop :=
  (s.oper o).tenancy = .active ∧ live s p.zone = true ∧ (s.zone p.zone).pinned = false ∧
    s.working p.zone o = some p.fromSector

/-- The zone map and the open proposals as chapters 1 and 6 leave them. -/
def MapInv (s : State) : Prop :=
  (∀ z : ZoneNo, (s.zone z).provisioned = false → unprovisionedZone s z) ∧
    (∀ z : ZoneNo, goodNeighbours z (s.zone z).neighbours = true) ∧
    (s.latchPending = false → ∀ (z : ZoneNo) (o : OpNo), s.working z o = s.active z o) ∧
    ∀ (o : OpNo) (p : Proposal), (s.spreadRec o).proposal = some p → standingProposal s o p

/-! ## The transport (R16, R23, R29) -/

/-- While STOPPED every link is IDLE, nothing is sent, and neither a latch, a commit, a first cycle start nor a
proposal is outstanding (R16, R29, R37, R112). -/
def StoppedInv (s : State) : Prop :=
  s.transport = .stopped →
    (∀ z : ZoneNo, (s.link z).state = .idle) ∧ s.latchPending = false ∧ s.commitPending = false ∧ s.firstPending = false ∧
      s.downlink = none ∧ ∀ o : OpNo, (s.spreadRec o).proposal = none

/-! ## The Allocation Engine (R141, R142) -/

/-- While the engine is FREE no zone is queued and every preview slot is empty: work is started at the end of the event
that brought it (R142). -/
def freeEngine (s : State) : Prop := s.flight = none → s.realloc = [] ∧ ∀ p : Port, s.previewSlot p = none

/-- A RUNNING slot is the computation in flight, and a WAITING slot is not cancelled (R141). -/
def slotsMatch (s : State) : Prop :=
  ∀ (p : Port) (e : PreviewSlot), s.previewSlot p = some e →
    (e.running = false → e.cancelled = false) ∧
      (e.running = true ↔ ∃ (o : OpNo) (q : Nat) (sec : Option SectorNo) (z : ZoneNo) (n : Snapshot),
        s.flight = some { kind := .preview p o q sec, zone := z, snapshot := n })

/-- A preview in flight has its port's slot RUNNING, with its zone, its operator and its request (R141). -/
def flightMatches (s : State) : Option Computation → Prop
  | some { kind := .preview p o q _, zone := z, snapshot := _ } =>
    ∃ cancelled : Bool, s.previewSlot p = some { zone := z, operator := o, request := q, running := true, cancelled := cancelled }
  | _ => True

/-- The engine's state as chapter 8 leaves it. -/
def EngineInv (s : State) : Prop :=
  freeEngine s ∧ slotsMatch s ∧ flightMatches s s.flight ∧ s.consecutive ≤ Config.maxConsecutive

/-! ## Notice queues and ports (R157, R165) -/

/-- Each notice queue holds at most 32 notices (R157). -/
def NoticeLaw (s : State) : Prop := ∀ p : Port, (s.noticeQueue p).records.length ≤ Config.noticeCapacity

/-- A frame state in which a reply stands: it is being assembled, sent, or has been sent (R165). -/
def replyStands : FrameState → Bool
  | .waiting => true
  | .replying => true
  | .ended => true
  | _ => false

/-- A port holds a reply exactly while its frame has been judged and its window is open, and of the eight bits of its status
byte it has placed the first at least while its header byte is clocked in (R164, R165, R168). -/
def PortInv (s : State) : Prop :=
  ∀ p : Port, (s.port p).reply.isSome = replyStands (s.port p).frame ∧ (s.port p).placed ≤ 8 ∧
    ((s.port p).frame = .receiving false → 1 ≤ (s.port p).placed)

/-! ## Ranges of the counts and values (R1, R7, R23, R31, R49, R84, R97, R120, R141) -/

/-- An operator record within the ranges of R7; the thresholds are 0 and 0 or in their order (R100). -/
def goodOperator (r : OpRec) : Prop :=
  r.high ≤ Config.maxLoad ∧ (r.low < r.high ∨ r.high = 0 ∧ r.low = 0) ∧ (1 ≤ r.period ∧ r.period ≤ Config.filterOne) ∧
    (1 ≤ r.window ∧ r.window ≤ Config.filterOne) ∧ (1 ≤ r.weight ∧ r.weight ≤ Config.filterOne) ∧
    r.share ≤ Config.maxShare ∧ ∀ sec : SectorNo, r.sectors[sec].request ≤ Config.maxRequest

/-- A link record within the ranges of R49, each field at 0 or empty where it has no meaning. -/
def goodLink (r : LinkRec) : Prop :=
  (r.goodRun < Config.goodRunUp ∧ r.history.length ≤ Config.historyLength ∧ r.missed ≤ Config.max8 ∧
    r.dwell < Config.dwellCycles ∧ r.loss ≤ Config.max8) ∧
  (r.state ≠ .search → r.goodRun = 0) ∧ (r.state ≠ .lost → r.dwell = 0) ∧ (r.state = .idle → r.missed = 0) ∧
  (r.state ≠ .up → r.state ≠ .weak → r.history = [])

/-- A spread record within the ranges of R97; a remaining count is that of a window (R111). -/
def goodSpread (r : SpreadRec) : Prop :=
  r.evalCount < Config.filterOne ∧ r.nextId < Config.idCount ∧
    (∀ n : Nat, r.lastClosed = some n → n < Config.idCount) ∧
    ∀ p : Proposal, r.proposal = some p → p.id < Config.idCount ∧ 1 ≤ p.remaining ∧ p.remaining ≤ Config.filterOne

/-- A plan entry's phase lies below its period (R31). -/
def goodEntry (e : PlanEntry) : Prop := e.phase.val < periodOf e.periodCode.val

/-- The counts and values of the whole part within their ranges. -/
def RangesInv (s : State) : Prop :=
  (s.cycle ≤ Config.lastCycle ∧ s.superframe ≤ Config.lastSuperframe ∧ s.stale ≤ Config.max16) ∧
    (∀ z : ZoneNo, (s.zone z).budget ≤ 65535 ∧ goodLink (s.link z)) ∧
    (∀ o : OpNo, goodOperator (s.oper o) ∧ goodSpread (s.spreadRec o)) ∧
    (∀ (z : ZoneNo) (o : OpNo), s.cell z o ≤ Config.maxCell ∧ s.settleCount z o ≤ 65535) ∧
    (s.settleTime ≤ 65535 ∧ s.holdOff ≤ 65535) ∧
    (∀ (spoke : SpokeNo) (n : EntryNo), goodEntry (s.workEntry spoke n) ∧ goodEntry (s.activeEntry spoke n) ∧
      (s.shadow spoke n).count ≤ Config.max8) ∧
    (Config.minLostLimit ≤ s.lostLimit ∧ s.lostLimit ≤ Config.maxLostLimit) ∧
    (1 ≤ s.tempLevel ∧ s.tempLevel ≤ Config.max8) ∧ 1 ≤ s.reflectLevel ∧ s.reflectLevel ≤ Config.max8

end Sys2Proof.Machine
end

