-- ==== Sys2Proof/Certificates/Slice0/Obligations.lean ====
section
/-! DEFINITION. The statements about the AP-648 that are to be proved. -/

open Sys2Proof Sys2Proof.Machine

/-! ## The queue of commands and the frames (R166, section 11.1) -/

/-- A step takes the command at the front of the queue and gives the outcome of its meaning on the rest. -/
def Obligations.StepRunsFrontCommand : Prop :=
  ∀ (i : Instr) (rest : List Instr) (s : State), s.pending = i :: rest → step s = exec i { s with pending := rest }

/-- The frame of a request decodes to that request, on every port and with every payload that a frame carries; with one byte
other than its length byte changed it is answered CHECK_FAILED. -/
def Obligations.FramesDecodeOrFailTheirCheck : Prop :=
  ∀ (r : Req) (p : Port) (payload : List Byte), payload.length ≤ Config.maxPayload →
    decodeFrame p (encodeFrame r payload) = some (r.toInstr p payload) ∧
    ∀ (i : Nat) (b : Byte), i < (encodeFrame r payload).length → i ≠ 1 → (encodeFrame r payload)[i]? ≠ some b →
      decodeFrame p ((encodeFrame r payload).set i b) = some (.checkFailed p)

/-! ## The port (chapter 10) -/

/-- A window's status byte. CHIP_SELECT_ASSERT takes an IDLE port to RECEIVING and places bit 7. While a header byte is being
clocked in, a step with no command waiting is a falling edge of one port's SCLK, which places that port's next bit; with none
under way such a step changes nothing. HEADER_BYTE_COMPLETE places the bits still to come and clears both sticky flags. Each
field is read when its first bit is placed, the transport state in bits 1..0 with bit 1, and what is read stays, so that every
field shows a value it held (R164, R166, R167, R180). When edges fall, and on which port, is
open, and that a step with no command waiting is one is the model's choice (log entries 9 and 10). -/
def Obligations.StatusByteShown : Prop :=
  ∀ (s : State) (p : Port),
    ((s.port p).frame = .idle → ∃ r : PortRec, exec (.chipSelectAssert p) s = .next (s.setPort p r) ∧
      r = { s.port p with frame := .receiving false, placed := 1, reply := none, status := r.status } ∧
      ∀ k, k < 8 → r.status.getLsbD k = (decide (k = 7) && statusField s p k)) ∧
    (s.pending = [] → (∀ q, (s.port q).frame ≠ .receiving false) → step s = .next s) ∧
    (s.pending = [] → (s.port p).frame = .receiving false → portNumber p = Config.clockedPort s.edges →
      (s.port p).placed < 8 → ∃ r : PortRec, step s = .next { s.setPort p r with edges := s.edges + 1 } ∧
        r = { s.port p with placed := (s.port p).placed + 1, status := r.status } ∧
        ∀ k, k < 8 → r.status.getLsbD k =
          if max k 1 + (s.port p).placed = 7 then statusField s p k else (s.port p).status.getLsbD k) ∧
    ((s.port p).frame = .receiving false → ∃ r : PortRec, exec (.headerByteComplete p) s = .next (s.setPort p r) ∧
      r = { s.port p with
        frame := .receiving true, frameErr := false, replyCut := false, placed := 8, status := r.status } ∧
      ∀ k, k < 8 → r.status.getLsbD k =
        if max k 1 + (s.port p).placed < 8 then statusField s p k else (s.port p).status.getLsbD k)

/-- CHIP_SELECT_RELEASE in every frame state (table of section 10.2): the port returns to IDLE, FRAME_ERR is set from
RECEIVING after the header, REPLY_CUT from WAITING and REPLYING, and a cut READ NOTICES that removed records sets the
overrun flag again, VN's as any other's, which is the model's choice (log entry 17). -/
def Obligations.ReleaseClosesWindow : Prop :=
  ∀ (s : State) (p : Port), ∃ t : State, exec (.chipSelectRelease p) s = .next t ∧
    t = { s with ports := t.ports, notices := t.notices } ∧ (∀ q, q ≠ p → t.port q = s.port q ∧ t.noticeQueue q = s.noticeQueue q) ∧
    (t.port p).frame = .idle ∧ (t.noticeQueue p).records = (s.noticeQueue p).records ∧
    (t.port p).frameErr = ((s.port p).frameErr || decide ((s.port p).frame = .receiving true)) ∧
    (t.port p).replyCut = ((s.port p).replyCut || decide ((s.port p).frame = .waiting ∨ (s.port p).frame = .replying)) ∧
    ((t.noticeQueue p).overrun = true ↔ (s.noticeQueue p).overrun = true ∨
      ((s.port p).frame = .waiting ∨ (s.port p).frame = .replying) ∧ ∃ r, (s.port p).reply = some r ∧ r.removed = true)

/-- The other frame events. REPLY_START takes a WAITING port to REPLYING and REPLY_END a REPLYING port to ENDED; a length byte
above 30 sets FRAME_ERR and leaves the port IGNORING; a failed check and an unknown code are answered with their result, no
payload and no FRAME_ERR. No owner is reached (R168, R169, R171, R173). -/
def Obligations.FrameEventsReachNoOwner : Prop :=
  ∀ (s : State) (p : Port),
    ((s.port p).frame = .waiting → exec (.replyStart p) s = .next (s.setPort p { s.port p with frame := .replying })) ∧
    ((s.port p).frame = .replying → exec (.replyEnd p) s = .next (s.setPort p { s.port p with frame := .ended })) ∧
    (FrameIn s p →
      exec (.frameLengthError p) s = .next (s.setPort p { s.port p with frame := .ignoring, frameErr := true }) ∧
      exec (.checkFailed p) s = .next (s.setPort p
        { s.port p with frame := .waiting, reply := some { result := .checkFailed, payload := [], removed := false } }) ∧
      exec (.unknownRequest p) s = .next (s.setPort p
        { s.port p with frame := .waiting, reply := some { result := .unknownRequest, payload := [], removed := false } }))

/-- Tests 3, 4 and 5 of R173 in their order, for every request on every port. -/
def Obligations.TestsBeforeOwnerInOrder : Prop :=
  ∀ (r : Req) (p : Port) (payload : List Byte) (s : State), FrameIn s p →
    (formLengths r p = none → exec (r.toInstr p payload) s = .next (answer s p (replyOf .notPermitted))) ∧
    ∀ lens, formLengths r p = some lens →
      ((∃ o, p = .op o ∧ ¬ Tenant s o) ∧ r ≠ .readStatus ∧ r ≠ .readNotices →
        exec (r.toInstr p payload) s = .next (answer s p (replyOf .tenantInactive))) ∧
      ((∀ o, p = .op o → Tenant s o ∨ r = .readStatus ∨ r = .readNotices) → payload.length ∉ lens →
        exec (r.toInstr p payload) s = .next (answer s p (replyOf .badLength)))

/-- Every request of a frame that is in is answered: the port enters WAITING with a reply, no other port and no waiting
command is touched, and a refusal changes nothing else and has an empty payload (R173). -/
def Obligations.RefusalChangesNothing : Prop :=
  ∀ (r : Req) (p : Port) (payload : List Byte) (s : State), FrameIn s p →
    ∃ (t : State) (rep : Reply), exec (r.toInstr p payload) s = .next t ∧
      t.port p = { s.port p with frame := .waiting, reply := some rep } ∧ (∀ q, q ≠ p → t.port q = s.port q) ∧
      t.pending = s.pending ∧ (rep.result.refuses = true → rep.payload = [] ∧ t = answer s p rep)

/-! ## The reads (R21, R22, R47, R48, R60, R78 to R81, R94, R95, R118, R119, R137 to R139, R152, R160, R176) -/

/-- READ STATUS, on every port, in every tenancy and transport state (R176), with the codes of section 11.3. -/
def Obligations.ReadStatusReply : Prop :=
  ∀ (s : State) (p : Port), FrameIn s p →
    exec (.readStatus p []) s = .next (answer s p (replyWith (
      u8 (portNumber p).val ++ [0x06, 0x48, 0x01] ++
        (match p with
          | .vn => ([1] : List Byte)
          | .op o => if (s.oper o).tenancy = .absent then ([0] : List Byte) else if (s.oper o).tenancy = .active then [1] else [2]) ++
        (if s.transport = .stopped then ([0] : List Byte) else if s.transport = .running then [1] else [2]) ++ u16 s.superframe ++
        u8 s.cycle ++ u8 (s.noticeQueue p).records.length ++ flagByte (s.noticeQueue p).overrun ++
        (match s.previewSlot p with
          | none => ([0] : List Byte)
          | some e => if e.running then [2] else [1]))))

/-- The venue reads without an operand: READ TRANSPORT, READ CLASS SETTINGS, READ SHARES and READ QUEUE LENGTHS reply as
their rules list, and an operator port does not take them. -/
def Obligations.VenueReadsReply : Prop :=
  ∀ s : State,
    (FrameIn s .vn →
      exec (.readTransport .vn []) s = .next (answer s .vn (replyWith (u8 s.transport.code ++ u16 s.superframe ++
        u8 s.cycle ++ flagByte s.commitPending ++
          (match s.lastCommit with
            | none => ([0, 0, 0, 0] : List Byte)
            | some t => [1] ++ u16 t.superframe ++ u8 t.cycle)))) ∧
      exec (.readClassSettings .vn []) s = .next (answer s .vn (replyWith (u8 (s.mode 0).code ++ u8 (s.mode 1).code ++
        u8 (s.mode 2).code ++ u8 (s.mode 3).code ++ u8 (s.mode 4).code ++ u8 (s.mode 5).code ++ u8 s.tempLevel ++
          u8 s.reflectLevel))) ∧
      exec (.readShares .vn []) s = .next (answer s .vn (replyWith (u16 (s.oper 0).share ++ u16 (s.oper 1).share ++
        u16 (s.oper 2).share ++ u16 (s.oper 3).share ++
          u16 ((s.oper 0).share + (s.oper 1).share + (s.oper 2).share + (s.oper 3).share)))) ∧
      exec (.readQueueLengths .vn []) s = .next (answer s .vn (replyWith
        ([Port.vn, .op 0, .op 1, .op 2, .op 3].flatMap fun p =>
          [BitVec.ofNat 8 (s.noticeQueue p).records.length, if (s.noticeQueue p).overrun then 1 else 0])))) ∧
    ∀ (o : OpNo) (payload : List Byte), FrameIn s (.op o) →
      ∀ r ∈ [Req.readTransport, .readClassSettings, .readShares, .readQueueLengths],
        exec (r.toInstr (.op o) payload) s = .next (answer s (.op o) (replyOf .notPermitted))

/-- The run reads: from a first number and a count of 1 to 16 that stay within 64, READ SHADOW COUNTS replies with that
spoke's entries, and READ LOAD CELLS, READ SETTLE COUNTS and READ GRANTS with the lanes of the named or own operator, in
rising order and with no count byte before them (log entry 8); any other run is OUT_OF_RANGE. -/
def Obligations.RunReadsReply : Prop :=
  ∀ (s : State) (p : Port) (o : OpNo) (spoke : SpokeNo) (first count : Byte) (lane : List Byte), FrameIn s p →
    (p = .op o ∧ Tenant s o ∧ lane = [first, count]) ∨ (p = .vn ∧ lane = [BitVec.ofNat 8 o.val, first, count]) →
    let inRange := first.toNat ≤ 63 ∧ 1 ≤ count.toNat ∧ count.toNat ≤ 16 ∧ first.toNat + count.toNat ≤ 64
    let run := (List.finRange 64).filter fun n => decide (first.toNat ≤ n.val) && decide (n.val < first.toNat + count.toNat)
    let reply (bytes : Fin 64 → List Byte) := if inRange then replyWith (run.flatMap bytes) else replyOf .outOfRange
    (p = .vn → exec (.readShadowCounts .vn [BitVec.ofNat 8 spoke.val, first, count]) s =
      .next (answer s .vn (reply fun n => u8 (s.shadow spoke n).count ++ flagByte (s.shadow spoke n).reported))) ∧
    exec (.readLoadCells p lane) s =
      .next (answer s p (reply fun z => u16 (s.cell z o) ++ flagByte (carrying s z o) ++ sectorByte (s.active z o))) ∧
    exec (.readSettleCounts p lane) s =
      .next (answer s p (reply fun z => u16 (s.settleCount z o) ++ flagByte (s.zone z).pinned)) ∧
    exec (.readGrants p lane) s =
      .next (answer s p (reply fun z => u16 (s.grant z o) ++ u16 (effRequest s z o) ++ flagByte (s.isShort z o)))

/-- The reads of one zone: READ ZONE, READ LINK and READ PROTECTION in the venue form and in the reduced operator form, and
READ POWER. -/
def Obligations.ZoneReadsReply : Prop :=
  ∀ (s : State) (z : ZoneNo),
    (FrameIn s .vn →
      exec (.readZone .vn (u8 z.val)) s = .next (answer s .vn (replyWith (flagByte (s.zone z).provisioned ++
        flagByte (s.zone z).pinned ++ flagByte (live s z) ++ u16 (s.zone z).budget ++ u8 (s.zone z).neighbours.length ++
        (s.zone z).neighbours.flatMap (fun n => u8 n.val) ++
        [0, 1, 2, 3].flatMap (fun o => sectorByte (s.working z o)) ++
        [0, 1, 2, 3].flatMap (fun o => sectorByte (s.active z o)) ++ flagByte s.latchPending))) ∧
      exec (.readLink .vn (u8 z.val)) s = .next (answer s .vn (replyWith (u8 (s.link z).state.code ++
        u8 (s.link z).history.length ++ (s.link z).history.flatMap flagByte ++
        u8 ((s.link z).history.filter fun good => !good).length ++ u8 (s.link z).goodRun ++ u8 (s.link z).missed ++
        u8 (s.link z).dwell ++ u8 (s.link z).loss ++ u8 s.lostLimit))) ∧
      exec (.readProtection .vn (u8 z.val)) s = .next (answer s .vn (replyWith (
        [0, 1, 2, 3, 4, 5].flatMap (fun c =>
          flagByte (s.protRec z c).raw ++
          (match (s.protRec z c).state with
            | .idle => ([0, 0] : List Byte)
            | .active => [1, 0]
            | .recovering left => [2] ++ u8 left
            | .held => [3, 0]) ++ flagByte (s.protRec z c).latched) ++ flagByte (muted s z) ++ u16 (derate s z)))) ∧
      exec (.readPower .vn (u8 z.val)) s = .next (answer s .vn (replyWith (u16 (s.zone z).budget ++ u16 (derate s z) ++
        u16 (effBudget s z) ++ [0, 1, 2, 3].flatMap (fun o => u16 (effRequest s z o)) ++
        [0, 1, 2, 3].flatMap (fun o => u16 (s.grant z o)) ++ [0, 1, 2, 3].flatMap (fun o => flagByte (s.isShort z o)) ++
        u16 (s.grant z 0 + s.grant z 1 + s.grant z 2 + s.grant z 3) ++
        u16 (effBudget s z - (s.grant z 0 + s.grant z 1 + s.grant z 2 + s.grant z 3)) ++
        u8 (if z ∈ s.realloc then s.realloc.idxOf z + 1 else 0) ++ u8 s.realloc.length)))) ∧
    ∀ o : OpNo, FrameIn s (.op o) → Tenant s o →
      exec (.readZone (.op o) (u8 z.val)) s = .next (answer s (.op o) (replyWith (flagByte (live s z) ++
        sectorByte (s.working z o) ++ sectorByte (s.active z o)))) ∧
      exec (.readLink (.op o) (u8 z.val)) s = .next (answer s (.op o) (replyWith (u8 (s.link z).state.code ++
        u8 ((s.link z).history.filter fun good => !good).length ++ u8 (s.link z).loss))) ∧
      ∃ latched : Byte,
        exec (.readProtection (.op o) (u8 z.val)) s = .next (answer s (.op o) (replyWith ([latched] ++ flagByte (muted s z) ++
          u16 (derate s z)))) ∧
        latched.toNat < 64 ∧ ∀ c : ClassNo, latched.getLsbD c.val = (s.protRec z c).latched

/-- The reads of one operator, named on VN and the port's own on an operator port: READ OPERATOR, READ SECTOR LOADS with
each load as the sum of the cells of the zones whose carrying lane is bound to the sector, and READ SPREAD STATE, which adds
the two spread times on VN. That an absent proposal is a presence byte 0 and zeros for its fields is the model's choice (log
entry 8). -/
def Obligations.OperatorReadsReply : Prop :=
  ∀ (s : State) (p : Port) (o : OpNo) (own : List Byte), FrameIn s p →
    (p = .op o ∧ Tenant s o ∧ own = []) ∨ (p = .vn ∧ own = [BitVec.ofNat 8 o.val]) →
    let r := s.oper o
    let e := s.spreadRec o
    exec (.readOperator p own) s = .next (answer s p (replyWith (u8 r.tenancy.code ++ u8 r.policy.code ++
      u8 r.silence.code ++ u32 r.high ++ u32 r.low ++ u16 r.period ++ u16 r.window ++ u16 r.weight ++ u16 r.share ++
      (List.finRange 8).flatMap fun sec =>
        flagByte (s.sector o sec).enabled ++ u16 (s.sector o sec).request ++ flagByte (s.sector o sec).streamUp))) ∧
    exec (.readSectorLoads p own) s = .next (answer s p (replyWith (
      (List.finRange 8).flatMap (fun sec =>
        let from' := (List.finRange 64).filter fun z => decide (s.active z o = some sec) && carrying s z o
        u32 (from'.map fun z => s.cell z o).sum ++ u8 from'.length) ++ u32 r.high ++ u32 r.low))) ∧
    exec (.readSpreadState p own) s = .next (answer s p (replyWith (u8 r.policy.code ++ u8 r.silence.code ++ u32 r.high ++
      u32 r.low ++ u16 r.period ++ u16 r.window ++ u16 e.evalCount ++ u8 e.outcome.code ++
      (match e.proposal with
        | none => ([0, 0, 0, 0, 0, 0, 0] : List Byte)
        | some x => [1] ++ u8 x.id ++ u8 x.zone.val ++ u8 x.fromSector.val ++ u8 x.toSector.val ++ u16 x.remaining) ++
      (match e.lastClosed with
        | none => ([0, 0] : List Byte)
        | some n => [1] ++ u8 n) ++ u8 e.nextId ++ (if p = .vn then u16 s.settleTime ++ u16 s.holdOff else []))))

/-- READ ALARM SUMMARY: on VN two sets of class bits, of the provisioned and of the other zones, on an operator port one
set over the zones where it is bound; then the counts of those zones, the provisioned ones on VN, that are muted and that
have D below 256. -/
def Obligations.AlarmSummaryReply : Prop :=
  ∀ s : State,
    (FrameIn s .vn → ∃ b b' : Byte,
      exec (.readAlarmSummary .vn []) s = .next (answer s .vn (replyWith ([b, b'] ++
        u8 ((List.finRange 64).filter fun z => (s.zone z).provisioned && muted s z).length ++
        u8 ((List.finRange 64).filter fun z => (s.zone z).provisioned && decide (derate s z < 256)).length))) ∧
      b.toNat < 64 ∧ b'.toNat < 64 ∧ ∀ c : ClassNo,
        (b.getLsbD c.val = true ↔ ∃ z, (s.zone z).provisioned = true ∧ (s.protRec z c).latched = true) ∧
        (b'.getLsbD c.val = true ↔ ∃ z, (s.zone z).provisioned = false ∧ (s.protRec z c).latched = true)) ∧
    ∀ o : OpNo, FrameIn s (.op o) → Tenant s o → ∃ b : Byte,
      exec (.readAlarmSummary (.op o) []) s = .next (answer s (.op o) (replyWith ([b] ++
        u8 ((List.finRange 64).filter fun z => (s.active z o).isSome && muted s z).length ++
        u8 ((List.finRange 64).filter fun z => (s.active z o).isSome && decide (derate s z < 256)).length))) ∧
      b.toNat < 64 ∧ ∀ c : ClassNo,
        (b.getLsbD c.val = true ↔ ∃ z, s.active z o ≠ none ∧ (s.protRec z c).latched = true)

/-- READ ENGINE: on VN the engine's state in the order of R152, with the stale-discard count set to 0 after its value is in
the reply where the clear flag says so; on an operator port the port's own slot alone. How "none" and an empty slot are
carried is the model's choice (log entry 8). -/
def Obligations.ReadEngineReply : Prop :=
  ∀ s : State,
    (FrameIn s .vn → ∀ clear : Bool,
      exec (.readEngine .vn (flagByte clear)) s = .next (answer { s with stale := if clear then 0 else s.stale } .vn (replyWith (
        (match s.flight with
          | none => ([0, 0, 0, 0, 0] : List Byte)
          | some { kind := .reallocation, zone := z, snapshot := _ } => [1, 1, 0] ++ u8 z.val ++ [0]
          | some { kind := .preview p _ _ _, zone := z, snapshot := _ } => [1, 1, 1] ++ u8 z.val ++ u8 (portNumber p).val) ++
        u8 s.consecutive ++ u8 (portNumber s.lastPort).val ++ u8 s.realloc.length ++
        [Port.vn, .op 0, .op 1, .op 2, .op 3].flatMap (fun p =>
          match s.previewSlot p with
          | none => ([0, 0] : List Byte)
          | some e => if e.running then [2] ++ flagByte e.cancelled else [1, 0]) ++ u16 s.stale)))) ∧
    ∀ o : OpNo, FrameIn s (.op o) → Tenant s o →
      exec (.readEngine (.op o) []) s = .next (answer s (.op o) (replyWith (
        match s.previewSlot (.op o) with
        | none => ([0, 0, 0, 0] : List Byte)
        | some e => ([if e.running then 2 else 1] : List Byte) ++ u8 e.zone.val ++ u16 e.request)))

/-! ## The slot plan window (R32, R177, R178, R179, R183) -/

/-- SET PLAN WINDOW: bounds in range and in order are stored, with the pointer at their first entry and the stage empty;
any others are OUT_OF_RANGE and change nothing (R177). -/
def Obligations.PlanWindowSet : Prop :=
  ∀ (s : State) (a b c d : Byte), FrameIn s .vn →
    (∀ (fs ls : SpokeNo) (fe le : EntryNo), a.toNat = fs.val → b.toNat = ls.val → c.toNat = fe.val → d.toNat = le.val →
      fs ≤ ls → fe ≤ le →
      exec (.setPlanWindow .vn [a, b, c, d]) s = .next (answer
        { s with window := { firstSpoke := fs, lastSpoke := ls, firstEntry := fe, lastEntry := le, spoke := fs, entry := fe,
                             stage := none } } .vn (replyOf .ok))) ∧
    (7 < a.toNat ∨ 7 < b.toNat ∨ 63 < c.toNat ∨ 63 < d.toNat ∨ b.toNat < a.toNat ∨ d.toNat < c.toNat →
      exec (.setPlanWindow .vn [a, b, c, d]) s = .next (answer s .vn (replyOf .outOfRange)))

/-- WRITE PLAN ENTRIES: one entry goes to the pointer, checked as R32 states and counted when it is forced off, and the
pointer steps through the window row by row and wraps; a payload of several entries writes what its first entry and then
the others would write, and its reply counts them all. Only the working plan and the pointer change (R32, R178). -/
def Obligations.PlanEntriesWritten : Prop :=
  (∀ (s : State) (a b c : Byte), FrameIn s .vn →
    let w := s.window
    let code := b.toNat % 8
    let e : PlanEntry :=
      { enabled := a.getLsbD 7 && decide (code < 5), slot := Fin.ofNat 32 (a.toNat % 32),
        position := Fin.ofNat 8 (b.toNat / 32), operator := Fin.ofNat 4 (b.toNat / 8 % 4),
        periodCode := Fin.ofNat 5 (if code < 5 then code else 0),
        phase := Fin.ofNat 16 (if code < 5 then c.toNat % 16 % 2 ^ code else 0) }
    ∃ t : State, exec (.writePlanEntries .vn [a, b, c]) s = .next t ∧
      t = { s.setWorkEntry w.spoke w.entry e with window := t.window, ports := t.ports } ∧
      t.window = { w with spoke := t.window.spoke, entry := t.window.entry } ∧
      (if w.entry < w.lastEntry then t.window.entry.val = w.entry.val + 1 ∧ t.window.spoke = w.spoke
        else t.window.entry = w.firstEntry ∧
          if w.spoke < w.lastSpoke then t.window.spoke.val = w.spoke.val + 1 else t.window.spoke = w.firstSpoke) ∧
      Answers s t .vn (replyWith [if a.getLsbD 7 ∧ 5 ≤ code then 1 else 0, BitVec.ofNat 8 t.window.spoke.val,
        BitVec.ofNat 8 t.window.entry.val])) ∧
  ∀ (s : State) (a b c : Byte) (more : List Byte), FrameIn s .vn → more.length ∈ [3, 6, 9, 12, 15] →
    ∃ (t u v : State) (n m : Byte), exec (.writePlanEntries .vn [a, b, c]) s = .next t ∧
      exec (.writePlanEntries .vn more) { t with ports := s.ports } = .next u ∧
      exec (.writePlanEntries .vn (a :: b :: c :: more)) s = .next v ∧ v = { u with ports := v.ports } ∧
      Answers s t .vn (replyWith [n, BitVec.ofNat 8 t.window.spoke.val, BitVec.ofNat 8 t.window.entry.val]) ∧
      Answers s u .vn (replyWith [m, BitVec.ofNat 8 u.window.spoke.val, BitVec.ofNat 8 u.window.entry.val]) ∧
      Answers s v .vn (replyWith [n + m, BitVec.ofNat 8 u.window.spoke.val, BitVec.ofNat 8 u.window.entry.val])

/-- READ PLAN ENTRIES: one step returns what the stage held, a filler where it was empty, fills the stage with the entry at
the pointer and steps the pointer as a write does; a count of n+1 returns what one read and then a read of n return; a count
of 0 or above 6 is OUT_OF_RANGE. No plan changes (R179). That no count byte comes before the entries is the model's choice
(log entry 8). -/
def Obligations.PlanEntriesRead : Prop :=
  (∀ s : State, FrameIn s .vn →
    ∃ t u : State, exec (.readPlanEntries .vn [1]) s = .next t ∧ t = { s with window := t.window, ports := t.ports } ∧
      exec (.writePlanEntries .vn [0, 0, 0]) s = .next u ∧
      t.window = { u.window with
        stage := some { spoke := s.window.spoke, entry := s.window.entry, plan := s.workEntry s.window.spoke s.window.entry } } ∧
      Answers s t .vn (replyWith (match s.window.stage with
        | none => [0xFF, 0xFF, 0, 0, 0]
        | some e => [BitVec.ofNat 8 e.spoke.val, BitVec.ofNat 8 e.entry.val] ++ e.plan.bytes))) ∧
  (∀ (s : State) (n : Byte), FrameIn s .vn → 1 ≤ n.toNat → n.toNat ≤ 5 →
    ∃ (t u v : State) (x y : List Byte), exec (.readPlanEntries .vn [1]) s = .next t ∧
      exec (.readPlanEntries .vn [n]) { t with ports := s.ports } = .next u ∧
      exec (.readPlanEntries .vn [n + 1]) s = .next v ∧ v = { u with ports := v.ports } ∧
      Answers s t .vn (replyWith x) ∧ Answers s u .vn (replyWith y) ∧ Answers s v .vn (replyWith (x ++ y)) ∧
      y.length = 5 * n.toNat) ∧
  ∀ (s : State) (n : Byte), FrameIn s .vn → n.toNat = 0 ∨ 6 < n.toNat →
    exec (.readPlanEntries .vn [n]) s = .next (answer s .vn (replyOf .outOfRange))

/-! ## Reset (the tables of values after RSTn) -/

/-- RSTN takes every block to the values of its table of values after RSTn, from any state; only the model's own fields stay,
its queue of waiting commands and its count of falling edges. -/
def Obligations.ResetEstablishesValues : Prop :=
  ∀ s : State, ∃ t : State, exec .rstn s = .next t ∧ t.pending = s.pending ∧ t.edges = s.edges ∧
    (t.transport = .stopped ∧ t.cycle = 0 ∧ t.superframe = 0 ∧ t.commitPending = false ∧ t.lastCommit = none ∧
      t.mark = false ∧ t.latchPending = false ∧ t.lostLimit = 8 ∧ t.tempLevel = 192 ∧ t.reflectLevel = 128 ∧
      t.settleTime = 3750 ∧ t.holdOff = 18750 ∧ t.realloc = [] ∧ t.flight = none ∧ t.consecutive = 0 ∧
      t.lastPort = .op 3 ∧ t.stale = 0) ∧
    (∀ z : ZoneNo,
      t.zone z =
        { provisioned := false, pinned := false, neighbours := [], budget := 0,
          working := #v[none, none, none, none], active := #v[none, none, none, none] } ∧
      t.link z = { state := .idle, goodRun := 0, history := [], missed := 0, dwell := 0, loss := 0 } ∧
      (∀ c : ClassNo, t.protRec z c = { raw := false, state := .idle, latched := false }) ∧
      ∀ o : OpNo, t.cell z o = 0 ∧ t.settleCount z o = 0 ∧ t.grant z o = 0 ∧ t.isShort z o = false) ∧
    (∀ o : OpNo, (t.oper o).tenancy = .absent ∧ (t.oper o).policy = .fixed ∧ (t.oper o).silence = .drop ∧
      (t.oper o).high = 0 ∧ (t.oper o).low = 0 ∧ (t.oper o).period = 625 ∧ (t.oper o).window = 125 ∧
      (t.oper o).weight = 64 ∧ (t.oper o).share = 0 ∧
      (∀ sec : SectorNo, t.sector o sec = { enabled := false, request := 0, streamUp := false }) ∧
      t.spreadRec o = { evalCount := 0, proposal := none, lastClosed := none, nextId := 0, outcome := .notRun }) ∧
    (t.mode 0 = .derate ∧ t.mode 1 = .retrySlow ∧ t.mode 2 = .derate ∧ t.mode 3 = .retryFast ∧ t.mode 4 = .latch ∧
      t.mode 5 = .report) ∧
    (∀ (spoke : SpokeNo) (n : EntryNo), t.shadow spoke n = { count := 0, reported := false } ∧
      t.workEntry spoke n = { enabled := false, slot := 0, position := 0, operator := 0, periodCode := 0, phase := 0 } ∧
      t.activeEntry spoke n = t.workEntry spoke n) ∧
    (∀ p : Port, t.noticeQueue p = { records := [], overrun := false } ∧ t.previewSlot p = none ∧
      (t.port p).frame = .idle ∧ (t.port p).frameErr = false ∧ (t.port p).replyCut = false ∧ (t.port p).reply = none) ∧
    t.window = { firstSpoke := 0, lastSpoke := 7, firstEntry := 0, lastEntry := 63, spoke := 0, entry := 0, stage := none }

/-! ## The zone map (chapter 1) -/

/-- PROVISION ZONE: a zone that is not provisioned becomes so, its cells are 0 and, while RUNNING, its IDLE link goes to
SEARCH with its loss count kept; a provisioned zone is refused BAD_STATE. -/
def Obligations.ProvisionZoneProvisions : Prop :=
  ∀ (s : State) (z : ZoneNo), FrameIn s .vn →
    ((s.zone z).provisioned = true → exec (.provisionZone .vn (u8 z.val)) s = .next (answer s .vn (replyOf .badState))) ∧
    ((s.zone z).provisioned = false → exec (.provisionZone .vn (u8 z.val)) s = .next (answer
      { s with
        zones := s.zones.set z { s.zone z with provisioned := true }
        cells := s.cells.set z #v[0, 0, 0, 0]
        links := if s.transport = .running ∧ (s.link z).state = .idle then
            s.links.set z { state := .search, goodRun := 0, history := [], missed := 0, dwell := 0, loss := (s.link z).loss }
          else s.links } .vn (replyOf .ok)))

/-- RETIRE ZONE of a provisioned zone: bindings NONE in both maps, pin and provisioning gone, budget and neighbours kept,
link IDLE with its loss count kept, cells 0, a live zone's raw bits clear with latched bits kept and the proposals on it
closed, the zone queued, and, where the grants kept Law 2, its grants 0. A zone that is not provisioned is refused. -/
def Obligations.RetireZoneTakesZoneOut : Prop :=
  ∀ (s : State) (z : ZoneNo), FrameIn s .vn →
    ((s.zone z).provisioned = false → exec (.retireZone .vn (u8 z.val)) s = .next (answer s .vn (replyOf .badState))) ∧
    ((s.zone z).provisioned = true → ∃ t : State, exec (.retireZone .vn (u8 z.val)) s = .next t ∧
      Answers s t .vn (replyOf .ok) ∧
      t = ({ s with
        zones := s.zones.set z
          { s.zone z with
            provisioned := false, pinned := false
            working := #v[none, none, none, none], active := #v[none, none, none, none] }
        links := s.links.set z { state := .idle, goodRun := 0, history := [], missed := 0, dwell := 0, loss := (s.link z).loss }
        cells := s.cells.set z #v[0, 0, 0, 0]
        prot := t.prot
        spread := if live s z then closedWhere s (fun _ p => decide (p.zone = z)) else s.spread } : State).leaving t ∧
      (∀ (y : ZoneNo) (c : ClassNo), (y ≠ z ∨ live s z = false → t.protRec y c = s.protRec y c) ∧
        (live s z = true → (t.protRec z c).raw = false ∧ (t.protRec z c).latched = (s.protRec z c).latched)) ∧
      AwaitsAllocation t z ∧ (RequestLaw s → ∀ o : OpNo, t.grant z o = 0) ∧
      ∀ (y : ZoneNo) (o : OpNo), y ≠ z → t.grant y o = s.grant y o)

/-- SET BUDGET stores any 16-bit budget. A new value clips the zone's four grants in proportion where the effective budget
falls, and queues the zone; the value already held does nothing. -/
def Obligations.BudgetStoredAndClipped : Prop :=
  ∀ (s : State) (z : ZoneNo) (b : Nat), FrameIn s .vn → b ≤ 65535 →
    ∃ t : State, exec (.setBudget .vn (u8 z.val ++ u16 b)) s = .next t ∧ Answers s t .vn (replyOf .ok) ∧
      t = ({ s with zones := s.zones.set z { s.zone z with budget := b } } : State).leaving t ∧
      (b = (s.zone z).budget → t = answer s .vn (replyOf .ok)) ∧
      (b ≠ (s.zone z).budget → AwaitsAllocation t z) ∧ t.noticeQueue .vn = s.noticeQueue .vn ∧
      (∀ o : OpNo, t.grant z o =
        if b * derate s z / 256 < (s.zone z).budget * derate s z / 256 then
          s.grant z o * (b * derate s z / 256) / ((s.zone z).budget * derate s z / 256)
        else s.grant z o) ∧
      ∀ (y : ZoneNo) (o : OpNo), y ≠ z → t.grant y o = s.grant y o

/-- SET NEIGHBOURS: a list of at most 4 distinct zones without the zone itself replaces the old list as a whole, and every
other list is refused BAD_LIST and changes nothing. PIN ZONE: the pin of a provisioned zone takes the value, and a pin that
was not set before closes every proposal on the zone; on a zone that is not provisioned a set is BAD_STATE and a clear does
nothing (R5, R6, R116). -/
def Obligations.NeighboursAndPinStored : Prop :=
  ∀ (s : State) (z : ZoneNo), FrameIn s .vn →
    (∀ list : List Byte, list.length ≤ 8 →
      (∀ l : List ZoneNo, list = l.map (fun n => BitVec.ofNat 8 n.val) → l.length ≤ 4 → l.Nodup → z ∉ l →
        exec (.setNeighbours .vn (u8 z.val ++ list)) s =
          .next (answer (s.setZone z { s.zone z with neighbours := l }) .vn (replyOf .ok))) ∧
      ((¬ ∃ l : List ZoneNo, list = l.map (fun n => BitVec.ofNat 8 n.val) ∧ l.length ≤ 4 ∧ l.Nodup ∧ z ∉ l) →
        exec (.setNeighbours .vn (u8 z.val ++ list)) s = .next (answer s .vn (replyOf .badList)))) ∧
    ((s.zone z).provisioned = false →
      exec (.pinZone .vn (u8 z.val ++ [1])) s = .next (answer s .vn (replyOf .badState)) ∧
      exec (.pinZone .vn (u8 z.val ++ [0])) s = .next (answer s .vn (replyOf .ok))) ∧
    ((s.zone z).provisioned = true →
      exec (.pinZone .vn (u8 z.val ++ [0])) s =
        .next (answer (s.setZone z { s.zone z with pinned := false }) .vn (replyOf .ok)) ∧
      ∃ t : State, exec (.pinZone .vn (u8 z.val ++ [1])) s = .next t ∧ Answers s t .vn (replyOf .ok) ∧
        t = { s with
          zones := s.zones.set z { s.zone z with pinned := true }
          spread := if (s.zone z).pinned then s.spread else closedWhere s (fun _ p => decide (p.zone = z))
          notices := t.notices
          ports := t.ports } ∧
        ((s.zone z).pinned = true → t.notices = s.notices))

/-- MOVE ZONE writes the lane's working binding and closes that operator's proposal on the zone. While the transport runs
the write waits with the flag set and no active binding changes; while it is STOPPED the latch is taken within the request,
without MARK. An unprovisioned zone or an ABSENT operator is refused BAD_STATE (R13, R14, R16). -/
def Obligations.MoveZoneWritesWorkingMap : Prop :=
  ∀ (s : State) (z : ZoneNo) (o : OpNo) (x : Option SectorNo), FrameIn s .vn →
    ((s.zone z).provisioned = false ∨ (s.oper o).tenancy = .absent →
      exec (.moveZone .vn (u8 z.val ++ u8 o.val ++ sectorByte x)) s = .next (answer s .vn (replyOf .badState))) ∧
    ((s.zone z).provisioned = true → (s.oper o).tenancy ≠ .absent →
      ∃ t : State, exec (.moveZone .vn (u8 z.val ++ u8 o.val ++ sectorByte x)) s = .next t ∧
        Answers s t .vn (replyOf .ok) ∧
        let w : State :=
          { s with
            zones := s.zones.set z { s.zone z with working := (s.zone z).working.set o x }
            spread := closedWhere s fun q p => decide (q = o) && decide (p.zone = z) }
        (s.transport ≠ .stopped → t = { w with latchPending := true, notices := t.notices, ports := t.ports }) ∧
        (s.transport = .stopped → LatchTaken w t ∧
          t = ({ w with zones := t.zones, latchPending := false, settle := t.settle } : State).leaving t))

/-! ## Tenancy and sector tables (R8 to R12) -/

/-- ADMIT and SUSPEND. ADMIT makes an operator that is not ACTIVE so, clips no grant, and queues each zone where a lane of
it starts to carry; SUSPEND makes an ACTIVE operator SUSPENDED, closes its proposal, leaves its grants 0 where they kept
Law 2, and queues each zone where a lane of it carried. Both file TENANCY_CHANGED to the operator and to VN first; for SUSPEND
the PROPOSAL_WITHDRAWN follows it on both ports, and then, to the operator alone, the GRANT_FULL of each short lane in zone
order. Each is refused BAD_STATE from the other tenancy states (R8, R9, R20). -/
def Obligations.TenancyAdmittedAndSuspended : Prop :=
  ∀ (s : State) (o : OpNo), FrameIn s .vn →
    let told (v : Nat) : Notice :=
      { kind := .tenancyChanged, stamp := s.stamp, zone := none, operator := some o, fromSector := none, toSector := none,
        alarmClass := none, proposalId := none, value := some v }
    let withdrawn (q : NoticeQueue) : NoticeQueue :=
      match (s.spreadRec o).proposal with
      | none => appendNotice q (told 2)
      | some p => appendNotice (appendNotice q (told 2))
          { kind := .proposalWithdrawn, stamp := s.stamp, zone := some p.zone, operator := some o,
            fromSector := some p.fromSector, toSector := some p.toSector, alarmClass := none, proposalId := some p.id,
            value := some 4 }
    (Tenant s o → exec (.admitOperator .vn (u8 o.val)) s = .next (answer s .vn (replyOf .badState))) ∧
    (¬ Tenant s o → exec (.suspendOperator .vn (u8 o.val)) s = .next (answer s .vn (replyOf .badState))) ∧
    (¬ Tenant s o → ∃ t : State, exec (.admitOperator .vn (u8 o.val)) s = .next t ∧ Answers s t .vn (replyOf .ok) ∧
      t = (s.setOper o { s.oper o with tenancy := .active }).leaving t ∧ t.grants = s.grants ∧ t.short = s.short ∧
      t.notices = (file s [.op o, .vn] (told 1)).notices ∧ ∀ z : ZoneNo, carrying t z o = true → AwaitsAllocation t z) ∧
    (Tenant s o → ∃ t : State, exec (.suspendOperator .vn (u8 o.val)) s = .next t ∧ Answers s t .vn (replyOf .ok) ∧
      t = ({ s.setOper o { s.oper o with tenancy := .suspended } with spread := closedWhere s fun q _ => decide (q = o) } :
        State).leaving t ∧
      t.noticeQueue .vn = withdrawn (s.noticeQueue .vn) ∧
      t.noticeQueue (.op o) =
        (fullNotices s o fun _ => true).foldl appendNotice (withdrawn (s.noticeQueue (.op o))) ∧
      (∀ q : OpNo, q ≠ o → t.noticeQueue (.op q) = s.noticeQueue (.op q)) ∧
      (∀ z : ZoneNo, (carrying s z o = true → AwaitsAllocation t z) ∧ (RequestLaw s → t.grant z o = 0) ∧
        ∀ q : OpNo, q ≠ o → t.grant z q = s.grant z q))

/-- RELEASE in every tenancy state: the operator's record returns to its reset values with stream presence kept, its working
bindings are NONE, its cells, settle counters, evaluation counter and outcome are at their reset values, its proposal id
counter is kept, its preview slot is emptied or cancelled, its queue holds TENANCY_CHANGED alone, and a share above 0 queues
all 64 zones. No other operator's record, working bindings or cells change. That the latch of a RELEASE in STOPPED follows
these steps is the model's choice (log entry 5). -/
def Obligations.ReleaseReturnsOperatorToDefaults : Prop :=
  ∀ (s : State) (o : OpNo), FrameIn s .vn →
    ∃ t : State, exec (.releaseOperator .vn (u8 o.val)) s = .next t ∧ Answers s t .vn (replyOf .ok) ∧
      t = ({ s with
        zones := t.zones, latchPending := decide (s.transport ≠ .stopped), ops := t.ops, spread := t.spread, cells := t.cells,
        settle := t.settle } : State).leaving t ∧
      t.oper o = { OpRec.reset with sectors := (t.oper o).sectors } ∧
      (∀ sec : SectorNo, t.sector o sec = { enabled := false, request := 0, streamUp := (s.sector o sec).streamUp }) ∧
      (∀ z : ZoneNo, t.working z o = none ∧ t.cell z o = 0 ∧ t.settleCount z o = 0 ∧ (RequestLaw s → t.grant z o = 0)) ∧
      (∀ q : OpNo, q ≠ o → t.oper q = s.oper q ∧ t.spreadRec q = s.spreadRec q ∧
        ∀ z : ZoneNo, t.working z q = s.working z q ∧ t.cell z q = s.cell z q) ∧
      (∀ (z : ZoneNo) (q : OpNo), t.active z q = if s.transport = .stopped then t.working z q else s.active z q) ∧
      (∀ z : ZoneNo, t.zone z = { s.zone z with working := (t.zone z).working, active := (t.zone z).active }) ∧
      (t.spreadRec o).evalCount = 0 ∧ (t.spreadRec o).outcome = .notRun ∧ (t.spreadRec o).nextId = (s.spreadRec o).nextId ∧
      (Tenant s o → (t.spreadRec o).proposal = none) ∧
      t.noticeQueue (.op o) =
        { records := [{ kind := .tenancyChanged, stamp := s.stamp, zone := none, operator := some o, fromSector := none,
                        toSector := none, alarmClass := none, proposalId := none, value := some 0 }],
          overrun := false } ∧
      t.previewSlot (.op o) = (match s.previewSlot (.op o) with
        | none => none
        | some e => if e.running then some { e with cancelled := true } else none) ∧
      ((s.oper o).share ≠ 0 → ∀ z : ZoneNo, AwaitsAllocation t z)

/-- SET SECTOR ENABLE and SET SECTOR POWER on an ACTIVE operator's port. The enabled field is stored; a sector that is
disabled closes the operator's proposal from or to it and leaves the grants of its lanes 0 where they kept Law 2; each zone
with a lane that starts or stops carrying is queued. A request above 8000 is stored as 8000 and answered CLAMPED; a new one
queues each zone with a carrying lane bound to the sector and clips each such lane's grant to it where the grants kept Law 2.
Every other grant stays, and the value already held does nothing (R11, R12). -/
def Obligations.SectorTableStored : Prop :=
  ∀ (s : State) (o : OpNo) (sec : SectorNo), FrameIn s (.op o) → Tenant s o →
    (∀ on : Bool,
      ((s.sector o sec).enabled = on →
        exec (.setSectorEnable (.op o) (u8 sec.val ++ flagByte on)) s = .next (answer s (.op o) (replyOf .ok))) ∧
      ((s.sector o sec).enabled ≠ on →
        ∃ t : State, exec (.setSectorEnable (.op o) (u8 sec.val ++ flagByte on)) s = .next t ∧
          Answers s t (.op o) (replyOf .ok) ∧
          t = ({ s.setSector o sec { s.sector o sec with enabled := on } with
            spread := if on then s.spread
              else closedWhere s fun q p => decide (q = o) && (decide (p.fromSector = sec) || decide (p.toSector = sec)) } :
            State).leaving t ∧
          ∀ z : ZoneNo, (carrying s z o ≠ carrying t z o → AwaitsAllocation t z) ∧
            (s.active z o = some sec → on = false → carrying t z o = false ∧ (RequestLaw s → t.grant z o = 0)) ∧
            (s.active z o ≠ some sec → t.grant z o = s.grant z o) ∧ (on = true → ∀ q : OpNo, t.grant z q = s.grant z q) ∧ ∀ q : OpNo, q ≠ o → t.grant z q = s.grant z q)) ∧
    ∀ n : Nat, n ≤ 65535 →
      let r := if 8000 < n then 8000 else n
      ∃ t : State, exec (.setSectorPower (.op o) (u8 sec.val ++ u16 n)) s = .next t ∧
        Answers s t (.op o) (replyOf (if 8000 < n then .clamped else .ok)) ∧
        t = (s.setSector o sec { s.sector o sec with request := r }).leaving t ∧
        (r = (s.sector o sec).request → t = { s with ports := t.ports }) ∧
        ∀ z : ZoneNo,
          (s.active z o = some sec → carrying s z o = true → r ≠ (s.sector o sec).request →
            AwaitsAllocation t z ∧ (RequestLaw s → t.grant z o = min (s.grant z o) r)) ∧
          (s.active z o ≠ some sec ∨ carrying s z o = false → t.grant z o = s.grant z o) ∧
          ∀ q : OpNo, q ≠ o → t.grant z q = s.grant z q

/-- Where a payload begins with a zone number above 63 that is not ALL, an operator number above 3, a sector or spoke number
above 7 or a class number above 5, each request that takes such a number first is refused OUT_OF_RANGE, whatever follows in
a payload of its length, and nothing changes. -/
def Obligations.NumbersAboveTheirRangeRefused : Prop :=
  ∀ (s : State) (p : Port) (payload : List Byte) (b : Byte) (r : Req) (lens : List Nat), FrameIn s p →
    (∀ o, p = .op o → Tenant s o) → formLengths r p = some lens → payload.length + 1 ∈ lens →
    (r ∈ [Req.provisionZone, .retireZone, .setBudget, .setNeighbours, .pinZone, .moveZone, .readZone, .readLink,
        .readProtection, .readPower, .preview] ∧ 63 < b.toNat ∨
      r ∈ [Req.resetLossCount, .faultClear] ∧ 63 < b.toNat ∧ b ≠ 0xFF ∨
      r ∈ [Req.admitOperator, .suspendOperator, .releaseOperator, .setShare] ∧ 3 < b.toNat ∨
      r ∈ [Req.readOperator, .readLoadCells, .readSectorLoads, .readSpreadState, .readSettleCounts, .readGrants] ∧ p = .vn ∧
        3 < b.toNat ∨
      r ∈ [Req.setSectorEnable, .setSectorPower, .readShadowCounts, .setPlanWindow] ∧ 7 < b.toNat ∨
      r ∈ [Req.setClassMode, .setDerateLevel] ∧ 5 < b.toNat) →
    exec (r.toInstr p (b :: payload)) s = .next (answer s p (replyOf .outOfRange))

/-! ## The transport (chapter 2) -/

/-- START in STOPPED sets both counts to 0, awaits the first cycle start and takes the IDLE link of every provisioned zone
to SEARCH; elsewhere it is BAD_STATE. STOP drains a RUNNING transport and does nothing else. FREEZE in STOPPED does nothing.
MARK_PULSE_END leaves MARK idle (R24, R25, R26, R40, R51). -/
def Obligations.TransportStartedAndStopped : Prop :=
  ∀ s : State, exec .markPulseEnd s = .next { s with mark := false } ∧
    (FrameIn s .vn →
      (s.transport ≠ .stopped → exec (.start .vn []) s = .next (answer s .vn (replyOf .badState))) ∧
      (s.transport = .stopped → exec (.start .vn []) s = .next (answer
        { s with
          transport := .running, cycle := 0, superframe := 0, firstPending := true
          links := Vector.ofFn fun z =>
            if (s.zone z).provisioned = true ∧ (s.link z).state = .idle then
              { state := .search, goodRun := 0, history := [], missed := 0, dwell := 0, loss := (s.link z).loss }
            else s.link z } .vn (replyOf .ok))) ∧
      exec (.stop .vn []) s = .next (answer
        { s with transport := if s.transport = .running then .draining else s.transport } .vn (replyOf .ok)) ∧
      (s.transport = .stopped → exec (.freeze .vn []) s = .next (answer s .vn (replyOf .ok))))

/-- ABORT COMMIT clears commit-pending, reports whether it was set, and leaves both plans, the last commit stamp and all
else as they are. COMMIT PLAN sets commit-pending while the transport runs. In STOPPED the commit is taken at once: the working plan is
active, shadow counters and marks are clear, the stamp is recorded, each zone with a lane whose slotted status changed is
queued, and no grant changes (R36, R37, R38). -/
def Obligations.PlanCommittedOrWithdrawn : Prop :=
  ∀ s : State, FrameIn s .vn →
    exec (.abortCommit .vn []) s =
      .next (answer { s with commitPending := false } .vn
        { result := .ok, payload := [if s.commitPending then 1 else 0], removed := false }) ∧
    (s.transport ≠ .stopped →
      exec (.commitPlan .vn []) s = .next (answer { s with commitPending := true } .vn (replyOf .ok))) ∧
    (s.transport = .stopped → ∃ t : State, exec (.commitPlan .vn []) s = .next t ∧ Answers s t .vn (replyOf .ok) ∧
      t = ({ s with
        activePlan := s.workPlan, shadows := t.shadows, commitPending := false
        lastCommit := some { superframe := s.superframe, cycle := s.cycle } } : State).leaving t ∧
      (∀ (spoke : SpokeNo) (n : EntryNo), t.shadow spoke n = { count := 0, reported := false }) ∧
      t.grants = s.grants ∧ ∀ z : ZoneNo, (∃ o : OpNo, slotted s z o ≠ slotted t z o) → AwaitsAllocation t z)

/-- FREEZE in RUNNING or DRAINING, and DRAIN_END at the boundary that ends the draining, take the transport into STOPPED.
That a zone which was live without a carrying lane is queued too is the model's choice (log entry 3). -/
def Obligations.TransportEntersStopped : Prop :=
  ∀ s : State,
    (FrameIn s .vn → s.transport ≠ .stopped →
      ∃ t : State, exec (.freeze .vn []) s = .next t ∧ Answers s t .vn (replyOf .ok) ∧ EnteredStopped s t) ∧
    (s.transport = .draining → s.firstPending = true ∨ 63 ≤ s.cycle →
      ∃ t : State, exec .drainEnd s = .next t ∧ t.ports = s.ports ∧ EnteredStopped s t)

/-- A cycle start advances the counts unless it is the first after START, wraps the cycle count at 63 and the superframe
count at 65535, and sends a marker with the new counts, in whatever order the blocks react. A commit that waits is taken at
a superframe start: the working plan is active, commit-pending is clear, the new counts are the last commit stamp, and each
zone with a lane whose slotted status changed is queued; otherwise plan and stamp stay. A latch or a commit that waits for it
pulses MARK; in a cycle other than 0, with no latch waiting, MARK stays as it is (R24, R27, R30, R36, R40). -/
def Obligations.CycleStartAdvancesCounts : Prop :=
  ∀ (s : State) (order : List Reaction), s.transport ≠ .stopped →
    (s.transport = .running ∨ s.firstPending = false ∧ s.cycle < 63) →
    ∃ (t : State) (d : Downlink), exec (.cycleStart order) s = .next t ∧ t.downlink = some d ∧
      d.marker = { superframe := t.superframe, cycle := t.cycle } ∧ t.firstPending = false ∧ t.transport = s.transport ∧
      (t.superframe, t.cycle) =
        (if s.firstPending then (s.superframe, s.cycle)
        else if s.cycle < 63 then (s.superframe, s.cycle + 1)
        else if s.superframe < 65535 then (s.superframe + 1, 0) else (0, 0)) ∧
      (s.latchPending = true ∨ s.commitPending = true ∧ t.cycle = 0 → t.mark = true) ∧
      (s.latchPending = false → t.cycle ≠ 0 → t.mark = s.mark) ∧
      (s.commitPending = true → t.cycle = 0 → t.activePlan = s.workPlan ∧ t.commitPending = false ∧
        t.lastCommit = some { superframe := t.superframe, cycle := 0 } ∧
        ∀ z : ZoneNo, (∃ o : OpNo, slotted s z o ≠ slotted t z o) → AwaitsAllocation t z) ∧
      (s.commitPending = false ∨ t.cycle ≠ 0 →
        t.activePlan = s.activePlan ∧ t.commitPending = s.commitPending ∧ t.lastCommit = s.lastCommit) ∧ t.ports = s.ports ∧ t.ops = s.ops ∧ t.workPlan = s.workPlan ∧
      t.stale = s.stale ∧ t.cells = s.cells

/-- Slot filling at every cycle start, from the active plan, which is the new one at a superframe start that takes a commit: of
the enabled entries that name a slot and match the cycle, the lowest-numbered takes it, whether its lane carries or not, and
each other is shadowed, which its counter counts up to 255 and its mark records; a commit clears counters and marks before
that. A carrying winner sends its active sector's stream with its grant, another a null block with grant 0. In a cycle other
than 0 what it sends is that of the map after a latch that comes first, and otherwise of the map before; at a superframe start
its binding and grant lie between those before and after the start. With no latch, in a cycle other than 0, nothing changes
but the counts, the shadows, the dwells and VN's queue (R17, R33 to R36). -/
def Obligations.SlotsFilledFromActivePlan : Prop :=
  ∀ (s : State) (order : List Reaction), s.transport ≠ .stopped →
    (s.transport = .running ∨ s.firstPending = false ∧ s.cycle < 63) →
    ∃ (t : State) (d : Downlink), exec (.cycleStart order) s = .next t ∧ t.downlink = some d ∧
      let committed := s.commitPending = true ∧ t.cycle = 0
      let takes (spoke : SpokeNo) (slot : SlotNo) (n : EntryNo) : Prop :=
        (t.activeEntry spoke n).enabled = true ∧ (t.activeEntry spoke n).slot = slot ∧
          t.cycle % 2 ^ (t.activeEntry spoke n).periodCode.val = (t.activeEntry spoke n).phase.val
      let u := if (effectiveOrder order).idxOf .latch < (effectiveOrder order).idxOf .fill then t else s
      t.activePlan = (if committed then s.workPlan else s.activePlan) ∧
      (∀ (spoke : SpokeNo) (slot : SlotNo),
        ((∀ n, ¬ takes spoke slot n) → (d.slots[spoke])[slot] = none) ∧
        ∀ n, takes spoke slot n → (∀ m, m < n → ¬ takes spoke slot m) →
          let o := (t.activeEntry spoke n).operator
          let z := zoneAt spoke (t.activeEntry spoke n).position
          ∃ w : SlotSend, (d.slots[spoke])[slot] = some w ∧ w.position = (t.activeEntry spoke n).position ∧ w.operator = o ∧
            (t.cycle ≠ 0 → w.stream = (if carrying u z o then u.active z o else none) ∧
              w.grant = if carrying u z o then u.grant z o else 0) ∧
            (t.cycle = 0 → (w.stream = none → w.grant = 0) ∧
              (w.stream ≠ none → (w.stream = s.active z o ∨ w.stream = t.active z o) ∧
                t.grant z o ≤ w.grant ∧ w.grant ≤ s.grant z o) ∧
              (carrying s z o = true → carrying t z o = true → s.active z o = t.active z o → w.stream = s.active z o))) ∧
      (∀ (spoke : SpokeNo) (n : EntryNo),
        let shadowed := takes spoke (t.activeEntry spoke n).slot n ∧ ∃ m, m < n ∧ takes spoke (t.activeEntry spoke n).slot m
        let before : Shadow := if committed then { count := 0, reported := false } else s.shadow spoke n
        (shadowed → t.shadow spoke n = { count := min (before.count + 1) 255, reported := true }) ∧
        (¬ shadowed → t.shadow spoke n = before)) ∧
      (t.cycle ≠ 0 → s.latchPending = false →
        t = { s with
          cycle := t.cycle, firstPending := false, downlink := some d, shadows := t.shadows, links := t.links
          notices := t.notices } ∧
        (∀ z : ZoneNo, (s.link z).state ≠ .lost → t.link z = s.link z) ∧
        ∀ o : OpNo, t.noticeQueue (.op o) = s.noticeQueue (.op o))

/-- At every cycle start, in whatever order the blocks react, the dwell of each LOST link counts and its 64th count takes the
link to SEARCH. At a superframe start each retry timer counts and its last count takes the record to IDLE; an open proposal
counts, and its last count closes it; the evaluation counter of an ACTIVE operator that is not FIXED counts and returns to 0
at its period. A settle counter is one less where its lane's bindings are equal or its operator ABSENT, no proposal on it
expires and no AUTO evaluation of its operator falls due; it is the settle time where a proposal on it expires under DROP;
elsewhere it may be loaded with the settle time, before or after the decrement. Other cycle starts count the dwells alone
(R56, R71, R104 to R106, R112). -/
def Obligations.CycleStartCountsDown : Prop :=
  ∀ (s : State) (order : List Reaction), s.transport ≠ .stopped →
    (s.transport = .running ∨ s.firstPending = false ∧ s.cycle < 63) →
    let expires (z : ZoneNo) (o : OpNo) : Prop :=
      ∃ p : Proposal, (s.spreadRec o).proposal = some p ∧ p.zone = z ∧ p.remaining ≤ 1
    let mayMove (o : OpNo) : Prop := Tenant s o ∧ (s.oper o).policy = .auto ∧ (s.oper o).period ≤ (s.spreadRec o).evalCount + 1
    ∃ t : State, exec (.cycleStart order) s = .next t ∧
      (∀ z : ZoneNo, t.link z =
        if (s.link z).state = .lost then
          if (s.link z).dwell < 63 then { s.link z with dwell := (s.link z).dwell + 1 }
          else { state := .search, goodRun := 0, history := [], missed := 0, dwell := 0, loss := (s.link z).loss }
        else s.link z) ∧
      (t.cycle ≠ 0 → t.prot = s.prot ∧ t.spread = s.spread ∧ (s.latchPending = false → t.settle = s.settle)) ∧
      (t.cycle = 0 →
        (∀ (z : ZoneNo) (c : ClassNo), t.protRec z c =
          match (s.protRec z c).state with
          | .recovering left =>
            { s.protRec z c with state := if 1 < left then .recovering (left - 1) else .idle }
          | _ => s.protRec z c) ∧
        (∀ o : OpNo,
          (t.spreadRec o).evalCount =
            (if (s.oper o).tenancy = .active ∧ (s.oper o).policy ≠ .fixed then
              if (s.spreadRec o).evalCount + 1 < (s.oper o).period then (s.spreadRec o).evalCount + 1 else 0
            else (s.spreadRec o).evalCount) ∧
          ∀ p : Proposal, (s.spreadRec o).proposal = some p →
            (1 < p.remaining → (t.spreadRec o).proposal = some { p with remaining := p.remaining - 1 } ∧
              (t.spreadRec o).lastClosed = (s.spreadRec o).lastClosed) ∧
            (p.remaining ≤ 1 → (t.spreadRec o).lastClosed = some p.id)) ∧
        ∀ (z : ZoneNo) (o : OpNo),
          (s.working z o = s.active z o ∨ (s.oper o).tenancy = .absent → ¬ expires z o → ¬ mayMove o →
            t.settleCount z o = s.settleCount z o - 1) ∧
          (expires z o → (s.oper o).silence = .drop → t.settleCount z o = s.settleTime) ∧
          (t.settleCount z o = s.settleCount z o - 1 ∨ t.settleCount z o = s.settleTime ∨
            t.settleCount z o = s.settleTime - 1))

/-- A cycle start with the latch-pending flag set takes the map latch with MARK, in whatever order the blocks react. Where it is
no superframe start, links, shadow counters and the downlink change by their own rules and nothing else changes. At a
superframe start a latch that comes before the Spread Engine's reaction copies the map as it stood and leaves the settle
counter of a changed lane one below the settle time, unless a proposal on it expires under DROP; a latch that comes after it
copies the moves of that reaction too, and leaves the flag clear and the counters at the settle time. Each zone with a changed
lane is queued, and where the reaction moves nothing the flag is clear and the working map stays (R15, R17). -/
def Obligations.LatchTakenAtCycleStart : Prop :=
  ∀ (s : State) (order : List Reaction), s.transport ≠ .stopped →
    (s.transport = .running ∨ s.firstPending = false ∧ s.cycle < 63) → s.latchPending = true →
    let first := (effectiveOrder order).idxOf .latch < (effectiveOrder order).idxOf .spread
    let drops (z : ZoneNo) (o : OpNo) : Prop := (s.oper o).silence = .drop ∧
      ∃ p : Proposal, (s.spreadRec o).proposal = some p ∧ p.zone = z ∧ p.remaining ≤ 1
    let moves (o : OpNo) : Prop :=
      (Tenant s o ∧ (s.oper o).policy = .auto ∧ (s.oper o).period ≤ (s.spreadRec o).evalCount + 1) ∨
        (s.oper o).silence = .apply ∧ ∃ p : Proposal, (s.spreadRec o).proposal = some p ∧ p.remaining ≤ 1
    ∃ t : State, exec (.cycleStart order) s = .next t ∧ t.mark = true ∧ t.ports = s.ports ∧
      (∀ z : ZoneNo, (s.link z).state ≠ .lost → t.link z = s.link z) ∧
      (∀ z : ZoneNo, t.zone z = { s.zone z with working := (t.zone z).working, active := (t.zone z).active }) ∧
      (t.cycle ≠ 0 → LatchTaken s t ∧ t = ({ s with
        zones := t.zones, latchPending := false, settle := t.settle, mark := true, cycle := t.cycle, firstPending := false
        downlink := t.downlink, shadows := t.shadows, links := t.links } : State).leaving t) ∧
      (t.cycle = 0 →
        (first → ∀ (z : ZoneNo) (o : OpNo), t.active z o = s.working z o ∧
          (s.working z o ≠ s.active z o → (s.oper o).tenancy ≠ .absent → ¬ drops z o →
            t.settleCount z o = s.settleTime - 1)) ∧
        (¬ first → t.latchPending = false ∧ ∀ (z : ZoneNo) (o : OpNo), t.active z o = t.working z o ∧
          (t.active z o ≠ s.active z o → (s.oper o).tenancy ≠ .absent → t.settleCount z o = s.settleTime)) ∧
        (∀ z : ZoneNo, (∃ o : OpNo, t.active z o ≠ s.active z o) → AwaitsAllocation t z) ∧
        ((∀ o, ¬ moves o) → t.latchPending = false ∧ ∀ (z : ZoneNo) (o : OpNo), t.working z o = s.working z o))

/-- STREAM_UP and STREAM_DOWN that differ from the stored presence store it, file STREAM_CHANGED to VN and to the operator
unless it is ABSENT, queue every zone bound to the stream, and on DOWN close the operator's proposal to that sector, with its
PROPOSAL_WITHDRAWN next on both ports, and leave the grants of the lanes bound to it 0 where they kept Law 2, with the
GRANT_FULL of each short one in zone order to the operator last; a report that matches changes nothing (R41). -/
def Obligations.StreamPresenceFollowsFramer : Prop :=
  ∀ (s : State) (o : OpNo) (sec : SectorNo) (up : Bool),
    let i : Instr := if up then .streamUp o sec else .streamDown o sec
    let told (q : NoticeQueue) : NoticeQueue :=
      let changed := appendNotice q
        { kind := .streamChanged, stamp := s.stamp, zone := none, operator := some o, fromSector := none,
          toSector := some sec, alarmClass := none, proposalId := none, value := some (if up then 1 else 0) }
      match (s.spreadRec o).proposal with
      | none => changed
      | some p => if up = false ∧ p.toSector = sec then appendNotice changed
            { kind := .proposalWithdrawn, stamp := s.stamp, zone := some p.zone, operator := some o,
              fromSector := some p.fromSector, toSector := some sec, alarmClass := none, proposalId := some p.id,
              value := some 7 }
          else changed
    ((s.sector o sec).streamUp = up → exec i s = .next s) ∧
    ((s.sector o sec).streamUp ≠ up → ∃ t : State, exec i s = .next t ∧
      t = ({ s.setSector o sec { s.sector o sec with streamUp := up } with
        spread := if up then s.spread else closedWhere s fun q p => decide (q = o) && decide (p.toSector = sec) } :
        State).leaving t ∧
      t.ports = s.ports ∧
      t.noticeQueue .vn = told (s.noticeQueue .vn) ∧ (∀ q : OpNo, q ≠ o → t.noticeQueue (.op q) = s.noticeQueue (.op q)) ∧
      ((s.oper o).tenancy ≠ .absent → t.noticeQueue (.op o) =
        (if up then [] else fullNotices s o fun z => decide (s.active z o = some sec)).foldl appendNotice
          (told (s.noticeQueue (.op o)))) ∧
      ((s.oper o).tenancy = .absent → (s.spreadRec o).proposal = none →
        t.noticeQueue (.op o) = s.noticeQueue (.op o)) ∧
      ∀ z : ZoneNo, (s.active z o = some sec → AwaitsAllocation t z) ∧
        (s.active z o = some sec → up = false → RequestLaw s → t.grant z o = 0) ∧
        (up = true ∨ s.active z o ≠ some sec → t.grant z o = s.grant z o) ∧
        ∀ q : OpNo, q ≠ o → t.grant z q = s.grant z q)

/-- An event that cannot occur in a state leaves the state as it is: a request on a port that holds no whole frame, a
cycle start or a word in STOPPED, a word of an unprovisioned zone or of a link that is IDLE or LOST, an end of draining away from its boundary, a completion
with nothing of its kind in flight, and an expiry or an evaluation that the next count does not make due. For all but the
words that are discarded (R43, R51, R55) that is the model's choice (log entry 2). -/
def Obligations.EventsOutOfPlaceChangeNothing : Prop :=
  ∀ s : State,
    (∀ (r : Req) (p : Port) (payload : List Byte), ¬ FrameIn s p → exec (r.toInstr p payload) s = .next s) ∧
    (s.transport = .stopped → exec .drainEnd s = .next s ∧ (∀ order, exec (.cycleStart order) s = .next s) ∧
      (∀ z, exec (.lostDwellExpiry z) s = .next s) ∧ (∀ z c, exec (.retryExpiry z c) s = .next s) ∧
      ∀ o, exec (.proposalExpiry o) s = .next s ∧ exec (.evaluation o) s = .next s) ∧
    (∀ spoke pos word, s.transport = .stopped ∨ (s.zone (zoneAt spoke pos)).provisioned = false ∨
        (s.link (zoneAt spoke pos)).state = .idle ∨ (s.link (zoneAt spoke pos)).state = .lost →
      exec (.uplinkStatusWord spoke pos word) s = .next s) ∧
    (s.firstPending = false → s.cycle < 63 → exec .drainEnd s = .next s) ∧
    (s.flight = none → exec .reallocationCompletion s = .next s ∧ exec .previewCompletion s = .next s) ∧
    (∀ z, (s.link z).state ≠ .lost ∨ (s.link z).dwell < 63 → exec (.lostDwellExpiry z) s = .next s) ∧
    (∀ z c, (∀ left, (s.protRec z c).state = .recovering left → 1 < left) → exec (.retryExpiry z c) s = .next s) ∧
    ∀ o, ((∀ p, (s.spreadRec o).proposal = some p → 1 < p.remaining) → exec (.proposalExpiry o) s = .next s) ∧
      (¬ Tenant s o ∨ (s.oper o).policy = .fixed ∨ (s.spreadRec o).evalCount + 1 < (s.oper o).period →
        exec (.evaluation o) s = .next s)

/-! ## Links (chapter 3) -/

/-- A word of a provisioned zone in SEARCH: a missed word ends the good run and is counted up to 255, a first good word
starts the run, and a second takes the link UP with an empty history, whereupon the zone is live, ZONE_LIVE is filed, the
zone is queued, no grant changes, and neither the alarm vector nor the activity block of that word is used (R45, R52, R58).
That the zone is queued though no lane of it starts to carry is the model's choice (log entry 3). -/
def Obligations.SearchWordsBringLinkUp : Prop :=
  ∀ (s : State) (spoke : SpokeNo) (pos : PosNo) (word : List Byte),
    let z := zoneAt spoke pos
    let r := s.link z
    s.transport ≠ .stopped → (s.zone z).provisioned = true → r.state = .search →
    (judgeWord pos word = none →
      exec (.uplinkStatusWord spoke pos word) s =
        .next (s.setLink z { r with goodRun := 0, missed := if r.missed < 255 then r.missed + 1 else 255 })) ∧
    (judgeWord pos word ≠ none → r.goodRun = 0 →
      exec (.uplinkStatusWord spoke pos word) s = .next (s.setLink z { r with goodRun := 1, missed := 0 })) ∧
    (judgeWord pos word ≠ none → r.goodRun ≠ 0 →
      ∃ t : State, exec (.uplinkStatusWord spoke pos word) s = .next t ∧
        t = (s.setLink z { r with state := .up, goodRun := 0, missed := 0, history := [] }).leaving t ∧ live t z = true ∧
        t.grants = s.grants ∧ t.short = s.short ∧ t.ports = s.ports ∧ AwaitsAllocation t z ∧
        t.noticeQueue .vn = appendNotice (s.noticeQueue .vn)
          { kind := .zoneLive, stamp := s.stamp, zone := some z, operator := none, fromSector := none, toSector := none,
            alarmClass := none, proposalId := none, value := some r.loss })

/-- A word of a provisioned zone in UP or WEAK is appended to the history of the last 16 and moves the consecutive-missed
count; a missed word that takes the count to the lost limit loses the link, and otherwise a tally of 4 or more takes UP to
WEAK and one of 1 or less takes WEAK to UP. A loss takes the zone dark: raw bits clear with latched bits kept, the proposals
on it closed, the zone queued, its grants 0 where they kept Law 2. No other missed word touches more than the link and VN's
queue (R53, R54, R55, R58, R72). That a lost zone without a carrying lane is queued too is the model's choice (log entry 3). -/
def Obligations.HeardWordsKeepHistory : Prop :=
  ∀ (s : State) (spoke : SpokeNo) (pos : PosNo) (word : List Byte),
    let z := zoneAt spoke pos
    let r := s.link z
    s.transport ≠ .stopped → (s.zone z).provisioned = true → r.state = .up ∨ r.state = .weak →
    let good := (judgeWord pos word).isSome
    let history := (if r.history.length < 16 then r.history else r.history.tail) ++ [good]
    let missed := if good then 0 else if r.missed < 255 then r.missed + 1 else 255
    let tally := (history.filter fun x => !x).length
    ∃ t : State, exec (.uplinkStatusWord spoke pos word) s = .next t ∧ (∀ y, y ≠ z → t.link y = s.link y) ∧
      (good = false ∧ s.lostLimit ≤ missed →
        t = ({ s.setLink z { r with
            state := .lost, history := [], dwell := 0, missed := missed, loss := if r.loss < 255 then r.loss + 1 else 255 } with
          prot := t.prot, spread := closedWhere s (fun _ p => decide (p.zone = z)) } : State).leaving t ∧
        t.ports = s.ports ∧ AwaitsAllocation t z ∧ (RequestLaw s → ∀ o, t.grant z o = 0) ∧
        (∀ y o, y ≠ z → t.grant y o = s.grant y o) ∧ ∀ c, (t.protRec z c).raw = false ∧
          (t.protRec z c).latched = (s.protRec z c).latched ∧ ∀ y, y ≠ z → t.protRec y c = s.protRec y c) ∧
      (¬ (good = false ∧ s.lostLimit ≤ missed) →
        let state := if r.state = .up ∧ 4 ≤ tally then .weak else if r.state = .weak ∧ tally ≤ 1 then .up else r.state
        t.link z = { r with history := history, missed := missed, state := state } ∧
        (good = false → t = { s with links := t.links, notices := t.notices } ∧
          (∀ o, t.noticeQueue (.op o) = s.noticeQueue (.op o)) ∧ (state = r.state → t.notices = s.notices)))

/-! ## Protection (chapter 4) and load cells (chapter 5) -/

/-- A good word of a live zone gives the zone its vector as raw bits, and each edge moves its class's record as the tables of
R69 and R70 say; other zones' records stay, a changed mute or D queues the zone, and a muted zone's cells stay and its grants
are 0 where they kept Law 2 (R45, R68, R75, R86). -/
def Obligations.AlarmVectorTaken : Prop :=
  ∀ (s : State) (spoke : SpokeNo) (pos : PosNo) (word : List Byte) (u : UplinkWord),
    let z := zoneAt spoke pos
    s.transport ≠ .stopped → live s z = true → judgeWord pos word = some u →
    ∃ t : State, exec (.uplinkStatusWord spoke pos word) s = .next t ∧
      t = ({ s with links := t.links, prot := t.prot, cells := t.cells } : State).leaving t ∧ t.ports = s.ports ∧
      (∀ (y : ZoneNo) (c : ClassNo), y ≠ z → t.protRec y c = s.protRec y c) ∧
      (muted s z ≠ muted t z ∨ derate s z ≠ derate t z → AwaitsAllocation t z) ∧
      (muted t z = true → ∀ o, t.cell z o = s.cell z o ∧ (RequestLaw s → t.grant z o = 0)) ∧
      ∀ c : ClassNo,
        let bit := u.alarms[c]
        let r := s.protRec z c
        let r' := t.protRec z c
        r'.raw = bit ∧ (bit = r.raw → r' = r) ∧ (bit = false → r'.latched = r.latched) ∧
        (bit = true → r.raw = false → s.mode c = .ignore ∨ r.state = .held → r' = { r with raw := true }) ∧
        (bit = true → r.raw = false → s.mode c ≠ .ignore → (r.state = .idle ∨ ∃ left, r.state = .recovering left) →
          r'.state = .active ∧ r'.latched = true) ∧
        (bit = false → r.raw = true → r.state = .idle ∨ r.state = .held → r' = { r with raw := false }) ∧
        (bit = false → r.raw = true → r.state = .active →
          (s.mode c = .report → r'.state = .idle) ∧ (s.mode c = .latch → r'.state = .held) ∧
          (s.mode c = .derate ∨ s.mode c = .retrySlow → r'.state = .recovering 64) ∧
          (s.mode c = .retryFast → r'.state = .recovering 4))

/-- SET CLASS MODE with a mode of the table of R64 that is new re-enters every record of the class from its raw bit and
queues each zone whose mute or D changed; the mode already held does nothing, and a mode outside the table, or a code that
names none, is BAD_MODE. SET DERATE LEVEL stores the level of TEMP_WARN or REFLECT and clips in proportion where D fell; a
level of 0 is OUT_OF_RANGE and any other class BAD_MODE (R64 to R67). -/
def Obligations.ClassSettingsTaken : Prop :=
  ∀ (s : State) (c : ClassNo) (b : Byte), FrameIn s .vn →
    let permitted : List (List ClassMode) :=
      [[.derate, .report, .ignore], [.latch, .retrySlow, .retryFast], [.derate, .latch, .retrySlow, .retryFast, .report],
       [.latch, .retrySlow, .retryFast, .report, .ignore], [.latch, .retrySlow, .retryFast, .report], [.report, .ignore]]
    (∀ m : ClassMode, b.toNat = m.code → m ∈ permitted[c.val]! →
      (s.mode c = m → exec (.setClassMode .vn (u8 c.val ++ [b])) s = .next (answer s .vn (replyOf .ok))) ∧
      (s.mode c ≠ m → ∃ t : State, exec (.setClassMode .vn (u8 c.val ++ [b])) s = .next t ∧
        Answers s t .vn (replyOf .ok) ∧
        t = ({ s with modes := s.modes.set c m, prot := t.prot } : State).leaving t ∧
        ∀ z : ZoneNo, (muted s z ≠ muted t z ∨ derate s z ≠ derate t z → AwaitsAllocation t z) ∧
          (∀ d, d ≠ c → t.protRec z d = s.protRec z d) ∧ (t.protRec z c).raw = (s.protRec z c).raw ∧
          ((s.protRec z c).raw = true → m ≠ .ignore → t.protRec z c = { raw := true, state := .active, latched := true }) ∧
          ((s.protRec z c).raw = false ∨ m = .ignore → t.protRec z c = { s.protRec z c with state := .idle }))) ∧
    ((∀ m : ClassMode, b.toNat = m.code → m ∉ permitted[c.val]!) →
      exec (.setClassMode .vn (u8 c.val ++ [b])) s = .next (answer s .vn (replyOf .badMode))) ∧
    (c ≠ 0 → c ≠ 2 → exec (.setDerateLevel .vn (u8 c.val ++ [b])) s = .next (answer s .vn (replyOf .badMode))) ∧
    (c = 0 ∨ c = 2 →
      (b = 0 → exec (.setDerateLevel .vn (u8 c.val ++ [b])) s = .next (answer s .vn (replyOf .outOfRange))) ∧
      (b ≠ 0 → ∃ t : State, exec (.setDerateLevel .vn (u8 c.val ++ [b])) s = .next t ∧ Answers s t .vn (replyOf .ok) ∧
        t = (if c = 0 then { s with tempLevel := b.toNat } else { s with reflectLevel := b.toNat } : State).leaving t ∧
        ∀ z : ZoneNo, (derate s z ≠ derate t z → AwaitsAllocation t z) ∧ ∀ o : OpNo, t.grant z o =
          if effBudget t z < effBudget s z then s.grant z o * effBudget t z / effBudget s z else s.grant z o))

/-- FAULT CLEAR of one zone or of all: a record whose raw bit is clear loses its latched bit, and leaves HELD for IDLE; a
record whose raw bit is set stays; the reply counts the latched bits that stand, OK where there is none and STILL_ACTIVE
otherwise; each zone whose mute or D changed is queued, and records outside the request stay (R77). That the count takes two
bytes for one zone as for all is the model's choice (log entry 8). -/
def Obligations.FaultClearReleases : Prop :=
  ∀ (s : State) (b : Byte) (zones : List ZoneNo), FrameIn s .vn →
    (b = 0xFF ∧ zones = List.finRange 64) ∨ (∃ z : ZoneNo, b.toNat = z.val ∧ zones = [z]) →
    let left := (zones.flatMap fun z => (List.finRange 6).filter fun c => (s.protRec z c).raw && (s.protRec z c).latched).length
    ∃ t : State, exec (.faultClear .vn [b]) s = .next t ∧
      Answers s t .vn { result := if left = 0 then .ok else .stillActive, payload := u16 left, removed := false } ∧
      t = ({ s with prot := t.prot } : State).leaving t ∧
      ∀ z : ZoneNo, (muted s z ≠ muted t z ∨ derate s z ≠ derate t z → AwaitsAllocation t z) ∧
        ∀ c : ClassNo, t.protRec z c =
          if z ∈ zones ∧ (s.protRec z c).raw = false then
            { raw := false, latched := false
              state := if (s.protRec z c).state = .held then .idle else (s.protRec z c).state }
          else s.protRec z c

/-- The three expiries in their own event: the 64th count of a LOST dwell takes the link to SEARCH; the last count of a retry
timer takes the record to IDLE, with ALARM_CLEARED, and queues the zone where its mute or D changed; the last count of a
proposal closes it and, by the silence rule, writes its move or loads the settle time. That these events hold the last count
themselves is the model's choice (log entry 2). -/
def Obligations.CountsExpire : Prop :=
  ∀ s : State, s.transport ≠ .stopped →
    (∀ z : ZoneNo, (s.link z).state = .lost → 63 ≤ (s.link z).dwell →
      exec (.lostDwellExpiry z) s = .next (s.setLink z
        { state := .search, goodRun := 0, history := [], missed := 0, dwell := 0, loss := (s.link z).loss })) ∧
    (∀ (z : ZoneNo) (c : ClassNo) (left : Nat), (s.protRec z c).state = .recovering left → left ≤ 1 →
      ∃ t : State, exec (.retryExpiry z c) s = .next t ∧
        t = (s.setProt z c { s.protRec z c with state := .idle }).leaving t ∧ t.ports = s.ports ∧
        (muted s z ≠ muted t z ∨ derate s z ≠ derate t z → AwaitsAllocation t z) ∧ t.grants = s.grants ∧
        ∃ n : Notice, n.kind = .alarmCleared ∧ n.zone = some z ∧ n.alarmClass = some c ∧ n.value = some 2 ∧
          n ∈ (t.noticeQueue .vn).records) ∧
    ∀ (o : OpNo) (p : Proposal), (s.spreadRec o).proposal = some p → p.remaining ≤ 1 →
      let value := if (s.oper o).silence = .apply then 1 else 2
      exec (.proposalExpiry o) s = .next (file
        { s with
          spread := s.spread.set o { s.spreadRec o with proposal := none, lastClosed := some p.id }
          latchPending := s.latchPending || decide ((s.oper o).silence = .apply)
          zones := if (s.oper o).silence = .apply then
              s.zones.set p.zone { s.zone p.zone with working := (s.zone p.zone).working.set o (some p.toSector) }
            else s.zones
          settle := if (s.oper o).silence = .apply then s.settle else laneSet s.settle p.zone o s.settleTime }
        [.op o, .vn]
        { kind := .proposalExpired, stamp := s.stamp, zone := some p.zone, operator := some o,
          fromSector := some p.fromSector, toSector := some p.toSector, alarmClass := none, proposalId := some p.id,
          value := some value })

/-- The filter of R87, of weight K from a cell Y and a sample X: the step is K d / 4096 truncated toward zero, or one unit
toward 64 X where that is 0 and d is not; the cell stays within 0..65472 and between its old value and 64 X, and under a
constant sample it reaches 64 X after some number of updates and stays there. -/
def Obligations.CellMovesTowardSample : Prop :=
  ∀ k y x : Nat, 1 ≤ k → k ≤ 4096 → y ≤ 65472 → x ≤ 1023 →
    let d : Int := 64 * (x : Int) - y
    let q : Int := ((k : Int) * d).tdiv 4096
    let step : Int := if d = 0 then 0 else if q = 0 then (if 0 < d then 1 else -1) else q
    let y' := filterCell k y x
    (y' : Int) = y + step ∧ y' ≤ 65472 ∧ min y (64 * x) ≤ y' ∧ y' ≤ max y (64 * x) ∧ (y ≠ 64 * x → y' ≠ y) ∧
    ∃ n : Nat, ∀ m : Nat, n ≤ m → Nat.repeat (fun v => filterCell k v x) m y = 64 * x

/-- The activity block of a good word of a live zone, taken in cycle 0, updates the cell of each lane that carries once the
word's alarms are taken, by its operator's weight, and holds the others; a word of any other cycle, a word without a block,
a missed word and a word of a dark zone change no cell (R46, R85, R86). -/
def Obligations.ActivityBlockUpdatesCarryingLanes : Prop :=
  ∀ (s : State) (spoke : SpokeNo) (pos : PosNo) (word : List Byte),
    let z := zoneAt spoke pos
    ∃ t : State, exec (.uplinkStatusWord spoke pos word) s = .next t ∧
      (∀ (y : ZoneNo) (o : OpNo), y ≠ z → t.cell y o = s.cell y o) ∧
      (s.transport = .stopped ∨ live s z = false ∨ s.cycle ≠ 0 ∨ (∀ u x, judgeWord pos word = some u → u.activity ≠ some x) →
        t.cells = s.cells) ∧
      ∀ (u : UplinkWord) (x : Vector Nat 4), s.transport ≠ .stopped → live s z = true → s.cycle = 0 →
        judgeWord pos word = some u → u.activity = some x →
        ∀ o : OpNo, t.cell z o = if carrying t z o then filterCell (s.oper o).weight (s.cell z o) x[o] else s.cell z o

/-! ## Parameters, proposals and evaluations (chapters 3, 5 and 6) -/

/-- The requests that store a parameter. SET LOST LIMIT holds its value within 2..32, and SET FILTER WEIGHT, SET EVALUATION
PERIOD and SET PROPOSAL WINDOW within 1..4096, CLAMPED where that changed it; RESET LOSS COUNT sets one zone's count, or
all, to 0; SET SILENCE RULE, SET SPREAD TIMES and SET THRESHOLDS store what they carry, but for a code that names no rule
(BAD_MODE), a threshold above 4,190,208 (OUT_OF_RANGE) and an L not below H (THRESHOLD_ORDER). Nothing else changes (R50,
R61, R88, R99 to R103). -/
def Obligations.ParametersStored : Prop :=
  ∀ s : State,
    (FrameIn s .vn →
      (∀ b : Byte,
        let n := if b.toNat < 2 then 2 else if 32 < b.toNat then 32 else b.toNat
        exec (.setLostLimit .vn [b]) s =
          .next (answer { s with lostLimit := n } .vn (replyOf (if n = b.toNat then .ok else .clamped)))) ∧
      (∀ a b : Nat, a ≤ 65535 → b ≤ 65535 → exec (.setSpreadTimes .vn (u16 a ++ u16 b)) s =
        .next (answer { s with settleTime := a, holdOff := b } .vn (replyOf .ok))) ∧
      ∀ (b : Byte) (zones : List ZoneNo),
        (b = 0xFF ∧ zones = List.finRange 64) ∨ (∃ z : ZoneNo, b.toNat = z.val ∧ zones = [z]) →
        exec (.resetLossCount .vn [b]) s = .next (answer
          { s with links := Vector.ofFn fun z => if z ∈ zones then { s.link z with loss := 0 } else s.link z } .vn
          (replyOf .ok))) ∧
    ∀ o : OpNo, FrameIn s (.op o) → Tenant s o →
      (∀ n : Nat, n ≤ 65535 →
        let k := if n = 0 then 1 else if 4096 < n then 4096 else n
        let rep := replyOf (if n = k then .ok else .clamped)
        exec (.setFilterWeight (.op o) (u16 n)) s =
          .next (answer (s.setOper o { s.oper o with weight := k }) (.op o) rep) ∧
        exec (.setEvaluationPeriod (.op o) (u16 n)) s =
          .next (answer (s.setOper o { s.oper o with period := k }) (.op o) rep) ∧
        exec (.setProposalWindow (.op o) (u16 n)) s =
          .next (answer (s.setOper o { s.oper o with window := k }) (.op o) rep)) ∧
      (exec (.setSilenceRule (.op o) [0]) s =
          .next (answer (s.setOper o { s.oper o with silence := .apply }) (.op o) (replyOf .ok)) ∧
        exec (.setSilenceRule (.op o) [1]) s =
          .next (answer (s.setOper o { s.oper o with silence := .drop }) (.op o) (replyOf .ok)) ∧
        ∀ b : Byte, 1 < b.toNat →
          exec (.setSilenceRule (.op o) [b]) s = .next (answer s (.op o) (replyOf .badMode))) ∧
      ∀ h l : Nat, h < 2 ^ 32 → l < 2 ^ 32 →
        exec (.setThresholds (.op o) (u32 h ++ u32 l)) s =
          if 4190208 < h ∨ 4190208 < l then .next (answer s (.op o) (replyOf .outOfRange))
          else if h ≤ l then .next (answer s (.op o) (replyOf .thresholdOrder))
          else .next (answer (s.setOper o { s.oper o with high := h, low := l }) (.op o) (replyOf .ok))

/-- SET POLICY, ACCEPT and DECLINE on an ACTIVE operator's port, while the transport runs for ACCEPT: a new policy closes
the open proposal and returns the counter and the outcome to 0 and NONE. An answer that names the open proposal closes it
and tells VN: ACCEPT writes its move and leaves the latch pending, DECLINE loads the hold-off. Any other answer changes
nothing and is LATE for the last closed id, UNKNOWN_PROPOSAL otherwise (R98, R113, R114, R115). -/
def Obligations.ProposalsAnswered : Prop :=
  ∀ (s : State) (o : OpNo) (b : Byte), FrameIn s (.op o) → Tenant s o →
    (∀ m : Policy, b.toNat = m.code →
      ((s.oper o).policy = m → exec (.setPolicy (.op o) [b]) s = .next (answer s (.op o) (replyOf .ok))) ∧
      ((s.oper o).policy ≠ m → ∃ t : State, exec (.setPolicy (.op o) [b]) s = .next t ∧
        Answers s t (.op o) (replyOf .ok) ∧
        t = { s.setOper o { s.oper o with policy := m } with
          spread := s.spread.set o { (closedWhere s fun q _ => decide (q = o))[o] with evalCount := 0, outcome := .notRun }
          notices := t.notices
          ports := t.ports })) ∧
    (2 < b.toNat → exec (.setPolicy (.op o) [b]) s = .next (answer s (.op o) (replyOf .badMode))) ∧
    (∀ p : Proposal, (s.spreadRec o).proposal = some p → p.id = b.toNat →
      let told (v : Nat) : Notice :=
        { kind := .proposalAnswered, stamp := s.stamp, zone := some p.zone, operator := some o,
          fromSector := some p.fromSector, toSector := some p.toSector, alarmClass := none, proposalId := some p.id,
          value := some v }
      let closed := s.setSpread o { s.spreadRec o with proposal := none, lastClosed := some p.id }
      (s.transport ≠ .stopped → exec (.accept (.op o) [b]) s = .next (answer (file
        { closed with
          zones := s.zones.set p.zone { s.zone p.zone with working := (s.zone p.zone).working.set o (some p.toSector) }
          latchPending := true } [.vn] (told 1)) (.op o) (replyWith (u8 p.zone.val ++ u8 p.toSector.val)))) ∧
      exec (.decline (.op o) [b]) s = .next (answer (file (closed.setSettle p.zone o s.holdOff) [.vn] (told 2)) (.op o)
        (replyOf .ok))) ∧
    ((∀ p : Proposal, (s.spreadRec o).proposal = some p → p.id ≠ b.toNat) →
      let rep := replyOf (if (s.spreadRec o).lastClosed = some b.toNat then .late else .unknownProposal)
      exec (.accept (.op o) [b]) s = .next (answer s (.op o) rep) ∧
        exec (.decline (.op o) [b]) s = .next (answer s (.op o) rep))

/-- An evaluation that falls due returns the counter to 0 and decides in the order of R107: PROPOSAL_OPEN, LATCH_PENDING for
the operator's own differing bindings, NO_PRESSURE where the loaded sector is at or below H or there is none, NO_CANDIDATE
where no pair meets R108; otherwise there is a pair that R109 chooses, and that one is moved under AUTO and proposed under
CONSULT, with the next id and the stored window. Nothing else changes. That this event holds the last count itself is the
model's choice (log entry 2). -/
def Obligations.EvaluationDecides : Prop :=
  ∀ (s : State) (o : OpNo), s.transport ≠ .stopped → Tenant s o → (s.oper o).policy ≠ .fixed →
    (s.oper o).period ≤ (s.spreadRec o).evalCount + 1 →
    let ends (e : EvalOutcome) : State := s.setSpread o { s.spreadRec o with evalCount := 0, outcome := e }
    let r := s.spreadRec o
    let waits := s.latchPending = true ∧ ∃ z : ZoneNo, s.working z o ≠ s.active z o
    (r.proposal ≠ none → exec (.evaluation o) s = .next (ends .proposalOpen)) ∧
    (r.proposal = none → waits → exec (.evaluation o) s = .next (ends .latchPending)) ∧
    (r.proposal = none → ¬ waits →
      ((∀ h, LoadedSector s o h → sectorLoad s o h ≤ (s.oper o).high) → exec (.evaluation o) s = .next (ends .noPressure)) ∧
      ∀ h, LoadedSector s o h → (s.oper o).high < sectorLoad s o h →
        ((∀ t z, ¬ Candidate s o h t z) → exec (.evaluation o) s = .next (ends .noCandidate)) ∧
        ((∃ t z, Candidate s o h t z) → ∃ t z, Chosen s o h t z) ∧
        ∀ t z, Chosen s o h t z →
          ((s.oper o).policy = .auto → exec (.evaluation o) s = .next
            { ends .moved with
              zones := s.zones.set z { s.zone z with working := (s.zone z).working.set o (some t) }
              latchPending := true }) ∧
          ((s.oper o).policy = .consult → exec (.evaluation o) s = .next (file
            (s.setSpread o
              { evalCount := 0, lastClosed := r.lastClosed, nextId := (r.nextId + 1) % 256, outcome := .proposed
                proposal := some
                  { id := r.nextId, zone := z, fromSector := h, toSector := t, remaining := (s.oper o).window } })
            [.op o, .vn]
            { kind := .proposal, stamp := s.stamp, zone := some z, operator := some o, fromSector := some h,
              toSector := some t, alarmClass := none, proposalId := some r.nextId, value := some (s.oper o).window })))

/-! ## Power sharing and the Allocation Engine (chapters 7 and 8) -/

/-- The allocation of R124: each request in full where they fit in E; otherwise the smaller of request and share grant, plus
the floor of each one's part of the leftover. Under Law 3 no grant is above its request, and below it where the first pass
left one unmet; the grants sum to at most E; a lane that asks nothing receives nothing; and where the requests do not fit,
some request stays unmet after the first pass. -/
def Obligations.AllocationFollowsFormula : Prop :=
  ∀ n : Snapshot,
    let E := n.budget
    let Q := n.requests[0] + n.requests[1] + n.requests[2] + n.requests[3]
    let A (o : OpNo) : Nat := min n.requests[o] (E * n.shares[o] / 1000)
    let L := E - (A 0 + A 1 + A 2 + A 3)
    let R (o : OpNo) : Nat := n.requests[o] - A o
    let sumR := R 0 + R 1 + R 2 + R 3
    let g := allocate n
    (Q ≤ E → ∀ o : OpNo, g[o] = n.requests[o]) ∧
    (E < Q → ∀ o : OpNo, g[o] = A o + L * R o / sumR) ∧
    (n.shares[0] + n.shares[1] + n.shares[2] + n.shares[3] ≤ 1000 →
      (∀ o : OpNo, g[o] ≤ n.requests[o] ∧ (E < Q → 0 < R o → g[o] < n.requests[o]) ∧ (n.requests[o] = 0 → g[o] = 0)) ∧
      g[0] + g[1] + g[2] + g[3] ≤ E ∧ (E < Q → A 0 + A 1 + A 2 + A 3 ≤ E ∧ 0 < sumR ∧ L < sumR))

/-- SET SHARE: a share above 1000 is OUT_OF_RANGE, one that takes the sum of the four above 1000 is SHARE_EXCEEDED, and any
other is stored and answered with the new sum; a new value queues all 64 zones and clips no grant, and the value already
held does nothing (R123, R132). -/
def Obligations.ShareStoredAndZonesQueued : Prop :=
  ∀ (s : State) (o : OpNo) (n : Nat), FrameIn s .vn → n ≤ 65535 →
    let share (q : OpNo) : Nat := if q = o then n else (s.oper q).share
    let total := share 0 + share 1 + share 2 + share 3
    (1000 < n → exec (.setShare .vn (u8 o.val ++ u16 n)) s = .next (answer s .vn (replyOf .outOfRange))) ∧
    (n ≤ 1000 → 1000 < total → exec (.setShare .vn (u8 o.val ++ u16 n)) s = .next (answer s .vn (replyOf .shareExceeded))) ∧
    (total ≤ 1000 → ∃ t : State, exec (.setShare .vn (u8 o.val ++ u16 n)) s = .next t ∧
      Answers s t .vn (replyWith (u16 total)) ∧ t = (s.setOper o { s.oper o with share := n }).leaving t ∧
      t.grants = s.grants ∧ t.short = s.short ∧ t.notices = s.notices ∧
      (n = (s.oper o).share → t = { s with ports := t.ports }) ∧
      (n ≠ (s.oper o).share → ∀ z : ZoneNo, AwaitsAllocation t z))

/-- PREVIEW on VN and on an ACTIVE operator's port: an occupied slot is PREVIEW_BUSY and keeps its contents; an empty one is
filled with the request, at most 8000 and CLAMPED above, and waits while the engine is BUSY; with the engine FREE and no
other work it runs at once, on the zone's inputs with the lane's own request replaced where the lane carries (R142, R147,
R148). -/
def Obligations.PreviewFillsItsSlot : Prop :=
  ∀ (s : State) (p : Port) (z : ZoneNo) (o : OpNo) (n : Nat) (payload : List Byte), FrameIn s p → n ≤ 65535 →
    (p = .op o ∧ Tenant s o ∧ payload = u8 z.val ++ u16 n) ∨ (p = .vn ∧ payload = u8 z.val ++ u8 o.val ++ u16 n) →
    let q := if 8000 < n then 8000 else n
    let rep := replyOf (if 8000 < n then .clamped else .ok)
    let slot (running : Bool) : PreviewSlot := { zone := z, operator := o, request := q, running := running, cancelled := false }
    let E := effBudget s z
    (s.previewSlot p ≠ none → exec (.preview p payload) s = .next (answer s p (replyOf .previewBusy))) ∧
    (s.previewSlot p = none → s.flight ≠ none →
      exec (.preview p payload) s = .next (answer (s.setPreview p (some (slot false))) p rep)) ∧
    (s.flight = none → s.realloc = [] → (∀ x, s.previewSlot x = none) →
      exec (.preview p payload) s = .next (answer
        { s.setPreview p (some (slot true)) with
          consecutive := 0, lastPort := p
          flight := some
            { zone := z
              kind := .preview p o q (if carrying s z o then s.active z o else none)
              snapshot :=
                { budget := E, shares := #v[(s.oper 0).share, (s.oper 1).share, (s.oper 2).share, (s.oper 3).share]
                  requests := vec4 fun x => if x = o ∧ carrying s z o = true then q else effRequest s z x } } } p rep))

/-- The completions and the arbitration that ends them. A reallocation whose zone is queued is discarded and counted;
otherwise its four grants are those of R124 for its snapshot, and each short flag follows them. A preview empties its slot
and tells its port the previewed grant unless it is cancelled. Then the arbiter of R143 takes the head of the queue, except
that a WAITING preview goes first after four reallocations in a row and alone when the queue is empty: the one whose port
comes soonest after the last port served (R143 to R146, R148, R149). -/
def Obligations.CompletionsEndInArbitration : Prop :=
  (∀ (s : State) (z : ZoneNo) (n : Snapshot),
    s.flight = some { kind := .reallocation, zone := z, snapshot := n } →
    ∃ u : State, exec .reallocationCompletion s = .next (arbitrate u) ∧
      u = { s with flight := none, grants := u.grants, short := u.short, notices := u.notices, stale := u.stale } ∧
      (z ∈ s.realloc → u = { s with flight := none, stale := if s.stale < 65535 then s.stale + 1 else 65535 }) ∧
      (z ∉ s.realloc → u.stale = s.stale ∧ u.noticeQueue .vn = s.noticeQueue .vn ∧
        ∀ (y : ZoneNo) (o : OpNo), u.grant y o = (if y = z then (allocate n)[o] else s.grant y o) ∧
          u.isShort y o =
            if y = z ∧ u.grant y o < effRequest s y o then true
            else if y = z ∧ u.grant y o = effRequest s y o then false else s.isShort y o)) ∧
  (∀ (s : State) (p : Port) (o : OpNo) (q : Nat) (sec : Option SectorNo) (z : ZoneNo) (n : Snapshot) (e : PreviewSlot),
    s.flight = some { kind := .preview p o q sec, zone := z, snapshot := n } → s.previewSlot p = some e →
    let freed := { s.setPreview p none with flight := none }
    exec .previewCompletion s = .next (arbitrate (if e.cancelled then freed else file freed [p]
      { kind := .previewResult, stamp := s.stamp, zone := some z, operator := some o, fromSector := none, toSector := sec,
        alarmClass := none, proposalId := none, value := some (allocate n)[o] }))) ∧
  ∀ s : State,
    let waits (p : Port) (e : PreviewSlot) : Prop := s.previewSlot p = some e ∧ e.running = false
    let distance (p : Port) : Nat := ((portNumber p).val + 4 - (portNumber s.lastPort).val) % 5
    (s.realloc = [] → (∀ p e, ¬ waits p e) → arbitrate s = { s with consecutive := 0 }) ∧
    (∀ z rest, s.realloc = z :: rest → (∀ p e, ¬ waits p e) ∨ s.consecutive < 4 →
      arbitrate s = { s with
        realloc := rest, flight := some { kind := .reallocation, zone := z, snapshot := snapshotOf s z }
        consecutive := if s.consecutive < 4 then s.consecutive + 1 else 4 }) ∧
    (s.realloc = [] ∨ 4 ≤ s.consecutive → ∀ p e, waits p e → (∀ x y, waits x y → distance p ≤ distance x) →
      arbitrate s = { s.setPreview p (some { e with running := true }) with
        consecutive := 0, lastPort := p
        flight := some
          { zone := e.zone
            kind := .preview p e.operator e.request
              (if carrying s e.zone e.operator then s.active e.zone e.operator else none)
            snapshot := { snapshotOf s e.zone with
              requests := if carrying s e.zone e.operator then
                  (snapshotOf s e.zone).requests.set e.operator e.request
                else (snapshotOf s e.zone).requests } } })

/-! ## Notices (chapter 9) -/

/-- READ NOTICES on every port in every tenancy state: a count of 1 to 8 removes that many records from the head of the
port's own queue, or all it holds, and returns them oldest first between the overrun flag as it stood and the remaining
count, and clears the flag; any other count is OUT_OF_RANGE. A notice filed to a queue of at most 32 records stands at its
tail, and a full queue loses its head and sets its flag (R157, R158). -/
def Obligations.NoticesReadAndFiled : Prop :=
  (∀ (s : State) (p : Port) (b : Byte), FrameIn s p →
    let q := s.noticeQueue p
    (1 ≤ b.toNat → b.toNat ≤ 8 → ∃ taken left : List Notice, q.records = taken ++ left ∧
      taken.length = min b.toNat q.records.length ∧
      exec (.readNotices p [b]) s = .next (answer (s.setNotices p { records := left, overrun := false }) p
        { result := .ok, removed := !taken.isEmpty
          payload := flagByte q.overrun ++ u8 taken.length ++ taken.flatMap Notice.bytes ++ u8 left.length })) ∧
    (b = 0 ∨ 8 < b.toNat → exec (.readNotices p [b]) s = .next (answer s p (replyOf .outOfRange)))) ∧
  ∀ (s : State) (ports : List Port) (n : Notice), ports.Nodup → NoticeLaw s →
    ∃ t : State, file s ports n = t ∧ t = { s with notices := t.notices } ∧ NoticeLaw t ∧
      (∀ p, p ∉ ports → t.noticeQueue p = s.noticeQueue p) ∧
      ∀ p ∈ ports,
        ((s.noticeQueue p).records.length < 32 →
          t.noticeQueue p = { records := (s.noticeQueue p).records ++ [n], overrun := (s.noticeQueue p).overrun }) ∧
        ((s.noticeQueue p).records.length = 32 →
          t.noticeQueue p = { records := (s.noticeQueue p).records.tail ++ [n], overrun := true })

/-! ## Rules of the whole part -/

/-- Only the completion of a reallocation raises a grant: whatever other command is taken, no lane's grant rises (R126). -/
def Obligations.OnlyAllocationRaisesGrants : Prop :=
  ∀ (i : Instr) (s : State), i ≠ .reallocationCompletion →
    ∃ t : State, exec i s = .next t ∧ ∀ (z : ZoneNo) (o : OpNo), t.grant z o ≤ s.grant z o

/-- No request on an operator's port, whatever its code and its payload, touches another operator's record, spreading state,
bindings, cells, settle counters, grants or notices, or a link, an alarm record, a plan, a budget or the transport's state;
for ACCEPT in STOPPED, where no proposal stands, this is not claimed (R174). -/
def Obligations.OperatorPortReachesItsOwnOperator : Prop :=
  ∀ (r : Req) (o : OpNo) (payload : List Byte) (s : State), r ≠ .accept ∨ s.transport ≠ .stopped →
    ∃ t : State, exec (r.toInstr (.op o) payload) s = .next t ∧
      t = ({ s with
        zones := t.zones, latchPending := t.latchPending, ops := t.ops, spread := t.spread, settle := t.settle } :
        State).leaving t ∧
      (∀ z : ZoneNo, t.zone z = { s.zone z with working := (t.zone z).working }) ∧
      ∀ q : OpNo, q ≠ o →
        (t.oper q = s.oper q ∧ t.spreadRec q = s.spreadRec q ∧ t.noticeQueue (.op q) = s.noticeQueue (.op q)) ∧
        ∀ z : ZoneNo, t.working z q = s.working z q ∧ t.settleCount z q = s.settleCount z q ∧
          t.grant z q = s.grant z q ∧ t.isShort z q = s.isShort z q

/-! ## Invariants that every step keeps -/

/-- Every step keeps the laws of Power Sharing: no zone's grants sum above its effective budget, no grant is above its
effective request, the shares sum to at most 1000, no zone is queued twice, and a reallocation in flight is stale only while
its zone is queued (Laws 1, 2, 3 and 5, with what carries them). -/
def Obligations.StepKeepsPowerLaws : Prop :=
  ∀ s t : State, PowerInv s → step s = .next t → PowerInv t

/-- Every step keeps the protection records as chapter 4 leaves them: a set raw bit of a class that is not ignored is
latched, each state agrees with its raw bit, its timer and its class's mode, each class has a mode that it permits, and the
raw bits of a dark zone are clear. -/
def Obligations.StepKeepsProtectionRecords : Prop :=
  ∀ s t : State, ProtectionInv s → step s = .next t → ProtectionInv t

/-- Every step keeps the zone map, the proposals and STOPPED: an unprovisioned zone has no binding, no pin and an IDLE link,
neighbour lists are legal, the maps differ only while a latch is pending, a proposal stands only for an ACTIVE operator on a
live unpinned zone bound to its from sector, and in STOPPED all links are IDLE and nothing is pending. -/
def Obligations.StepKeepsZoneMapAndStopped : Prop :=
  ∀ s t : State, MapInv s ∧ StoppedInv s → step s = .next t → MapInv t ∧ StoppedInv t

/-- Every step keeps the engine, the notice queues and the ports: a FREE engine leaves no work waiting, a RUNNING slot is the
computation in flight, no queue holds more than 32 notices, a port holds a reply exactly while its frame is judged, and it has placed one to eight
bits of its status byte while its header is clocked in. -/
def Obligations.StepKeepsEngineQueuesAndPorts : Prop :=
  ∀ s t : State, EngineInv s ∧ NoticeLaw s ∧ PortInv s → step s = .next t → EngineInv t ∧ NoticeLaw t ∧ PortInv t

/-- Every step keeps each count and value within its range: stamps, budgets, links, operator records, spreading state, load
cells, settle counters, plan entries, shadow counters, the lost limit and the derate levels. -/
def Obligations.StepKeepsRanges : Prop :=
  ∀ s t : State, RangesInv s → step s = .next t → RangesInv t

/-- The state after RSTn satisfies every invariant above. -/
def Obligations.ResetSatisfiesInvariants : Prop :=
  PowerInv State.reset ∧ ProtectionInv State.reset ∧ (MapInv State.reset ∧ StoppedInv State.reset) ∧
    (EngineInv State.reset ∧ NoticeLaw State.reset ∧ PortInv State.reset) ∧ RangesInv State.reset
end

