-- ==== Sys2Proof/Laws/Frames.lean ====
section
/-! SUPPORT. Frames of the shared operations. Each lemma takes a function `g` of the state that does not look at the
fields its operation writes and says that the operation leaves `g` as it is; so `g` may be any other field, any reading
of other fields, or a record of many of them. -/

namespace Sys2Proof.Machine

open Sys2Proof

variable {β : Type}

/-- A fold leaves what each of its steps leaves. -/
theorem foldl_keeps {α : Type} (g : State → β) (f : State → α → State) (h : ∀ s a, g (f s a) = g s) (l : List α) (s : State) :
    g (l.foldl f s) = g s := by
  induction l generalizing s with
  | nil => rfl
  | cons a l ih => rw [List.foldl_cons, ih, h]

/-! ## Operations shared by the blocks -/

theorem fileOne_keeps (g : State → β)
    (h_notices : ∀ s v, g { s with notices := v } = g s)
    (n : Notice) (s : State) (p : Port) : g (fileOne n s p) = g s := by
  exact h_notices ..

theorem file_keeps (g : State → β)
    (h_notices : ∀ s v, g { s with notices := v } = g s)
    (s : State) (ps : List Port) (n : Notice) : g (file s ps n) = g s := by
  exact foldl_keeps g _ (fun _ _ => fileOne_keeps g h_notices ..) _ _

theorem fileZone_keeps (g : State → β)
    (h_notices : ∀ s v, g { s with notices := v } = g s)
    (s : State) (z : ZoneNo) (k : NoticeKind) (v : Nat) : g (fileZone s z k v) = g s := by
  exact file_keeps g h_notices ..

theorem fileAlarm_keeps (g : State → β)
    (h_notices : ∀ s v, g { s with notices := v } = g s)
    (s : State) (z : ZoneNo) (c : ClassNo) (k : NoticeKind) (v : Nat) : g (fileAlarm s z c k v) = g s := by
  exact file_keeps g h_notices ..

theorem fileTenancy_keeps (g : State → β)
    (h_notices : ∀ s v, g { s with notices := v } = g s)
    (s : State) (o : OpNo) : g (fileTenancy s o) = g s := by
  exact file_keeps g h_notices ..

theorem fileGrant_keeps (g : State → β)
    (h_notices : ∀ s v, g { s with notices := v } = g s)
    (s : State) (z : ZoneNo) (o : OpNo) (k : NoticeKind) : g (fileGrant s z o k) = g s := by
  exact file_keeps g h_notices ..

theorem fileLink_keeps (g : State → β)
    (h_notices : ∀ s v, g { s with notices := v } = g s)
    (s : State) (z : ZoneNo) (k : NoticeKind) : g (fileLink s z k) = g s := by
  exact file_keeps g h_notices ..

theorem fileMove_keeps (g : State → β)
    (h_notices : ∀ s v, g { s with notices := v } = g s)
    (old s : State) (z : ZoneNo) (o : OpNo) : g (fileMove old s z o) = g s := by
  exact file_keeps g h_notices ..

theorem closeProposal_keeps (g : State → β)
    (h_spread : ∀ s v, g { s with spread := v } = g s)
    (s : State) (o : OpNo) (p : Proposal) : g (closeProposal s o p) = g s := by
  exact h_spread ..

theorem withdraw_keeps (g : State → β)
    (h_spread : ∀ s v, g { s with spread := v } = g s) (h_notices : ∀ s v, g { s with notices := v } = g s)
    (s : State) (o : OpNo) (why : WithdrawCause) : g (withdraw s o why) = g s := by
  unfold withdraw
  split
  · rfl
  · rw [file_keeps g h_notices, closeProposal_keeps g h_spread]

theorem withdrawIf_keeps (g : State → β)
    (h_spread : ∀ s v, g { s with spread := v } = g s) (h_notices : ∀ s v, g { s with notices := v } = g s)
    (s : State) (o : OpNo) (test : Proposal → Bool) (why : WithdrawCause) : g (withdrawIf s o test why) = g s := by
  unfold withdrawIf
  split
  · rfl
  · split
    · exact withdraw_keeps g h_spread h_notices ..
    · rfl

theorem withdrawOnZone_keeps (g : State → β)
    (h_spread : ∀ s v, g { s with spread := v } = g s) (h_notices : ∀ s v, g { s with notices := v } = g s)
    (s : State) (z : ZoneNo) (why : WithdrawCause) : g (withdrawOnZone s z why) = g s := by
  exact foldl_keeps g _ (fun _ _ => withdrawIf_keeps g h_spread h_notices ..) _ _

theorem withdrawAll_keeps (g : State → β)
    (h_spread : ∀ s v, g { s with spread := v } = g s) (h_notices : ∀ s v, g { s with notices := v } = g s)
    (s : State) (why : WithdrawCause) : g (withdrawAll s why) = g s := by
  exact foldl_keeps g _ (fun _ _ => withdraw_keeps g h_spread h_notices ..) _ _

theorem setWorking_keeps (g : State → β)
    (h_zones : ∀ s v, g { s with zones := v } = g s)
    (s : State) (z : ZoneNo) (o : OpNo) (b : Option SectorNo) : g (setWorking s z o b) = g s := by
  exact h_zones ..

theorem workingWrite_keeps (g : State → β)
    (h_zones : ∀ s v, g { s with zones := v } = g s) (h_latchPending : ∀ s v, g { s with latchPending := v } = g s)
    (s : State) (z : ZoneNo) (o : OpNo) (b : Option SectorNo) : g (workingWrite s z o b) = g s := by
  exact (h_latchPending ..).trans (setWorking_keeps g h_zones ..)

theorem judgeShort_keeps (g : State → β)
    (h_short : ∀ s v, g { s with short := v } = g s) (h_notices : ∀ s v, g { s with notices := v } = g s)
    (s : State) (z : ZoneNo) (o : OpNo) (q : Nat) : g (judgeShort s z o q) = g s := by
  unfold judgeShort
  split
  · rw [fileGrant_keeps g h_notices]; exact h_short ..
  · split
    · rw [fileGrant_keeps g h_notices]; exact h_short ..
    · rfl

theorem enqueue_keeps (g : State → β)
    (h_realloc : ∀ s v, g { s with realloc := v } = g s)
    (s : State) (z : ZoneNo) : g (enqueue s z) = g s := by
  unfold enqueue
  split
  · rfl
  · exact h_realloc ..

theorem setGrants_keeps (g : State → β)
    (h_grants : ∀ s v, g { s with grants := v } = g s)
    (s : State) (z : ZoneNo) (v : Vector Nat 4) : g (setGrants s z v) = g s := by
  exact h_grants ..

theorem inputChange_keeps (g : State → β)
    (h_grants : ∀ s v, g { s with grants := v } = g s) (h_short : ∀ s v, g { s with short := v } = g s) (h_realloc : ∀ s v, g { s with realloc := v } = g s) (h_notices : ∀ s v, g { s with notices := v } = g s)
    (old s : State) (z : ZoneNo) : g (inputChange old s z) = g s := by
  unfold inputChange clipZone
  rw [enqueue_keeps g h_realloc, foldl_keeps g, setGrants_keeps g h_grants]
  intro t o
  split
  · exact judgeShort_keeps g h_short h_notices ..
  · rfl

theorem inputChanges_keeps (g : State → β)
    (h_grants : ∀ s v, g { s with grants := v } = g s) (h_short : ∀ s v, g { s with short := v } = g s) (h_realloc : ∀ s v, g { s with realloc := v } = g s) (h_notices : ∀ s v, g { s with notices := v } = g s)
    (old s : State) (also : ZoneNo → Bool) : g (inputChanges old s also) = g s := by
  exact foldl_keeps g _ (fun _ _ => inputChange_keeps g h_grants h_short h_realloc h_notices ..) _ _

theorem shareChange_keeps (g : State → β)
    (h_realloc : ∀ s v, g { s with realloc := v } = g s)
    (s : State) : g (shareChange s) = g s := by
  exact foldl_keeps g _ (fun _ _ => enqueue_keeps g h_realloc ..) _ _

theorem startReallocation_keeps (g : State → β)
    (h_realloc : ∀ s v, g { s with realloc := v } = g s) (h_flight : ∀ s v, g { s with flight := v } = g s) (h_consecutive : ∀ s v, g { s with consecutive := v } = g s)
    (s : State) (z : ZoneNo) (rest : List ZoneNo) : g (startReallocation s z rest) = g s := by
  exact (h_consecutive { s with realloc := rest, flight := _ } _).trans ((h_flight { s with realloc := rest } _).trans (h_realloc ..))

theorem startPreview_keeps (g : State → β)
    (h_flight : ∀ s v, g { s with flight := v } = g s) (h_previews : ∀ s v, g { s with previews := v } = g s) (h_consecutive : ∀ s v, g { s with consecutive := v } = g s) (h_lastPort : ∀ s v, g { s with lastPort := v } = g s)
    (s : State) (p : Port) (e : PreviewSlot) : g (startPreview s p e) = g s := by
  unfold startPreview State.setPreview
  generalize some (Computation.mk _ _ _) = c
  generalize s.previews.set _ _ _ = v
  exact (h_consecutive { s with previews := v, flight := c, lastPort := p } 0).trans
    ((h_lastPort { s with previews := v, flight := c } p).trans ((h_flight { s with previews := v } c).trans (h_previews s v)))

theorem arbitrate_keeps (g : State → β)
    (h_realloc : ∀ s v, g { s with realloc := v } = g s) (h_flight : ∀ s v, g { s with flight := v } = g s) (h_previews : ∀ s v, g { s with previews := v } = g s) (h_consecutive : ∀ s v, g { s with consecutive := v } = g s) (h_lastPort : ∀ s v, g { s with lastPort := v } = g s)
    (s : State) : g (arbitrate s) = g s := by
  unfold arbitrate
  split
  · exact h_consecutive ..
  · rw [startPreview_keeps g h_flight h_previews h_consecutive h_lastPort]; exact h_consecutive ..
  · exact startReallocation_keeps g h_realloc h_flight h_consecutive ..
  · split
    · exact startReallocation_keeps g h_realloc h_flight h_consecutive ..
    · exact startPreview_keeps g h_flight h_previews h_consecutive h_lastPort ..

theorem endEvent_keeps (g : State → β)
    (h_realloc : ∀ s v, g { s with realloc := v } = g s) (h_flight : ∀ s v, g { s with flight := v } = g s) (h_previews : ∀ s v, g { s with previews := v } = g s) (h_consecutive : ∀ s v, g { s with consecutive := v } = g s) (h_lastPort : ∀ s v, g { s with lastPort := v } = g s)
    (old s : State) : g (endEvent old s) = g s := by
  unfold endEvent
  split
  · exact arbitrate_keeps g h_realloc h_flight h_previews h_consecutive h_lastPort ..
  · rfl

theorem writeGrants_keeps (g : State → β)
    (h_grants : ∀ s v, g { s with grants := v } = g s) (h_short : ∀ s v, g { s with short := v } = g s) (h_notices : ∀ s v, g { s with notices := v } = g s)
    (s : State) (z : ZoneNo) (v : Vector Nat 4) : g (writeGrants s z v) = g s := by
  unfold writeGrants
  rw [foldl_keeps g, setGrants_keeps g h_grants]
  intro t o
  exact judgeShort_keeps g h_short h_notices ..

theorem completeReallocation_keeps (g : State → β)
    (h_grants : ∀ s v, g { s with grants := v } = g s) (h_short : ∀ s v, g { s with short := v } = g s) (h_stale : ∀ s v, g { s with stale := v } = g s) (h_notices : ∀ s v, g { s with notices := v } = g s)
    (s : State) (z : ZoneNo) (n : Snapshot) : g (completeReallocation s z n) = g s := by
  unfold completeReallocation
  split
  · exact h_stale ..
  · exact writeGrants_keeps g h_grants h_short h_notices ..

theorem completePreview_keeps (g : State → β)
    (h_previews : ∀ s v, g { s with previews := v } = g s) (h_notices : ∀ s v, g { s with notices := v } = g s)
    (s : State) (p : Port) (o : OpNo) (sec : Option SectorNo) (z : ZoneNo) (n : Snapshot) : g (completePreview s p o sec z n) = g s := by
  unfold completePreview State.setPreview
  refine (h_previews ..).trans ?_
  dsimp only
  rw [apply_ite g, file_keeps g h_notices, ite_self]

/-! ## What comes about inside the commands -/

theorem takeEdge_keeps (g : State → β)
    (h_prot : ∀ s v, g { s with prot := v } = g s) (h_notices : ∀ s v, g { s with notices := v } = g s)
    (s : State) (z : ZoneNo) (c : ClassNo) (bit : Bool) : g (takeEdge s z c bit) = g s := by
  unfold takeEdge
  dsimp only
  split
  · rfl
  · split
    · split
      · rw [fileAlarm_keeps g h_notices]; exact h_prot ..
      · exact h_prot ..
    · split
      · rw [fileAlarm_keeps g h_notices]; exact h_prot ..
      · exact h_prot ..

theorem takeEdges_keeps (g : State → β)
    (h_prot : ∀ s v, g { s with prot := v } = g s) (h_notices : ∀ s v, g { s with notices := v } = g s)
    (s : State) (z : ZoneNo) (bits : Vector Bool 6) : g (takeEdges s z bits) = g s := by
  exact foldl_keeps g _ (fun _ _ => takeEdge_keeps g h_prot h_notices ..) _ _

theorem outputNotices_keeps (g : State → β)
    (h_notices : ∀ s v, g { s with notices := v } = g s)
    (old s : State) (z : ZoneNo) : g (outputNotices old s z) = g s := by
  unfold outputNotices
  dsimp only
  split
  · rw [fileZone_keeps g h_notices]; split
    · exact fileZone_keeps g h_notices ..
    · rfl
  · split
    · exact fileZone_keeps g h_notices ..
    · rfl

theorem takeOutputs_keeps (g : State → β)
    (h_grants : ∀ s v, g { s with grants := v } = g s) (h_short : ∀ s v, g { s with short := v } = g s) (h_realloc : ∀ s v, g { s with realloc := v } = g s) (h_notices : ∀ s v, g { s with notices := v } = g s)
    (old s : State) (z : ZoneNo) : g (takeOutputs old s z) = g s := by
  unfold takeOutputs
  split
  · rw [inputChange_keeps g h_grants h_short h_realloc h_notices, outputNotices_keeps g h_notices]
  · rfl

theorem takeVector_keeps (g : State → β)
    (h_prot : ∀ s v, g { s with prot := v } = g s) (h_grants : ∀ s v, g { s with grants := v } = g s) (h_short : ∀ s v, g { s with short := v } = g s) (h_realloc : ∀ s v, g { s with realloc := v } = g s) (h_notices : ∀ s v, g { s with notices := v } = g s)
    (s : State) (z : ZoneNo) (bits : Vector Bool 6) : g (takeVector s z bits) = g s := by
  unfold takeVector
  rw [takeOutputs_keeps g h_grants h_short h_realloc h_notices, takeEdges_keeps g h_prot h_notices]

theorem goDark_keeps (g : State → β)
    (h_prot : ∀ s v, g { s with prot := v } = g s) (h_spread : ∀ s v, g { s with spread := v } = g s) (h_notices : ∀ s v, g { s with notices := v } = g s)
    (old s : State) (z : ZoneNo) (cause : DarkCause) (why : WithdrawCause) : g (goDark old s z cause why) = g s := by
  unfold goDark
  dsimp only
  rw [withdrawOnZone_keeps g h_spread h_notices, outputNotices_keeps g h_notices, takeEdges_keeps g h_prot h_notices, fileZone_keeps g h_notices]

theorem goLive_keeps (g : State → β)
    (h_grants : ∀ s v, g { s with grants := v } = g s) (h_short : ∀ s v, g { s with short := v } = g s) (h_realloc : ∀ s v, g { s with realloc := v } = g s) (h_notices : ∀ s v, g { s with notices := v } = g s)
    (old s : State) (z : ZoneNo) : g (goLive old s z) = g s := by
  unfold goLive
  rw [inputChange_keeps g h_grants h_short h_realloc h_notices, fileZone_keeps g h_notices]

theorem searchWord_keeps (g : State → β)
    (h_links : ∀ s v, g { s with links := v } = g s) (h_grants : ∀ s v, g { s with grants := v } = g s) (h_short : ∀ s v, g { s with short := v } = g s) (h_realloc : ∀ s v, g { s with realloc := v } = g s) (h_notices : ∀ s v, g { s with notices := v } = g s)
    (s : State) (z : ZoneNo) (good : Bool) : g (searchWord s z good) = g s := by
  unfold searchWord
  dsimp only
  split
  · split
    · exact h_links ..
    · rw [goLive_keeps g h_grants h_short h_realloc h_notices]; exact h_links ..
  · exact h_links ..

theorem loseLink_keeps (g : State → β)
    (h_links : ∀ s v, g { s with links := v } = g s) (h_prot : ∀ s v, g { s with prot := v } = g s) (h_spread : ∀ s v, g { s with spread := v } = g s) (h_grants : ∀ s v, g { s with grants := v } = g s) (h_short : ∀ s v, g { s with short := v } = g s) (h_realloc : ∀ s v, g { s with realloc := v } = g s) (h_notices : ∀ s v, g { s with notices := v } = g s)
    (s : State) (z : ZoneNo) (r : LinkRec) : g (loseLink s z r) = g s := by
  unfold loseLink
  dsimp only
  rw [inputChange_keeps g h_grants h_short h_realloc h_notices, goDark_keeps g h_prot h_spread h_notices]
  exact h_links ..

theorem heardLinkWord_keeps (g : State → β)
    (h_links : ∀ s v, g { s with links := v } = g s) (h_prot : ∀ s v, g { s with prot := v } = g s) (h_spread : ∀ s v, g { s with spread := v } = g s) (h_grants : ∀ s v, g { s with grants := v } = g s) (h_short : ∀ s v, g { s with short := v } = g s) (h_realloc : ∀ s v, g { s with realloc := v } = g s) (h_notices : ∀ s v, g { s with notices := v } = g s)
    (s : State) (z : ZoneNo) (good : Bool) : g (heardLinkWord s z good) = g s := by
  unfold heardLinkWord
  dsimp only
  split
  · exact loseLink_keeps g h_links h_prot h_spread h_grants h_short h_realloc h_notices ..
  · split
    · rw [fileLink_keeps g h_notices]; exact h_links ..
    · split
      · rw [fileLink_keeps g h_notices]; exact h_links ..
      · exact h_links ..

theorem linkWord_keeps (g : State → β)
    (h_links : ∀ s v, g { s with links := v } = g s) (h_prot : ∀ s v, g { s with prot := v } = g s) (h_spread : ∀ s v, g { s with spread := v } = g s) (h_grants : ∀ s v, g { s with grants := v } = g s) (h_short : ∀ s v, g { s with short := v } = g s) (h_realloc : ∀ s v, g { s with realloc := v } = g s) (h_notices : ∀ s v, g { s with notices := v } = g s)
    (s : State) (z : ZoneNo) (good : Bool) : g (linkWord s z good) = g s := by
  unfold linkWord
  split
  · rfl
  · exact searchWord_keeps g h_links h_grants h_short h_realloc h_notices ..
  · exact heardLinkWord_keeps g h_links h_prot h_spread h_grants h_short h_realloc h_notices ..
  · exact heardLinkWord_keeps g h_links h_prot h_spread h_grants h_short h_realloc h_notices ..
  · rfl

theorem takeActivity_keeps (g : State → β)
    (h_cells : ∀ s v, g { s with cells := v } = g s)
    (s : State) (z : ZoneNo) (x : Vector Nat 4) : g (takeActivity s z x) = g s := by
  exact h_cells ..

theorem clearZoneCells_keeps (g : State → β)
    (h_cells : ∀ s v, g { s with cells := v } = g s)
    (s : State) (z : ZoneNo) : g (clearZoneCells s z) = g s := by
  exact h_cells ..

theorem copyBindings_keeps (g : State → β)
    (h_zones : ∀ s v, g { s with zones := v } = g s) (h_latchPending : ∀ s v, g { s with latchPending := v } = g s)
    (s : State) : g (copyBindings s) = g s := by
  exact (h_latchPending { s with zones := _ } _).trans (h_zones ..)

theorem moveLane_keeps (g : State → β)
    (h_settle : ∀ s v, g { s with settle := v } = g s) (h_notices : ∀ s v, g { s with notices := v } = g s)
    (old s : State) (z : ZoneNo) (o : OpNo) : g (moveLane old s z o) = g s := by
  unfold moveLane
  dsimp only
  split
  · split
    · exact fileMove_keeps g h_notices ..
    · exact (h_settle ..).trans (fileMove_keeps g h_notices ..)
  · rfl

theorem takeLatch_keeps (g : State → β)
    (h_zones : ∀ s v, g { s with zones := v } = g s) (h_latchPending : ∀ s v, g { s with latchPending := v } = g s) (h_settle : ∀ s v, g { s with settle := v } = g s) (h_grants : ∀ s v, g { s with grants := v } = g s) (h_short : ∀ s v, g { s with short := v } = g s) (h_realloc : ∀ s v, g { s with realloc := v } = g s) (h_notices : ∀ s v, g { s with notices := v } = g s)
    (s : State) : g (takeLatch s) = g s := by
  unfold takeLatch
  dsimp only
  rw [inputChanges_keeps g h_grants h_short h_realloc h_notices, foldl_keeps g, copyBindings_keeps g h_zones h_latchPending]
  intro t z
  exact foldl_keeps g _ (fun _ _ => moveLane_keeps g h_settle h_notices ..) _ _

theorem latchIfStopped_keeps (g : State → β)
    (h_zones : ∀ s v, g { s with zones := v } = g s) (h_latchPending : ∀ s v, g { s with latchPending := v } = g s) (h_settle : ∀ s v, g { s with settle := v } = g s) (h_grants : ∀ s v, g { s with grants := v } = g s) (h_short : ∀ s v, g { s with short := v } = g s) (h_realloc : ∀ s v, g { s with realloc := v } = g s) (h_notices : ∀ s v, g { s with notices := v } = g s)
    (s : State) : g (latchIfStopped s) = g s := by
  unfold latchIfStopped
  split
  · exact takeLatch_keeps g h_zones h_latchPending h_settle h_grants h_short h_realloc h_notices ..
  · rfl

theorem latchOnEntry_keeps (g : State → β)
    (h_zones : ∀ s v, g { s with zones := v } = g s) (h_latchPending : ∀ s v, g { s with latchPending := v } = g s) (h_settle : ∀ s v, g { s with settle := v } = g s) (h_grants : ∀ s v, g { s with grants := v } = g s) (h_short : ∀ s v, g { s with short := v } = g s) (h_realloc : ∀ s v, g { s with realloc := v } = g s) (h_notices : ∀ s v, g { s with notices := v } = g s)
    (s : State) : g (latchOnEntry s) = g s := by
  unfold latchOnEntry
  split
  · exact takeLatch_keeps g h_zones h_latchPending h_settle h_grants h_short h_realloc h_notices ..
  · rfl

theorem takeCommit_keeps (g : State → β)
    (h_commitPending : ∀ s v, g { s with commitPending := v } = g s) (h_lastCommit : ∀ s v, g { s with lastCommit := v } = g s) (h_activePlan : ∀ s v, g { s with activePlan := v } = g s) (h_shadows : ∀ s v, g { s with shadows := v } = g s) (h_grants : ∀ s v, g { s with grants := v } = g s) (h_short : ∀ s v, g { s with short := v } = g s) (h_realloc : ∀ s v, g { s with realloc := v } = g s) (h_notices : ∀ s v, g { s with notices := v } = g s)
    (s : State) : g (takeCommit s) = g s := by
  unfold takeCommit
  dsimp only
  rw [inputChanges_keeps g h_grants h_short h_realloc h_notices]
  generalize Vector.replicate 8 (Vector.replicate 64 Shadow.reset) = v
  exact (h_lastCommit { s with activePlan := s.workPlan, shadows := v, commitPending := false } (some s.stamp)).trans
    ((h_commitPending { s with activePlan := s.workPlan, shadows := v } false).trans
      ((h_shadows { s with activePlan := s.workPlan } v).trans (h_activePlan s s.workPlan)))

theorem commitOnEntry_keeps (g : State → β)
    (h_commitPending : ∀ s v, g { s with commitPending := v } = g s) (h_lastCommit : ∀ s v, g { s with lastCommit := v } = g s) (h_activePlan : ∀ s v, g { s with activePlan := v } = g s) (h_shadows : ∀ s v, g { s with shadows := v } = g s) (h_grants : ∀ s v, g { s with grants := v } = g s) (h_short : ∀ s v, g { s with short := v } = g s) (h_realloc : ∀ s v, g { s with realloc := v } = g s) (h_notices : ∀ s v, g { s with notices := v } = g s)
    (s : State) : g (commitOnEntry s) = g s := by
  unfold commitOnEntry
  split
  · exact takeCommit_keeps g h_commitPending h_lastCommit h_activePlan h_shadows h_grants h_short h_realloc h_notices ..
  · rfl

theorem stopZone_keeps (g : State → β)
    (h_links : ∀ s v, g { s with links := v } = g s) (h_prot : ∀ s v, g { s with prot := v } = g s) (h_spread : ∀ s v, g { s with spread := v } = g s) (h_grants : ∀ s v, g { s with grants := v } = g s) (h_short : ∀ s v, g { s with short := v } = g s) (h_realloc : ∀ s v, g { s with realloc := v } = g s) (h_notices : ∀ s v, g { s with notices := v } = g s)
    (old s : State) (z : ZoneNo) : g (stopZone old s z) = g s := by
  unfold stopZone
  dsimp only
  split
  · rw [inputChange_keeps g h_grants h_short h_realloc h_notices, goDark_keeps g h_prot h_spread h_notices]; exact h_links ..
  · exact h_links ..

theorem stopLinks_keeps (g : State → β)
    (h_transport : ∀ s v, g { s with transport := v } = g s) (h_firstPending : ∀ s v, g { s with firstPending := v } = g s) (h_downlink : ∀ s v, g { s with downlink := v } = g s) (h_links : ∀ s v, g { s with links := v } = g s) (h_prot : ∀ s v, g { s with prot := v } = g s) (h_spread : ∀ s v, g { s with spread := v } = g s) (h_grants : ∀ s v, g { s with grants := v } = g s) (h_short : ∀ s v, g { s with short := v } = g s) (h_realloc : ∀ s v, g { s with realloc := v } = g s) (h_notices : ∀ s v, g { s with notices := v } = g s)
    (s : State) : g (stopLinks s) = g s := by
  unfold stopLinks
  dsimp only
  rw [withdrawAll_keeps g h_spread h_notices, foldl_keeps g]
  · exact (h_downlink { s with transport := .stopped, firstPending := false } none).trans
      ((h_firstPending { s with transport := .stopped } false).trans (h_transport s .stopped))
  · exact fun _ _ => stopZone_keeps g h_links h_prot h_spread h_grants h_short h_realloc h_notices ..

theorem enterStopped_keeps (g : State → β)
    (h_zones : ∀ s v, g { s with zones := v } = g s) (h_latchPending : ∀ s v, g { s with latchPending := v } = g s) (h_transport : ∀ s v, g { s with transport := v } = g s) (h_firstPending : ∀ s v, g { s with firstPending := v } = g s) (h_commitPending : ∀ s v, g { s with commitPending := v } = g s) (h_lastCommit : ∀ s v, g { s with lastCommit := v } = g s) (h_activePlan : ∀ s v, g { s with activePlan := v } = g s) (h_shadows : ∀ s v, g { s with shadows := v } = g s) (h_downlink : ∀ s v, g { s with downlink := v } = g s) (h_links : ∀ s v, g { s with links := v } = g s) (h_prot : ∀ s v, g { s with prot := v } = g s) (h_spread : ∀ s v, g { s with spread := v } = g s) (h_settle : ∀ s v, g { s with settle := v } = g s) (h_grants : ∀ s v, g { s with grants := v } = g s) (h_short : ∀ s v, g { s with short := v } = g s) (h_realloc : ∀ s v, g { s with realloc := v } = g s) (h_notices : ∀ s v, g { s with notices := v } = g s)
    (s : State) : g (enterStopped s) = g s := by
  unfold enterStopped
  rw [commitOnEntry_keeps g h_commitPending h_lastCommit h_activePlan h_shadows h_grants h_short h_realloc h_notices, latchOnEntry_keeps g h_zones h_latchPending h_settle h_grants h_short h_realloc h_notices, stopLinks_keeps g h_transport h_firstPending h_downlink h_links h_prot h_spread h_grants h_short h_realloc h_notices]

theorem shadowEntry_keeps (g : State → β)
    (h_shadows : ∀ s v, g { s with shadows := v } = g s) (h_notices : ∀ s v, g { s with notices := v } = g s)
    (s : State) (spoke : SpokeNo) (n : EntryNo) : g (shadowEntry s spoke n) = g s := by
  unfold shadowEntry
  dsimp only
  split
  · exact h_shadows ..
  · rw [file_keeps g h_notices]; exact h_shadows ..

theorem shadowSpoke_keeps (g : State → β)
    (h_shadows : ∀ s v, g { s with shadows := v } = g s) (h_notices : ∀ s v, g { s with notices := v } = g s)
    (s : State) (spoke : SpokeNo) : g (shadowSpoke s spoke) = g s := by
  unfold shadowSpoke
  dsimp only
  apply foldl_keeps g
  intro t slot
  exact foldl_keeps g _ (fun _ _ => shadowEntry_keeps g h_shadows h_notices ..) _ _

theorem fillSlots_keeps (g : State → β)
    (h_shadows : ∀ s v, g { s with shadows := v } = g s) (h_downlink : ∀ s v, g { s with downlink := v } = g s) (h_notices : ∀ s v, g { s with notices := v } = g s)
    (s : State) : g (fillSlots s) = g s := by
  unfold fillSlots
  dsimp only
  refine (h_downlink ..).trans ?_
  exact foldl_keeps g _ (fun _ _ => shadowSpoke_keeps g h_shadows h_notices ..) _ _

theorem countDwells_keeps (g : State → β)
    (h_links : ∀ s v, g { s with links := v } = g s)
    (s : State) : g (countDwells s) = g s := by
  exact h_links ..

theorem expireRetry_keeps (g : State → β)
    (h_prot : ∀ s v, g { s with prot := v } = g s) (h_notices : ∀ s v, g { s with notices := v } = g s)
    (s : State) (z : ZoneNo) (c : ClassNo) : g (expireRetry s z c) = g s := by
  unfold expireRetry
  rw [fileAlarm_keeps g h_notices]; exact h_prot ..

theorem countRetry_keeps (g : State → β)
    (h_prot : ∀ s v, g { s with prot := v } = g s) (h_notices : ∀ s v, g { s with notices := v } = g s)
    (s : State) (z : ZoneNo) (c : ClassNo) : g (countRetry s z c) = g s := by
  unfold countRetry
  split
  · split
    · exact h_prot ..
    · exact expireRetry_keeps g h_prot h_notices ..
  · rfl

theorem countZoneRetries_keeps (g : State → β)
    (h_prot : ∀ s v, g { s with prot := v } = g s) (h_grants : ∀ s v, g { s with grants := v } = g s) (h_short : ∀ s v, g { s with short := v } = g s) (h_realloc : ∀ s v, g { s with realloc := v } = g s) (h_notices : ∀ s v, g { s with notices := v } = g s)
    (s : State) (z : ZoneNo) : g (countZoneRetries s z) = g s := by
  unfold countZoneRetries
  rw [takeOutputs_keeps g h_grants h_short h_realloc h_notices, foldl_keeps g]
  exact fun _ _ => countRetry_keeps g h_prot h_notices ..

theorem protectReaction_keeps (g : State → β)
    (h_prot : ∀ s v, g { s with prot := v } = g s) (h_grants : ∀ s v, g { s with grants := v } = g s) (h_short : ∀ s v, g { s with short := v } = g s) (h_realloc : ∀ s v, g { s with realloc := v } = g s) (h_notices : ∀ s v, g { s with notices := v } = g s)
    (s : State) : g (protectReaction s) = g s := by
  exact foldl_keeps g _ (fun _ _ => countZoneRetries_keeps g h_prot h_grants h_short h_realloc h_notices ..) _ _

theorem expireProposal_keeps (g : State → β)
    (h_zones : ∀ s v, g { s with zones := v } = g s) (h_latchPending : ∀ s v, g { s with latchPending := v } = g s) (h_spread : ∀ s v, g { s with spread := v } = g s) (h_settle : ∀ s v, g { s with settle := v } = g s) (h_notices : ∀ s v, g { s with notices := v } = g s)
    (s : State) (o : OpNo) (p : Proposal) : g (expireProposal s o p) = g s := by
  unfold expireProposal
  dsimp only
  rw [file_keeps g h_notices, closeProposal_keeps g h_spread]
  split
  · exact workingWrite_keeps g h_zones h_latchPending ..
  · exact h_settle ..

theorem countProposal_keeps (g : State → β)
    (h_zones : ∀ s v, g { s with zones := v } = g s) (h_latchPending : ∀ s v, g { s with latchPending := v } = g s) (h_spread : ∀ s v, g { s with spread := v } = g s) (h_settle : ∀ s v, g { s with settle := v } = g s) (h_notices : ∀ s v, g { s with notices := v } = g s)
    (s : State) (o : OpNo) : g (countProposal s o) = g s := by
  unfold countProposal
  split
  · rfl
  · split
    · exact h_spread ..
    · exact expireProposal_keeps g h_zones h_latchPending h_spread h_settle h_notices ..

theorem setOutcome_keeps (g : State → β)
    (h_spread : ∀ s v, g { s with spread := v } = g s)
    (s : State) (o : OpNo) (e : EvalOutcome) : g (setOutcome s o e) = g s := by
  exact h_spread ..

theorem openProposal_keeps (g : State → β)
    (h_spread : ∀ s v, g { s with spread := v } = g s) (h_notices : ∀ s v, g { s with notices := v } = g s)
    (s : State) (o : OpNo) (z : ZoneNo) (h t : SectorNo) : g (openProposal s o z h t) = g s := by
  unfold openProposal
  dsimp only
  rw [file_keeps g h_notices]; exact h_spread ..

theorem evaluate_keeps (g : State → β)
    (h_zones : ∀ s v, g { s with zones := v } = g s) (h_latchPending : ∀ s v, g { s with latchPending := v } = g s) (h_spread : ∀ s v, g { s with spread := v } = g s) (h_notices : ∀ s v, g { s with notices := v } = g s)
    (s : State) (o : OpNo) : g (evaluate s o) = g s := by
  unfold evaluate
  split
  · exact setOutcome_keeps g h_spread ..
  · split
    · rw [setOutcome_keeps g h_spread, workingWrite_keeps g h_zones h_latchPending]
    · exact openProposal_keeps g h_spread h_notices ..

theorem setEvalCount_keeps (g : State → β)
    (h_spread : ∀ s v, g { s with spread := v } = g s)
    (s : State) (o : OpNo) (n : Nat) : g (setEvalCount s o n) = g s := by
  exact h_spread ..

theorem runEvaluation_keeps (g : State → β)
    (h_zones : ∀ s v, g { s with zones := v } = g s) (h_latchPending : ∀ s v, g { s with latchPending := v } = g s) (h_spread : ∀ s v, g { s with spread := v } = g s) (h_notices : ∀ s v, g { s with notices := v } = g s)
    (s : State) (o : OpNo) : g (runEvaluation s o) = g s := by
  unfold runEvaluation
  rw [evaluate_keeps g h_zones h_latchPending h_spread h_notices, setEvalCount_keeps g h_spread]

theorem countEvaluation_keeps (g : State → β)
    (h_zones : ∀ s v, g { s with zones := v } = g s) (h_latchPending : ∀ s v, g { s with latchPending := v } = g s) (h_spread : ∀ s v, g { s with spread := v } = g s) (h_notices : ∀ s v, g { s with notices := v } = g s)
    (s : State) (o : OpNo) : g (countEvaluation s o) = g s := by
  unfold countEvaluation
  split
  · split
    · exact setEvalCount_keeps g h_spread ..
    · exact runEvaluation_keeps g h_zones h_latchPending h_spread h_notices ..
  · rfl

theorem countSettles_keeps (g : State → β)
    (h_settle : ∀ s v, g { s with settle := v } = g s)
    (s : State) : g (countSettles s) = g s := by
  exact h_settle ..

theorem spreadReaction_keeps (g : State → β)
    (h_zones : ∀ s v, g { s with zones := v } = g s) (h_latchPending : ∀ s v, g { s with latchPending := v } = g s) (h_spread : ∀ s v, g { s with spread := v } = g s) (h_settle : ∀ s v, g { s with settle := v } = g s) (h_notices : ∀ s v, g { s with notices := v } = g s)
    (s : State) : g (spreadReaction s) = g s := by
  unfold spreadReaction
  rw [foldl_keeps g _ (fun _ _ => countEvaluation_keeps g h_zones h_latchPending h_spread h_notices ..), foldl_keeps g _ (fun _ _ => countProposal_keeps g h_zones h_latchPending h_spread h_settle h_notices ..), countSettles_keeps g h_settle]

/-! ## What no operation of the blocks touches: the ports and the waiting commands -/

@[simp] theorem fileOne_ports (n : Notice) (s : State) (p : Port) : (fileOne n s p).ports = s.ports :=
  fileOne_keeps State.ports (fun _ _ => rfl) ..
@[simp] theorem file_ports (s : State) (ps : List Port) (n : Notice) : (file s ps n).ports = s.ports :=
  file_keeps State.ports (fun _ _ => rfl) ..
@[simp] theorem fileZone_ports (s : State) (z : ZoneNo) (k : NoticeKind) (v : Nat) : (fileZone s z k v).ports = s.ports :=
  fileZone_keeps State.ports (fun _ _ => rfl) ..
@[simp] theorem fileAlarm_ports (s : State) (z : ZoneNo) (c : ClassNo) (k : NoticeKind) (v : Nat) : (fileAlarm s z c k v).ports = s.ports :=
  fileAlarm_keeps State.ports (fun _ _ => rfl) ..
@[simp] theorem fileTenancy_ports (s : State) (o : OpNo) : (fileTenancy s o).ports = s.ports :=
  fileTenancy_keeps State.ports (fun _ _ => rfl) ..
@[simp] theorem fileGrant_ports (s : State) (z : ZoneNo) (o : OpNo) (k : NoticeKind) : (fileGrant s z o k).ports = s.ports :=
  fileGrant_keeps State.ports (fun _ _ => rfl) ..
@[simp] theorem fileLink_ports (s : State) (z : ZoneNo) (k : NoticeKind) : (fileLink s z k).ports = s.ports :=
  fileLink_keeps State.ports (fun _ _ => rfl) ..
@[simp] theorem fileMove_ports (old s : State) (z : ZoneNo) (o : OpNo) : (fileMove old s z o).ports = s.ports :=
  fileMove_keeps State.ports (fun _ _ => rfl) ..
@[simp] theorem closeProposal_ports (s : State) (o : OpNo) (p : Proposal) : (closeProposal s o p).ports = s.ports :=
  closeProposal_keeps State.ports (fun _ _ => rfl) ..
@[simp] theorem withdraw_ports (s : State) (o : OpNo) (why : WithdrawCause) : (withdraw s o why).ports = s.ports :=
  withdraw_keeps State.ports (fun _ _ => rfl) (fun _ _ => rfl) ..
@[simp] theorem withdrawIf_ports (s : State) (o : OpNo) (test : Proposal → Bool) (why : WithdrawCause) : (withdrawIf s o test why).ports = s.ports :=
  withdrawIf_keeps State.ports (fun _ _ => rfl) (fun _ _ => rfl) ..
@[simp] theorem withdrawOnZone_ports (s : State) (z : ZoneNo) (why : WithdrawCause) : (withdrawOnZone s z why).ports = s.ports :=
  withdrawOnZone_keeps State.ports (fun _ _ => rfl) (fun _ _ => rfl) ..
@[simp] theorem withdrawAll_ports (s : State) (why : WithdrawCause) : (withdrawAll s why).ports = s.ports :=
  withdrawAll_keeps State.ports (fun _ _ => rfl) (fun _ _ => rfl) ..
@[simp] theorem setWorking_ports (s : State) (z : ZoneNo) (o : OpNo) (b : Option SectorNo) : (setWorking s z o b).ports = s.ports :=
  setWorking_keeps State.ports (fun _ _ => rfl) ..
@[simp] theorem workingWrite_ports (s : State) (z : ZoneNo) (o : OpNo) (b : Option SectorNo) : (workingWrite s z o b).ports = s.ports :=
  workingWrite_keeps State.ports (fun _ _ => rfl) (fun _ _ => rfl) ..
@[simp] theorem judgeShort_ports (s : State) (z : ZoneNo) (o : OpNo) (q : Nat) : (judgeShort s z o q).ports = s.ports :=
  judgeShort_keeps State.ports (fun _ _ => rfl) (fun _ _ => rfl) ..
@[simp] theorem enqueue_ports (s : State) (z : ZoneNo) : (enqueue s z).ports = s.ports :=
  enqueue_keeps State.ports (fun _ _ => rfl) ..
@[simp] theorem setGrants_ports (s : State) (z : ZoneNo) (v : Vector Nat 4) : (setGrants s z v).ports = s.ports :=
  setGrants_keeps State.ports (fun _ _ => rfl) ..
@[simp] theorem inputChange_ports (old s : State) (z : ZoneNo) : (inputChange old s z).ports = s.ports :=
  inputChange_keeps State.ports (fun _ _ => rfl) (fun _ _ => rfl) (fun _ _ => rfl) (fun _ _ => rfl) ..
@[simp] theorem inputChanges_ports (old s : State) (also : ZoneNo → Bool) : (inputChanges old s also).ports = s.ports :=
  inputChanges_keeps State.ports (fun _ _ => rfl) (fun _ _ => rfl) (fun _ _ => rfl) (fun _ _ => rfl) ..
@[simp] theorem shareChange_ports (s : State) : (shareChange s).ports = s.ports :=
  shareChange_keeps State.ports (fun _ _ => rfl) ..
@[simp] theorem startReallocation_ports (s : State) (z : ZoneNo) (rest : List ZoneNo) : (startReallocation s z rest).ports = s.ports :=
  startReallocation_keeps State.ports (fun _ _ => rfl) (fun _ _ => rfl) (fun _ _ => rfl) ..
@[simp] theorem startPreview_ports (s : State) (p : Port) (e : PreviewSlot) : (startPreview s p e).ports = s.ports :=
  startPreview_keeps State.ports (fun _ _ => rfl) (fun _ _ => rfl) (fun _ _ => rfl) (fun _ _ => rfl) ..
@[simp] theorem arbitrate_ports (s : State) : (arbitrate s).ports = s.ports :=
  arbitrate_keeps State.ports (fun _ _ => rfl) (fun _ _ => rfl) (fun _ _ => rfl) (fun _ _ => rfl) (fun _ _ => rfl) ..
@[simp] theorem endEvent_ports (old s : State) : (endEvent old s).ports = s.ports :=
  endEvent_keeps State.ports (fun _ _ => rfl) (fun _ _ => rfl) (fun _ _ => rfl) (fun _ _ => rfl) (fun _ _ => rfl) ..
@[simp] theorem writeGrants_ports (s : State) (z : ZoneNo) (v : Vector Nat 4) : (writeGrants s z v).ports = s.ports :=
  writeGrants_keeps State.ports (fun _ _ => rfl) (fun _ _ => rfl) (fun _ _ => rfl) ..
@[simp] theorem completeReallocation_ports (s : State) (z : ZoneNo) (n : Snapshot) : (completeReallocation s z n).ports = s.ports :=
  completeReallocation_keeps State.ports (fun _ _ => rfl) (fun _ _ => rfl) (fun _ _ => rfl) (fun _ _ => rfl) ..
@[simp] theorem completePreview_ports (s : State) (p : Port) (o : OpNo) (sec : Option SectorNo) (z : ZoneNo) (n : Snapshot) : (completePreview s p o sec z n).ports = s.ports :=
  completePreview_keeps State.ports (fun _ _ => rfl) (fun _ _ => rfl) ..
@[simp] theorem takeEdge_ports (s : State) (z : ZoneNo) (c : ClassNo) (bit : Bool) : (takeEdge s z c bit).ports = s.ports :=
  takeEdge_keeps State.ports (fun _ _ => rfl) (fun _ _ => rfl) ..
@[simp] theorem takeEdges_ports (s : State) (z : ZoneNo) (bits : Vector Bool 6) : (takeEdges s z bits).ports = s.ports :=
  takeEdges_keeps State.ports (fun _ _ => rfl) (fun _ _ => rfl) ..
@[simp] theorem outputNotices_ports (old s : State) (z : ZoneNo) : (outputNotices old s z).ports = s.ports :=
  outputNotices_keeps State.ports (fun _ _ => rfl) ..
@[simp] theorem takeOutputs_ports (old s : State) (z : ZoneNo) : (takeOutputs old s z).ports = s.ports :=
  takeOutputs_keeps State.ports (fun _ _ => rfl) (fun _ _ => rfl) (fun _ _ => rfl) (fun _ _ => rfl) ..
@[simp] theorem takeVector_ports (s : State) (z : ZoneNo) (bits : Vector Bool 6) : (takeVector s z bits).ports = s.ports :=
  takeVector_keeps State.ports (fun _ _ => rfl) (fun _ _ => rfl) (fun _ _ => rfl) (fun _ _ => rfl) (fun _ _ => rfl) ..
@[simp] theorem goDark_ports (old s : State) (z : ZoneNo) (cause : DarkCause) (why : WithdrawCause) : (goDark old s z cause why).ports = s.ports :=
  goDark_keeps State.ports (fun _ _ => rfl) (fun _ _ => rfl) (fun _ _ => rfl) ..
@[simp] theorem goLive_ports (old s : State) (z : ZoneNo) : (goLive old s z).ports = s.ports :=
  goLive_keeps State.ports (fun _ _ => rfl) (fun _ _ => rfl) (fun _ _ => rfl) (fun _ _ => rfl) ..
@[simp] theorem searchWord_ports (s : State) (z : ZoneNo) (good : Bool) : (searchWord s z good).ports = s.ports :=
  searchWord_keeps State.ports (fun _ _ => rfl) (fun _ _ => rfl) (fun _ _ => rfl) (fun _ _ => rfl) (fun _ _ => rfl) ..
@[simp] theorem loseLink_ports (s : State) (z : ZoneNo) (r : LinkRec) : (loseLink s z r).ports = s.ports :=
  loseLink_keeps State.ports (fun _ _ => rfl) (fun _ _ => rfl) (fun _ _ => rfl) (fun _ _ => rfl) (fun _ _ => rfl) (fun _ _ => rfl) (fun _ _ => rfl) ..
@[simp] theorem heardLinkWord_ports (s : State) (z : ZoneNo) (good : Bool) : (heardLinkWord s z good).ports = s.ports :=
  heardLinkWord_keeps State.ports (fun _ _ => rfl) (fun _ _ => rfl) (fun _ _ => rfl) (fun _ _ => rfl) (fun _ _ => rfl) (fun _ _ => rfl) (fun _ _ => rfl) ..
@[simp] theorem linkWord_ports (s : State) (z : ZoneNo) (good : Bool) : (linkWord s z good).ports = s.ports :=
  linkWord_keeps State.ports (fun _ _ => rfl) (fun _ _ => rfl) (fun _ _ => rfl) (fun _ _ => rfl) (fun _ _ => rfl) (fun _ _ => rfl) (fun _ _ => rfl) ..
@[simp] theorem takeActivity_ports (s : State) (z : ZoneNo) (x : Vector Nat 4) : (takeActivity s z x).ports = s.ports :=
  takeActivity_keeps State.ports (fun _ _ => rfl) ..
@[simp] theorem clearZoneCells_ports (s : State) (z : ZoneNo) : (clearZoneCells s z).ports = s.ports :=
  clearZoneCells_keeps State.ports (fun _ _ => rfl) ..
@[simp] theorem copyBindings_ports (s : State) : (copyBindings s).ports = s.ports :=
  copyBindings_keeps State.ports (fun _ _ => rfl) (fun _ _ => rfl) ..
@[simp] theorem moveLane_ports (old s : State) (z : ZoneNo) (o : OpNo) : (moveLane old s z o).ports = s.ports :=
  moveLane_keeps State.ports (fun _ _ => rfl) (fun _ _ => rfl) ..
@[simp] theorem takeLatch_ports (s : State) : (takeLatch s).ports = s.ports :=
  takeLatch_keeps State.ports (fun _ _ => rfl) (fun _ _ => rfl) (fun _ _ => rfl) (fun _ _ => rfl) (fun _ _ => rfl) (fun _ _ => rfl) (fun _ _ => rfl) ..
@[simp] theorem latchIfStopped_ports (s : State) : (latchIfStopped s).ports = s.ports :=
  latchIfStopped_keeps State.ports (fun _ _ => rfl) (fun _ _ => rfl) (fun _ _ => rfl) (fun _ _ => rfl) (fun _ _ => rfl) (fun _ _ => rfl) (fun _ _ => rfl) ..
@[simp] theorem latchOnEntry_ports (s : State) : (latchOnEntry s).ports = s.ports :=
  latchOnEntry_keeps State.ports (fun _ _ => rfl) (fun _ _ => rfl) (fun _ _ => rfl) (fun _ _ => rfl) (fun _ _ => rfl) (fun _ _ => rfl) (fun _ _ => rfl) ..
@[simp] theorem takeCommit_ports (s : State) : (takeCommit s).ports = s.ports :=
  takeCommit_keeps State.ports (fun _ _ => rfl) (fun _ _ => rfl) (fun _ _ => rfl) (fun _ _ => rfl) (fun _ _ => rfl) (fun _ _ => rfl) (fun _ _ => rfl) (fun _ _ => rfl) ..
@[simp] theorem commitOnEntry_ports (s : State) : (commitOnEntry s).ports = s.ports :=
  commitOnEntry_keeps State.ports (fun _ _ => rfl) (fun _ _ => rfl) (fun _ _ => rfl) (fun _ _ => rfl) (fun _ _ => rfl) (fun _ _ => rfl) (fun _ _ => rfl) (fun _ _ => rfl) ..
@[simp] theorem stopZone_ports (old s : State) (z : ZoneNo) : (stopZone old s z).ports = s.ports :=
  stopZone_keeps State.ports (fun _ _ => rfl) (fun _ _ => rfl) (fun _ _ => rfl) (fun _ _ => rfl) (fun _ _ => rfl) (fun _ _ => rfl) (fun _ _ => rfl) ..
@[simp] theorem stopLinks_ports (s : State) : (stopLinks s).ports = s.ports :=
  stopLinks_keeps State.ports (fun _ _ => rfl) (fun _ _ => rfl) (fun _ _ => rfl) (fun _ _ => rfl) (fun _ _ => rfl) (fun _ _ => rfl) (fun _ _ => rfl) (fun _ _ => rfl) (fun _ _ => rfl) (fun _ _ => rfl) ..
@[simp] theorem enterStopped_ports (s : State) : (enterStopped s).ports = s.ports :=
  enterStopped_keeps State.ports (fun _ _ => rfl) (fun _ _ => rfl) (fun _ _ => rfl) (fun _ _ => rfl) (fun _ _ => rfl) (fun _ _ => rfl) (fun _ _ => rfl) (fun _ _ => rfl) (fun _ _ => rfl) (fun _ _ => rfl) (fun _ _ => rfl) (fun _ _ => rfl) (fun _ _ => rfl) (fun _ _ => rfl) (fun _ _ => rfl) (fun _ _ => rfl) (fun _ _ => rfl) ..
@[simp] theorem shadowEntry_ports (s : State) (spoke : SpokeNo) (n : EntryNo) : (shadowEntry s spoke n).ports = s.ports :=
  shadowEntry_keeps State.ports (fun _ _ => rfl) (fun _ _ => rfl) ..
@[simp] theorem shadowSpoke_ports (s : State) (spoke : SpokeNo) : (shadowSpoke s spoke).ports = s.ports :=
  shadowSpoke_keeps State.ports (fun _ _ => rfl) (fun _ _ => rfl) ..
@[simp] theorem fillSlots_ports (s : State) : (fillSlots s).ports = s.ports :=
  fillSlots_keeps State.ports (fun _ _ => rfl) (fun _ _ => rfl) (fun _ _ => rfl) ..
@[simp] theorem countDwells_ports (s : State) : (countDwells s).ports = s.ports :=
  countDwells_keeps State.ports (fun _ _ => rfl) ..
@[simp] theorem expireRetry_ports (s : State) (z : ZoneNo) (c : ClassNo) : (expireRetry s z c).ports = s.ports :=
  expireRetry_keeps State.ports (fun _ _ => rfl) (fun _ _ => rfl) ..
@[simp] theorem countRetry_ports (s : State) (z : ZoneNo) (c : ClassNo) : (countRetry s z c).ports = s.ports :=
  countRetry_keeps State.ports (fun _ _ => rfl) (fun _ _ => rfl) ..
@[simp] theorem countZoneRetries_ports (s : State) (z : ZoneNo) : (countZoneRetries s z).ports = s.ports :=
  countZoneRetries_keeps State.ports (fun _ _ => rfl) (fun _ _ => rfl) (fun _ _ => rfl) (fun _ _ => rfl) (fun _ _ => rfl) ..
@[simp] theorem protectReaction_ports (s : State) : (protectReaction s).ports = s.ports :=
  protectReaction_keeps State.ports (fun _ _ => rfl) (fun _ _ => rfl) (fun _ _ => rfl) (fun _ _ => rfl) (fun _ _ => rfl) ..
@[simp] theorem expireProposal_ports (s : State) (o : OpNo) (p : Proposal) : (expireProposal s o p).ports = s.ports :=
  expireProposal_keeps State.ports (fun _ _ => rfl) (fun _ _ => rfl) (fun _ _ => rfl) (fun _ _ => rfl) (fun _ _ => rfl) ..
@[simp] theorem countProposal_ports (s : State) (o : OpNo) : (countProposal s o).ports = s.ports :=
  countProposal_keeps State.ports (fun _ _ => rfl) (fun _ _ => rfl) (fun _ _ => rfl) (fun _ _ => rfl) (fun _ _ => rfl) ..
@[simp] theorem setOutcome_ports (s : State) (o : OpNo) (e : EvalOutcome) : (setOutcome s o e).ports = s.ports :=
  setOutcome_keeps State.ports (fun _ _ => rfl) ..
@[simp] theorem openProposal_ports (s : State) (o : OpNo) (z : ZoneNo) (h t : SectorNo) : (openProposal s o z h t).ports = s.ports :=
  openProposal_keeps State.ports (fun _ _ => rfl) (fun _ _ => rfl) ..
@[simp] theorem evaluate_ports (s : State) (o : OpNo) : (evaluate s o).ports = s.ports :=
  evaluate_keeps State.ports (fun _ _ => rfl) (fun _ _ => rfl) (fun _ _ => rfl) (fun _ _ => rfl) ..
@[simp] theorem setEvalCount_ports (s : State) (o : OpNo) (n : Nat) : (setEvalCount s o n).ports = s.ports :=
  setEvalCount_keeps State.ports (fun _ _ => rfl) ..
@[simp] theorem runEvaluation_ports (s : State) (o : OpNo) : (runEvaluation s o).ports = s.ports :=
  runEvaluation_keeps State.ports (fun _ _ => rfl) (fun _ _ => rfl) (fun _ _ => rfl) (fun _ _ => rfl) ..
@[simp] theorem countEvaluation_ports (s : State) (o : OpNo) : (countEvaluation s o).ports = s.ports :=
  countEvaluation_keeps State.ports (fun _ _ => rfl) (fun _ _ => rfl) (fun _ _ => rfl) (fun _ _ => rfl) ..
@[simp] theorem countSettles_ports (s : State) : (countSettles s).ports = s.ports :=
  countSettles_keeps State.ports (fun _ _ => rfl) ..
@[simp] theorem spreadReaction_ports (s : State) : (spreadReaction s).ports = s.ports :=
  spreadReaction_keeps State.ports (fun _ _ => rfl) (fun _ _ => rfl) (fun _ _ => rfl) (fun _ _ => rfl) (fun _ _ => rfl) ..

@[simp] theorem fileOne_pending (n : Notice) (s : State) (p : Port) : (fileOne n s p).pending = s.pending :=
  fileOne_keeps State.pending (fun _ _ => rfl) ..
@[simp] theorem file_pending (s : State) (ps : List Port) (n : Notice) : (file s ps n).pending = s.pending :=
  file_keeps State.pending (fun _ _ => rfl) ..
@[simp] theorem fileZone_pending (s : State) (z : ZoneNo) (k : NoticeKind) (v : Nat) : (fileZone s z k v).pending = s.pending :=
  fileZone_keeps State.pending (fun _ _ => rfl) ..
@[simp] theorem fileAlarm_pending (s : State) (z : ZoneNo) (c : ClassNo) (k : NoticeKind) (v : Nat) : (fileAlarm s z c k v).pending = s.pending :=
  fileAlarm_keeps State.pending (fun _ _ => rfl) ..
@[simp] theorem fileTenancy_pending (s : State) (o : OpNo) : (fileTenancy s o).pending = s.pending :=
  fileTenancy_keeps State.pending (fun _ _ => rfl) ..
@[simp] theorem fileGrant_pending (s : State) (z : ZoneNo) (o : OpNo) (k : NoticeKind) : (fileGrant s z o k).pending = s.pending :=
  fileGrant_keeps State.pending (fun _ _ => rfl) ..
@[simp] theorem fileLink_pending (s : State) (z : ZoneNo) (k : NoticeKind) : (fileLink s z k).pending = s.pending :=
  fileLink_keeps State.pending (fun _ _ => rfl) ..
@[simp] theorem fileMove_pending (old s : State) (z : ZoneNo) (o : OpNo) : (fileMove old s z o).pending = s.pending :=
  fileMove_keeps State.pending (fun _ _ => rfl) ..
@[simp] theorem closeProposal_pending (s : State) (o : OpNo) (p : Proposal) : (closeProposal s o p).pending = s.pending :=
  closeProposal_keeps State.pending (fun _ _ => rfl) ..
@[simp] theorem withdraw_pending (s : State) (o : OpNo) (why : WithdrawCause) : (withdraw s o why).pending = s.pending :=
  withdraw_keeps State.pending (fun _ _ => rfl) (fun _ _ => rfl) ..
@[simp] theorem withdrawIf_pending (s : State) (o : OpNo) (test : Proposal → Bool) (why : WithdrawCause) : (withdrawIf s o test why).pending = s.pending :=
  withdrawIf_keeps State.pending (fun _ _ => rfl) (fun _ _ => rfl) ..
@[simp] theorem withdrawOnZone_pending (s : State) (z : ZoneNo) (why : WithdrawCause) : (withdrawOnZone s z why).pending = s.pending :=
  withdrawOnZone_keeps State.pending (fun _ _ => rfl) (fun _ _ => rfl) ..
@[simp] theorem withdrawAll_pending (s : State) (why : WithdrawCause) : (withdrawAll s why).pending = s.pending :=
  withdrawAll_keeps State.pending (fun _ _ => rfl) (fun _ _ => rfl) ..
@[simp] theorem setWorking_pending (s : State) (z : ZoneNo) (o : OpNo) (b : Option SectorNo) : (setWorking s z o b).pending = s.pending :=
  setWorking_keeps State.pending (fun _ _ => rfl) ..
@[simp] theorem workingWrite_pending (s : State) (z : ZoneNo) (o : OpNo) (b : Option SectorNo) : (workingWrite s z o b).pending = s.pending :=
  workingWrite_keeps State.pending (fun _ _ => rfl) (fun _ _ => rfl) ..
@[simp] theorem judgeShort_pending (s : State) (z : ZoneNo) (o : OpNo) (q : Nat) : (judgeShort s z o q).pending = s.pending :=
  judgeShort_keeps State.pending (fun _ _ => rfl) (fun _ _ => rfl) ..
@[simp] theorem enqueue_pending (s : State) (z : ZoneNo) : (enqueue s z).pending = s.pending :=
  enqueue_keeps State.pending (fun _ _ => rfl) ..
@[simp] theorem setGrants_pending (s : State) (z : ZoneNo) (v : Vector Nat 4) : (setGrants s z v).pending = s.pending :=
  setGrants_keeps State.pending (fun _ _ => rfl) ..
@[simp] theorem inputChange_pending (old s : State) (z : ZoneNo) : (inputChange old s z).pending = s.pending :=
  inputChange_keeps State.pending (fun _ _ => rfl) (fun _ _ => rfl) (fun _ _ => rfl) (fun _ _ => rfl) ..
@[simp] theorem inputChanges_pending (old s : State) (also : ZoneNo → Bool) : (inputChanges old s also).pending = s.pending :=
  inputChanges_keeps State.pending (fun _ _ => rfl) (fun _ _ => rfl) (fun _ _ => rfl) (fun _ _ => rfl) ..
@[simp] theorem shareChange_pending (s : State) : (shareChange s).pending = s.pending :=
  shareChange_keeps State.pending (fun _ _ => rfl) ..
@[simp] theorem startReallocation_pending (s : State) (z : ZoneNo) (rest : List ZoneNo) : (startReallocation s z rest).pending = s.pending :=
  startReallocation_keeps State.pending (fun _ _ => rfl) (fun _ _ => rfl) (fun _ _ => rfl) ..
@[simp] theorem startPreview_pending (s : State) (p : Port) (e : PreviewSlot) : (startPreview s p e).pending = s.pending :=
  startPreview_keeps State.pending (fun _ _ => rfl) (fun _ _ => rfl) (fun _ _ => rfl) (fun _ _ => rfl) ..
@[simp] theorem arbitrate_pending (s : State) : (arbitrate s).pending = s.pending :=
  arbitrate_keeps State.pending (fun _ _ => rfl) (fun _ _ => rfl) (fun _ _ => rfl) (fun _ _ => rfl) (fun _ _ => rfl) ..
@[simp] theorem endEvent_pending (old s : State) : (endEvent old s).pending = s.pending :=
  endEvent_keeps State.pending (fun _ _ => rfl) (fun _ _ => rfl) (fun _ _ => rfl) (fun _ _ => rfl) (fun _ _ => rfl) ..
@[simp] theorem writeGrants_pending (s : State) (z : ZoneNo) (v : Vector Nat 4) : (writeGrants s z v).pending = s.pending :=
  writeGrants_keeps State.pending (fun _ _ => rfl) (fun _ _ => rfl) (fun _ _ => rfl) ..
@[simp] theorem completeReallocation_pending (s : State) (z : ZoneNo) (n : Snapshot) : (completeReallocation s z n).pending = s.pending :=
  completeReallocation_keeps State.pending (fun _ _ => rfl) (fun _ _ => rfl) (fun _ _ => rfl) (fun _ _ => rfl) ..
@[simp] theorem completePreview_pending (s : State) (p : Port) (o : OpNo) (sec : Option SectorNo) (z : ZoneNo) (n : Snapshot) : (completePreview s p o sec z n).pending = s.pending :=
  completePreview_keeps State.pending (fun _ _ => rfl) (fun _ _ => rfl) ..
@[simp] theorem takeEdge_pending (s : State) (z : ZoneNo) (c : ClassNo) (bit : Bool) : (takeEdge s z c bit).pending = s.pending :=
  takeEdge_keeps State.pending (fun _ _ => rfl) (fun _ _ => rfl) ..
@[simp] theorem takeEdges_pending (s : State) (z : ZoneNo) (bits : Vector Bool 6) : (takeEdges s z bits).pending = s.pending :=
  takeEdges_keeps State.pending (fun _ _ => rfl) (fun _ _ => rfl) ..
@[simp] theorem outputNotices_pending (old s : State) (z : ZoneNo) : (outputNotices old s z).pending = s.pending :=
  outputNotices_keeps State.pending (fun _ _ => rfl) ..
@[simp] theorem takeOutputs_pending (old s : State) (z : ZoneNo) : (takeOutputs old s z).pending = s.pending :=
  takeOutputs_keeps State.pending (fun _ _ => rfl) (fun _ _ => rfl) (fun _ _ => rfl) (fun _ _ => rfl) ..
@[simp] theorem takeVector_pending (s : State) (z : ZoneNo) (bits : Vector Bool 6) : (takeVector s z bits).pending = s.pending :=
  takeVector_keeps State.pending (fun _ _ => rfl) (fun _ _ => rfl) (fun _ _ => rfl) (fun _ _ => rfl) (fun _ _ => rfl) ..
@[simp] theorem goDark_pending (old s : State) (z : ZoneNo) (cause : DarkCause) (why : WithdrawCause) : (goDark old s z cause why).pending = s.pending :=
  goDark_keeps State.pending (fun _ _ => rfl) (fun _ _ => rfl) (fun _ _ => rfl) ..
@[simp] theorem goLive_pending (old s : State) (z : ZoneNo) : (goLive old s z).pending = s.pending :=
  goLive_keeps State.pending (fun _ _ => rfl) (fun _ _ => rfl) (fun _ _ => rfl) (fun _ _ => rfl) ..
@[simp] theorem searchWord_pending (s : State) (z : ZoneNo) (good : Bool) : (searchWord s z good).pending = s.pending :=
  searchWord_keeps State.pending (fun _ _ => rfl) (fun _ _ => rfl) (fun _ _ => rfl) (fun _ _ => rfl) (fun _ _ => rfl) ..
@[simp] theorem loseLink_pending (s : State) (z : ZoneNo) (r : LinkRec) : (loseLink s z r).pending = s.pending :=
  loseLink_keeps State.pending (fun _ _ => rfl) (fun _ _ => rfl) (fun _ _ => rfl) (fun _ _ => rfl) (fun _ _ => rfl) (fun _ _ => rfl) (fun _ _ => rfl) ..
@[simp] theorem heardLinkWord_pending (s : State) (z : ZoneNo) (good : Bool) : (heardLinkWord s z good).pending = s.pending :=
  heardLinkWord_keeps State.pending (fun _ _ => rfl) (fun _ _ => rfl) (fun _ _ => rfl) (fun _ _ => rfl) (fun _ _ => rfl) (fun _ _ => rfl) (fun _ _ => rfl) ..
@[simp] theorem linkWord_pending (s : State) (z : ZoneNo) (good : Bool) : (linkWord s z good).pending = s.pending :=
  linkWord_keeps State.pending (fun _ _ => rfl) (fun _ _ => rfl) (fun _ _ => rfl) (fun _ _ => rfl) (fun _ _ => rfl) (fun _ _ => rfl) (fun _ _ => rfl) ..
@[simp] theorem takeActivity_pending (s : State) (z : ZoneNo) (x : Vector Nat 4) : (takeActivity s z x).pending = s.pending :=
  takeActivity_keeps State.pending (fun _ _ => rfl) ..
@[simp] theorem clearZoneCells_pending (s : State) (z : ZoneNo) : (clearZoneCells s z).pending = s.pending :=
  clearZoneCells_keeps State.pending (fun _ _ => rfl) ..
@[simp] theorem copyBindings_pending (s : State) : (copyBindings s).pending = s.pending :=
  copyBindings_keeps State.pending (fun _ _ => rfl) (fun _ _ => rfl) ..
@[simp] theorem moveLane_pending (old s : State) (z : ZoneNo) (o : OpNo) : (moveLane old s z o).pending = s.pending :=
  moveLane_keeps State.pending (fun _ _ => rfl) (fun _ _ => rfl) ..
@[simp] theorem takeLatch_pending (s : State) : (takeLatch s).pending = s.pending :=
  takeLatch_keeps State.pending (fun _ _ => rfl) (fun _ _ => rfl) (fun _ _ => rfl) (fun _ _ => rfl) (fun _ _ => rfl) (fun _ _ => rfl) (fun _ _ => rfl) ..
@[simp] theorem latchIfStopped_pending (s : State) : (latchIfStopped s).pending = s.pending :=
  latchIfStopped_keeps State.pending (fun _ _ => rfl) (fun _ _ => rfl) (fun _ _ => rfl) (fun _ _ => rfl) (fun _ _ => rfl) (fun _ _ => rfl) (fun _ _ => rfl) ..
@[simp] theorem latchOnEntry_pending (s : State) : (latchOnEntry s).pending = s.pending :=
  latchOnEntry_keeps State.pending (fun _ _ => rfl) (fun _ _ => rfl) (fun _ _ => rfl) (fun _ _ => rfl) (fun _ _ => rfl) (fun _ _ => rfl) (fun _ _ => rfl) ..
@[simp] theorem takeCommit_pending (s : State) : (takeCommit s).pending = s.pending :=
  takeCommit_keeps State.pending (fun _ _ => rfl) (fun _ _ => rfl) (fun _ _ => rfl) (fun _ _ => rfl) (fun _ _ => rfl) (fun _ _ => rfl) (fun _ _ => rfl) (fun _ _ => rfl) ..
@[simp] theorem commitOnEntry_pending (s : State) : (commitOnEntry s).pending = s.pending :=
  commitOnEntry_keeps State.pending (fun _ _ => rfl) (fun _ _ => rfl) (fun _ _ => rfl) (fun _ _ => rfl) (fun _ _ => rfl) (fun _ _ => rfl) (fun _ _ => rfl) (fun _ _ => rfl) ..
@[simp] theorem stopZone_pending (old s : State) (z : ZoneNo) : (stopZone old s z).pending = s.pending :=
  stopZone_keeps State.pending (fun _ _ => rfl) (fun _ _ => rfl) (fun _ _ => rfl) (fun _ _ => rfl) (fun _ _ => rfl) (fun _ _ => rfl) (fun _ _ => rfl) ..
@[simp] theorem stopLinks_pending (s : State) : (stopLinks s).pending = s.pending :=
  stopLinks_keeps State.pending (fun _ _ => rfl) (fun _ _ => rfl) (fun _ _ => rfl) (fun _ _ => rfl) (fun _ _ => rfl) (fun _ _ => rfl) (fun _ _ => rfl) (fun _ _ => rfl) (fun _ _ => rfl) (fun _ _ => rfl) ..
@[simp] theorem enterStopped_pending (s : State) : (enterStopped s).pending = s.pending :=
  enterStopped_keeps State.pending (fun _ _ => rfl) (fun _ _ => rfl) (fun _ _ => rfl) (fun _ _ => rfl) (fun _ _ => rfl) (fun _ _ => rfl) (fun _ _ => rfl) (fun _ _ => rfl) (fun _ _ => rfl) (fun _ _ => rfl) (fun _ _ => rfl) (fun _ _ => rfl) (fun _ _ => rfl) (fun _ _ => rfl) (fun _ _ => rfl) (fun _ _ => rfl) (fun _ _ => rfl) ..
@[simp] theorem shadowEntry_pending (s : State) (spoke : SpokeNo) (n : EntryNo) : (shadowEntry s spoke n).pending = s.pending :=
  shadowEntry_keeps State.pending (fun _ _ => rfl) (fun _ _ => rfl) ..
@[simp] theorem shadowSpoke_pending (s : State) (spoke : SpokeNo) : (shadowSpoke s spoke).pending = s.pending :=
  shadowSpoke_keeps State.pending (fun _ _ => rfl) (fun _ _ => rfl) ..
@[simp] theorem fillSlots_pending (s : State) : (fillSlots s).pending = s.pending :=
  fillSlots_keeps State.pending (fun _ _ => rfl) (fun _ _ => rfl) (fun _ _ => rfl) ..
@[simp] theorem countDwells_pending (s : State) : (countDwells s).pending = s.pending :=
  countDwells_keeps State.pending (fun _ _ => rfl) ..
@[simp] theorem expireRetry_pending (s : State) (z : ZoneNo) (c : ClassNo) : (expireRetry s z c).pending = s.pending :=
  expireRetry_keeps State.pending (fun _ _ => rfl) (fun _ _ => rfl) ..
@[simp] theorem countRetry_pending (s : State) (z : ZoneNo) (c : ClassNo) : (countRetry s z c).pending = s.pending :=
  countRetry_keeps State.pending (fun _ _ => rfl) (fun _ _ => rfl) ..
@[simp] theorem countZoneRetries_pending (s : State) (z : ZoneNo) : (countZoneRetries s z).pending = s.pending :=
  countZoneRetries_keeps State.pending (fun _ _ => rfl) (fun _ _ => rfl) (fun _ _ => rfl) (fun _ _ => rfl) (fun _ _ => rfl) ..
@[simp] theorem protectReaction_pending (s : State) : (protectReaction s).pending = s.pending :=
  protectReaction_keeps State.pending (fun _ _ => rfl) (fun _ _ => rfl) (fun _ _ => rfl) (fun _ _ => rfl) (fun _ _ => rfl) ..
@[simp] theorem expireProposal_pending (s : State) (o : OpNo) (p : Proposal) : (expireProposal s o p).pending = s.pending :=
  expireProposal_keeps State.pending (fun _ _ => rfl) (fun _ _ => rfl) (fun _ _ => rfl) (fun _ _ => rfl) (fun _ _ => rfl) ..
@[simp] theorem countProposal_pending (s : State) (o : OpNo) : (countProposal s o).pending = s.pending :=
  countProposal_keeps State.pending (fun _ _ => rfl) (fun _ _ => rfl) (fun _ _ => rfl) (fun _ _ => rfl) (fun _ _ => rfl) ..
@[simp] theorem setOutcome_pending (s : State) (o : OpNo) (e : EvalOutcome) : (setOutcome s o e).pending = s.pending :=
  setOutcome_keeps State.pending (fun _ _ => rfl) ..
@[simp] theorem openProposal_pending (s : State) (o : OpNo) (z : ZoneNo) (h t : SectorNo) : (openProposal s o z h t).pending = s.pending :=
  openProposal_keeps State.pending (fun _ _ => rfl) (fun _ _ => rfl) ..
@[simp] theorem evaluate_pending (s : State) (o : OpNo) : (evaluate s o).pending = s.pending :=
  evaluate_keeps State.pending (fun _ _ => rfl) (fun _ _ => rfl) (fun _ _ => rfl) (fun _ _ => rfl) ..
@[simp] theorem setEvalCount_pending (s : State) (o : OpNo) (n : Nat) : (setEvalCount s o n).pending = s.pending :=
  setEvalCount_keeps State.pending (fun _ _ => rfl) ..
@[simp] theorem runEvaluation_pending (s : State) (o : OpNo) : (runEvaluation s o).pending = s.pending :=
  runEvaluation_keeps State.pending (fun _ _ => rfl) (fun _ _ => rfl) (fun _ _ => rfl) (fun _ _ => rfl) ..
@[simp] theorem countEvaluation_pending (s : State) (o : OpNo) : (countEvaluation s o).pending = s.pending :=
  countEvaluation_keeps State.pending (fun _ _ => rfl) (fun _ _ => rfl) (fun _ _ => rfl) (fun _ _ => rfl) ..
@[simp] theorem countSettles_pending (s : State) : (countSettles s).pending = s.pending :=
  countSettles_keeps State.pending (fun _ _ => rfl) ..
@[simp] theorem spreadReaction_pending (s : State) : (spreadReaction s).pending = s.pending :=
  spreadReaction_keeps State.pending (fun _ _ => rfl) (fun _ _ => rfl) (fun _ _ => rfl) (fun _ _ => rfl) (fun _ _ => rfl) ..

end Sys2Proof.Machine
end

