-- ==== Sys2Proof/Laws/State.lean ====
section
/-! SUPPORT. One lemma per field per update of State, and per table read; each is true by unfolding. -/

namespace Sys2Proof.Machine

open Sys2Proof

variable (s : State)

/-! ## setZone -/

@[simp] theorem State.setZone_latchPending (z : ZoneNo) (r : ZoneRec) : (s.setZone z r).latchPending = s.latchPending := rfl
@[simp] theorem State.setZone_ops (z : ZoneNo) (r : ZoneRec) : (s.setZone z r).ops = s.ops := rfl
@[simp] theorem State.setZone_transport (z : ZoneNo) (r : ZoneRec) : (s.setZone z r).transport = s.transport := rfl
@[simp] theorem State.setZone_cycle (z : ZoneNo) (r : ZoneRec) : (s.setZone z r).cycle = s.cycle := rfl
@[simp] theorem State.setZone_superframe (z : ZoneNo) (r : ZoneRec) : (s.setZone z r).superframe = s.superframe := rfl
@[simp] theorem State.setZone_firstPending (z : ZoneNo) (r : ZoneRec) : (s.setZone z r).firstPending = s.firstPending := rfl
@[simp] theorem State.setZone_commitPending (z : ZoneNo) (r : ZoneRec) : (s.setZone z r).commitPending = s.commitPending := rfl
@[simp] theorem State.setZone_lastCommit (z : ZoneNo) (r : ZoneRec) : (s.setZone z r).lastCommit = s.lastCommit := rfl
@[simp] theorem State.setZone_workPlan (z : ZoneNo) (r : ZoneRec) : (s.setZone z r).workPlan = s.workPlan := rfl
@[simp] theorem State.setZone_activePlan (z : ZoneNo) (r : ZoneRec) : (s.setZone z r).activePlan = s.activePlan := rfl
@[simp] theorem State.setZone_shadows (z : ZoneNo) (r : ZoneRec) : (s.setZone z r).shadows = s.shadows := rfl
@[simp] theorem State.setZone_mark (z : ZoneNo) (r : ZoneRec) : (s.setZone z r).mark = s.mark := rfl
@[simp] theorem State.setZone_downlink (z : ZoneNo) (r : ZoneRec) : (s.setZone z r).downlink = s.downlink := rfl
@[simp] theorem State.setZone_links (z : ZoneNo) (r : ZoneRec) : (s.setZone z r).links = s.links := rfl
@[simp] theorem State.setZone_lostLimit (z : ZoneNo) (r : ZoneRec) : (s.setZone z r).lostLimit = s.lostLimit := rfl
@[simp] theorem State.setZone_prot (z : ZoneNo) (r : ZoneRec) : (s.setZone z r).prot = s.prot := rfl
@[simp] theorem State.setZone_modes (z : ZoneNo) (r : ZoneRec) : (s.setZone z r).modes = s.modes := rfl
@[simp] theorem State.setZone_tempLevel (z : ZoneNo) (r : ZoneRec) : (s.setZone z r).tempLevel = s.tempLevel := rfl
@[simp] theorem State.setZone_reflectLevel (z : ZoneNo) (r : ZoneRec) : (s.setZone z r).reflectLevel = s.reflectLevel := rfl
@[simp] theorem State.setZone_cells (z : ZoneNo) (r : ZoneRec) : (s.setZone z r).cells = s.cells := rfl
@[simp] theorem State.setZone_spread (z : ZoneNo) (r : ZoneRec) : (s.setZone z r).spread = s.spread := rfl
@[simp] theorem State.setZone_settle (z : ZoneNo) (r : ZoneRec) : (s.setZone z r).settle = s.settle := rfl
@[simp] theorem State.setZone_settleTime (z : ZoneNo) (r : ZoneRec) : (s.setZone z r).settleTime = s.settleTime := rfl
@[simp] theorem State.setZone_holdOff (z : ZoneNo) (r : ZoneRec) : (s.setZone z r).holdOff = s.holdOff := rfl
@[simp] theorem State.setZone_grants (z : ZoneNo) (r : ZoneRec) : (s.setZone z r).grants = s.grants := rfl
@[simp] theorem State.setZone_short (z : ZoneNo) (r : ZoneRec) : (s.setZone z r).short = s.short := rfl
@[simp] theorem State.setZone_realloc (z : ZoneNo) (r : ZoneRec) : (s.setZone z r).realloc = s.realloc := rfl
@[simp] theorem State.setZone_flight (z : ZoneNo) (r : ZoneRec) : (s.setZone z r).flight = s.flight := rfl
@[simp] theorem State.setZone_previews (z : ZoneNo) (r : ZoneRec) : (s.setZone z r).previews = s.previews := rfl
@[simp] theorem State.setZone_consecutive (z : ZoneNo) (r : ZoneRec) : (s.setZone z r).consecutive = s.consecutive := rfl
@[simp] theorem State.setZone_lastPort (z : ZoneNo) (r : ZoneRec) : (s.setZone z r).lastPort = s.lastPort := rfl
@[simp] theorem State.setZone_stale (z : ZoneNo) (r : ZoneRec) : (s.setZone z r).stale = s.stale := rfl
@[simp] theorem State.setZone_notices (z : ZoneNo) (r : ZoneRec) : (s.setZone z r).notices = s.notices := rfl
@[simp] theorem State.setZone_ports (z : ZoneNo) (r : ZoneRec) : (s.setZone z r).ports = s.ports := rfl
@[simp] theorem State.setZone_window (z : ZoneNo) (r : ZoneRec) : (s.setZone z r).window = s.window := rfl
@[simp] theorem State.setZone_edges (z : ZoneNo) (r : ZoneRec) : (s.setZone z r).edges = s.edges := rfl
@[simp] theorem State.setZone_pending (z : ZoneNo) (r : ZoneRec) : (s.setZone z r).pending = s.pending := rfl
@[simp] theorem State.setZone_oper (z : ZoneNo) (r : ZoneRec) (o' : OpNo) : (s.setZone z r).oper o' = s.oper o' := rfl
@[simp] theorem State.setZone_link (z : ZoneNo) (r : ZoneRec) (z' : ZoneNo) : (s.setZone z r).link z' = s.link z' := rfl
@[simp] theorem State.setZone_protRec (z : ZoneNo) (r : ZoneRec) (z' : ZoneNo) (c' : ClassNo) : (s.setZone z r).protRec z' c' = s.protRec z' c' := rfl
@[simp] theorem State.setZone_cell (z : ZoneNo) (r : ZoneRec) (z' : ZoneNo) (o' : OpNo) : (s.setZone z r).cell z' o' = s.cell z' o' := rfl
@[simp] theorem State.setZone_spreadRec (z : ZoneNo) (r : ZoneRec) (o' : OpNo) : (s.setZone z r).spreadRec o' = s.spreadRec o' := rfl
@[simp] theorem State.setZone_settleCount (z : ZoneNo) (r : ZoneRec) (z' : ZoneNo) (o' : OpNo) : (s.setZone z r).settleCount z' o' = s.settleCount z' o' := rfl
@[simp] theorem State.setZone_grant (z : ZoneNo) (r : ZoneRec) (z' : ZoneNo) (o' : OpNo) : (s.setZone z r).grant z' o' = s.grant z' o' := rfl
@[simp] theorem State.setZone_isShort (z : ZoneNo) (r : ZoneRec) (z' : ZoneNo) (o' : OpNo) : (s.setZone z r).isShort z' o' = s.isShort z' o' := rfl
@[simp] theorem State.setZone_previewSlot (z : ZoneNo) (r : ZoneRec) (p' : Port) : (s.setZone z r).previewSlot p' = s.previewSlot p' := rfl
@[simp] theorem State.setZone_noticeQueue (z : ZoneNo) (r : ZoneRec) (p' : Port) : (s.setZone z r).noticeQueue p' = s.noticeQueue p' := rfl
@[simp] theorem State.setZone_port (z : ZoneNo) (r : ZoneRec) (p' : Port) : (s.setZone z r).port p' = s.port p' := rfl
@[simp] theorem State.setZone_activeEntry (z : ZoneNo) (r : ZoneRec) (k : SpokeNo) (m : EntryNo) : (s.setZone z r).activeEntry k m = s.activeEntry k m := rfl
@[simp] theorem State.setZone_workEntry (z : ZoneNo) (r : ZoneRec) (k : SpokeNo) (m : EntryNo) : (s.setZone z r).workEntry k m = s.workEntry k m := rfl
@[simp] theorem State.setZone_shadow (z : ZoneNo) (r : ZoneRec) (k : SpokeNo) (m : EntryNo) : (s.setZone z r).shadow k m = s.shadow k m := rfl
@[simp] theorem State.setZone_sector (z : ZoneNo) (r : ZoneRec) (o' : OpNo) (k : SectorNo) : (s.setZone z r).sector o' k = s.sector o' k := rfl
@[simp] theorem State.setZone_mode (z : ZoneNo) (r : ZoneRec) (c' : ClassNo) : (s.setZone z r).mode c' = s.mode c' := rfl
@[simp] theorem State.setZone_stamp (z : ZoneNo) (r : ZoneRec) : (s.setZone z r).stamp = s.stamp := rfl

/-! ## setOper -/

@[simp] theorem State.setOper_zones (o : OpNo) (r : OpRec) : (s.setOper o r).zones = s.zones := rfl
@[simp] theorem State.setOper_latchPending (o : OpNo) (r : OpRec) : (s.setOper o r).latchPending = s.latchPending := rfl
@[simp] theorem State.setOper_transport (o : OpNo) (r : OpRec) : (s.setOper o r).transport = s.transport := rfl
@[simp] theorem State.setOper_cycle (o : OpNo) (r : OpRec) : (s.setOper o r).cycle = s.cycle := rfl
@[simp] theorem State.setOper_superframe (o : OpNo) (r : OpRec) : (s.setOper o r).superframe = s.superframe := rfl
@[simp] theorem State.setOper_firstPending (o : OpNo) (r : OpRec) : (s.setOper o r).firstPending = s.firstPending := rfl
@[simp] theorem State.setOper_commitPending (o : OpNo) (r : OpRec) : (s.setOper o r).commitPending = s.commitPending := rfl
@[simp] theorem State.setOper_lastCommit (o : OpNo) (r : OpRec) : (s.setOper o r).lastCommit = s.lastCommit := rfl
@[simp] theorem State.setOper_workPlan (o : OpNo) (r : OpRec) : (s.setOper o r).workPlan = s.workPlan := rfl
@[simp] theorem State.setOper_activePlan (o : OpNo) (r : OpRec) : (s.setOper o r).activePlan = s.activePlan := rfl
@[simp] theorem State.setOper_shadows (o : OpNo) (r : OpRec) : (s.setOper o r).shadows = s.shadows := rfl
@[simp] theorem State.setOper_mark (o : OpNo) (r : OpRec) : (s.setOper o r).mark = s.mark := rfl
@[simp] theorem State.setOper_downlink (o : OpNo) (r : OpRec) : (s.setOper o r).downlink = s.downlink := rfl
@[simp] theorem State.setOper_links (o : OpNo) (r : OpRec) : (s.setOper o r).links = s.links := rfl
@[simp] theorem State.setOper_lostLimit (o : OpNo) (r : OpRec) : (s.setOper o r).lostLimit = s.lostLimit := rfl
@[simp] theorem State.setOper_prot (o : OpNo) (r : OpRec) : (s.setOper o r).prot = s.prot := rfl
@[simp] theorem State.setOper_modes (o : OpNo) (r : OpRec) : (s.setOper o r).modes = s.modes := rfl
@[simp] theorem State.setOper_tempLevel (o : OpNo) (r : OpRec) : (s.setOper o r).tempLevel = s.tempLevel := rfl
@[simp] theorem State.setOper_reflectLevel (o : OpNo) (r : OpRec) : (s.setOper o r).reflectLevel = s.reflectLevel := rfl
@[simp] theorem State.setOper_cells (o : OpNo) (r : OpRec) : (s.setOper o r).cells = s.cells := rfl
@[simp] theorem State.setOper_spread (o : OpNo) (r : OpRec) : (s.setOper o r).spread = s.spread := rfl
@[simp] theorem State.setOper_settle (o : OpNo) (r : OpRec) : (s.setOper o r).settle = s.settle := rfl
@[simp] theorem State.setOper_settleTime (o : OpNo) (r : OpRec) : (s.setOper o r).settleTime = s.settleTime := rfl
@[simp] theorem State.setOper_holdOff (o : OpNo) (r : OpRec) : (s.setOper o r).holdOff = s.holdOff := rfl
@[simp] theorem State.setOper_grants (o : OpNo) (r : OpRec) : (s.setOper o r).grants = s.grants := rfl
@[simp] theorem State.setOper_short (o : OpNo) (r : OpRec) : (s.setOper o r).short = s.short := rfl
@[simp] theorem State.setOper_realloc (o : OpNo) (r : OpRec) : (s.setOper o r).realloc = s.realloc := rfl
@[simp] theorem State.setOper_flight (o : OpNo) (r : OpRec) : (s.setOper o r).flight = s.flight := rfl
@[simp] theorem State.setOper_previews (o : OpNo) (r : OpRec) : (s.setOper o r).previews = s.previews := rfl
@[simp] theorem State.setOper_consecutive (o : OpNo) (r : OpRec) : (s.setOper o r).consecutive = s.consecutive := rfl
@[simp] theorem State.setOper_lastPort (o : OpNo) (r : OpRec) : (s.setOper o r).lastPort = s.lastPort := rfl
@[simp] theorem State.setOper_stale (o : OpNo) (r : OpRec) : (s.setOper o r).stale = s.stale := rfl
@[simp] theorem State.setOper_notices (o : OpNo) (r : OpRec) : (s.setOper o r).notices = s.notices := rfl
@[simp] theorem State.setOper_ports (o : OpNo) (r : OpRec) : (s.setOper o r).ports = s.ports := rfl
@[simp] theorem State.setOper_window (o : OpNo) (r : OpRec) : (s.setOper o r).window = s.window := rfl
@[simp] theorem State.setOper_edges (o : OpNo) (r : OpRec) : (s.setOper o r).edges = s.edges := rfl
@[simp] theorem State.setOper_pending (o : OpNo) (r : OpRec) : (s.setOper o r).pending = s.pending := rfl
@[simp] theorem State.setOper_zone (o : OpNo) (r : OpRec) (z' : ZoneNo) : (s.setOper o r).zone z' = s.zone z' := rfl
@[simp] theorem State.setOper_working (o : OpNo) (r : OpRec) (z' : ZoneNo) (o' : OpNo) : (s.setOper o r).working z' o' = s.working z' o' := rfl
@[simp] theorem State.setOper_active (o : OpNo) (r : OpRec) (z' : ZoneNo) (o' : OpNo) : (s.setOper o r).active z' o' = s.active z' o' := rfl
@[simp] theorem State.setOper_link (o : OpNo) (r : OpRec) (z' : ZoneNo) : (s.setOper o r).link z' = s.link z' := rfl
@[simp] theorem State.setOper_protRec (o : OpNo) (r : OpRec) (z' : ZoneNo) (c' : ClassNo) : (s.setOper o r).protRec z' c' = s.protRec z' c' := rfl
@[simp] theorem State.setOper_cell (o : OpNo) (r : OpRec) (z' : ZoneNo) (o' : OpNo) : (s.setOper o r).cell z' o' = s.cell z' o' := rfl
@[simp] theorem State.setOper_spreadRec (o : OpNo) (r : OpRec) (o' : OpNo) : (s.setOper o r).spreadRec o' = s.spreadRec o' := rfl
@[simp] theorem State.setOper_settleCount (o : OpNo) (r : OpRec) (z' : ZoneNo) (o' : OpNo) : (s.setOper o r).settleCount z' o' = s.settleCount z' o' := rfl
@[simp] theorem State.setOper_grant (o : OpNo) (r : OpRec) (z' : ZoneNo) (o' : OpNo) : (s.setOper o r).grant z' o' = s.grant z' o' := rfl
@[simp] theorem State.setOper_isShort (o : OpNo) (r : OpRec) (z' : ZoneNo) (o' : OpNo) : (s.setOper o r).isShort z' o' = s.isShort z' o' := rfl
@[simp] theorem State.setOper_previewSlot (o : OpNo) (r : OpRec) (p' : Port) : (s.setOper o r).previewSlot p' = s.previewSlot p' := rfl
@[simp] theorem State.setOper_noticeQueue (o : OpNo) (r : OpRec) (p' : Port) : (s.setOper o r).noticeQueue p' = s.noticeQueue p' := rfl
@[simp] theorem State.setOper_port (o : OpNo) (r : OpRec) (p' : Port) : (s.setOper o r).port p' = s.port p' := rfl
@[simp] theorem State.setOper_activeEntry (o : OpNo) (r : OpRec) (k : SpokeNo) (m : EntryNo) : (s.setOper o r).activeEntry k m = s.activeEntry k m := rfl
@[simp] theorem State.setOper_workEntry (o : OpNo) (r : OpRec) (k : SpokeNo) (m : EntryNo) : (s.setOper o r).workEntry k m = s.workEntry k m := rfl
@[simp] theorem State.setOper_shadow (o : OpNo) (r : OpRec) (k : SpokeNo) (m : EntryNo) : (s.setOper o r).shadow k m = s.shadow k m := rfl
@[simp] theorem State.setOper_mode (o : OpNo) (r : OpRec) (c' : ClassNo) : (s.setOper o r).mode c' = s.mode c' := rfl
@[simp] theorem State.setOper_stamp (o : OpNo) (r : OpRec) : (s.setOper o r).stamp = s.stamp := rfl

/-! ## setSector -/

@[simp] theorem State.setSector_zones (o : OpNo) (sec : SectorNo) (e : SectorEntry) : (s.setSector o sec e).zones = s.zones := rfl
@[simp] theorem State.setSector_latchPending (o : OpNo) (sec : SectorNo) (e : SectorEntry) : (s.setSector o sec e).latchPending = s.latchPending := rfl
@[simp] theorem State.setSector_transport (o : OpNo) (sec : SectorNo) (e : SectorEntry) : (s.setSector o sec e).transport = s.transport := rfl
@[simp] theorem State.setSector_cycle (o : OpNo) (sec : SectorNo) (e : SectorEntry) : (s.setSector o sec e).cycle = s.cycle := rfl
@[simp] theorem State.setSector_superframe (o : OpNo) (sec : SectorNo) (e : SectorEntry) : (s.setSector o sec e).superframe = s.superframe := rfl
@[simp] theorem State.setSector_firstPending (o : OpNo) (sec : SectorNo) (e : SectorEntry) : (s.setSector o sec e).firstPending = s.firstPending := rfl
@[simp] theorem State.setSector_commitPending (o : OpNo) (sec : SectorNo) (e : SectorEntry) : (s.setSector o sec e).commitPending = s.commitPending := rfl
@[simp] theorem State.setSector_lastCommit (o : OpNo) (sec : SectorNo) (e : SectorEntry) : (s.setSector o sec e).lastCommit = s.lastCommit := rfl
@[simp] theorem State.setSector_workPlan (o : OpNo) (sec : SectorNo) (e : SectorEntry) : (s.setSector o sec e).workPlan = s.workPlan := rfl
@[simp] theorem State.setSector_activePlan (o : OpNo) (sec : SectorNo) (e : SectorEntry) : (s.setSector o sec e).activePlan = s.activePlan := rfl
@[simp] theorem State.setSector_shadows (o : OpNo) (sec : SectorNo) (e : SectorEntry) : (s.setSector o sec e).shadows = s.shadows := rfl
@[simp] theorem State.setSector_mark (o : OpNo) (sec : SectorNo) (e : SectorEntry) : (s.setSector o sec e).mark = s.mark := rfl
@[simp] theorem State.setSector_downlink (o : OpNo) (sec : SectorNo) (e : SectorEntry) : (s.setSector o sec e).downlink = s.downlink := rfl
@[simp] theorem State.setSector_links (o : OpNo) (sec : SectorNo) (e : SectorEntry) : (s.setSector o sec e).links = s.links := rfl
@[simp] theorem State.setSector_lostLimit (o : OpNo) (sec : SectorNo) (e : SectorEntry) : (s.setSector o sec e).lostLimit = s.lostLimit := rfl
@[simp] theorem State.setSector_prot (o : OpNo) (sec : SectorNo) (e : SectorEntry) : (s.setSector o sec e).prot = s.prot := rfl
@[simp] theorem State.setSector_modes (o : OpNo) (sec : SectorNo) (e : SectorEntry) : (s.setSector o sec e).modes = s.modes := rfl
@[simp] theorem State.setSector_tempLevel (o : OpNo) (sec : SectorNo) (e : SectorEntry) : (s.setSector o sec e).tempLevel = s.tempLevel := rfl
@[simp] theorem State.setSector_reflectLevel (o : OpNo) (sec : SectorNo) (e : SectorEntry) : (s.setSector o sec e).reflectLevel = s.reflectLevel := rfl
@[simp] theorem State.setSector_cells (o : OpNo) (sec : SectorNo) (e : SectorEntry) : (s.setSector o sec e).cells = s.cells := rfl
@[simp] theorem State.setSector_spread (o : OpNo) (sec : SectorNo) (e : SectorEntry) : (s.setSector o sec e).spread = s.spread := rfl
@[simp] theorem State.setSector_settle (o : OpNo) (sec : SectorNo) (e : SectorEntry) : (s.setSector o sec e).settle = s.settle := rfl
@[simp] theorem State.setSector_settleTime (o : OpNo) (sec : SectorNo) (e : SectorEntry) : (s.setSector o sec e).settleTime = s.settleTime := rfl
@[simp] theorem State.setSector_holdOff (o : OpNo) (sec : SectorNo) (e : SectorEntry) : (s.setSector o sec e).holdOff = s.holdOff := rfl
@[simp] theorem State.setSector_grants (o : OpNo) (sec : SectorNo) (e : SectorEntry) : (s.setSector o sec e).grants = s.grants := rfl
@[simp] theorem State.setSector_short (o : OpNo) (sec : SectorNo) (e : SectorEntry) : (s.setSector o sec e).short = s.short := rfl
@[simp] theorem State.setSector_realloc (o : OpNo) (sec : SectorNo) (e : SectorEntry) : (s.setSector o sec e).realloc = s.realloc := rfl
@[simp] theorem State.setSector_flight (o : OpNo) (sec : SectorNo) (e : SectorEntry) : (s.setSector o sec e).flight = s.flight := rfl
@[simp] theorem State.setSector_previews (o : OpNo) (sec : SectorNo) (e : SectorEntry) : (s.setSector o sec e).previews = s.previews := rfl
@[simp] theorem State.setSector_consecutive (o : OpNo) (sec : SectorNo) (e : SectorEntry) : (s.setSector o sec e).consecutive = s.consecutive := rfl
@[simp] theorem State.setSector_lastPort (o : OpNo) (sec : SectorNo) (e : SectorEntry) : (s.setSector o sec e).lastPort = s.lastPort := rfl
@[simp] theorem State.setSector_stale (o : OpNo) (sec : SectorNo) (e : SectorEntry) : (s.setSector o sec e).stale = s.stale := rfl
@[simp] theorem State.setSector_notices (o : OpNo) (sec : SectorNo) (e : SectorEntry) : (s.setSector o sec e).notices = s.notices := rfl
@[simp] theorem State.setSector_ports (o : OpNo) (sec : SectorNo) (e : SectorEntry) : (s.setSector o sec e).ports = s.ports := rfl
@[simp] theorem State.setSector_window (o : OpNo) (sec : SectorNo) (e : SectorEntry) : (s.setSector o sec e).window = s.window := rfl
@[simp] theorem State.setSector_edges (o : OpNo) (sec : SectorNo) (e : SectorEntry) : (s.setSector o sec e).edges = s.edges := rfl
@[simp] theorem State.setSector_pending (o : OpNo) (sec : SectorNo) (e : SectorEntry) : (s.setSector o sec e).pending = s.pending := rfl
@[simp] theorem State.setSector_zone (o : OpNo) (sec : SectorNo) (e : SectorEntry) (z' : ZoneNo) : (s.setSector o sec e).zone z' = s.zone z' := rfl
@[simp] theorem State.setSector_working (o : OpNo) (sec : SectorNo) (e : SectorEntry) (z' : ZoneNo) (o' : OpNo) : (s.setSector o sec e).working z' o' = s.working z' o' := rfl
@[simp] theorem State.setSector_active (o : OpNo) (sec : SectorNo) (e : SectorEntry) (z' : ZoneNo) (o' : OpNo) : (s.setSector o sec e).active z' o' = s.active z' o' := rfl
@[simp] theorem State.setSector_link (o : OpNo) (sec : SectorNo) (e : SectorEntry) (z' : ZoneNo) : (s.setSector o sec e).link z' = s.link z' := rfl
@[simp] theorem State.setSector_protRec (o : OpNo) (sec : SectorNo) (e : SectorEntry) (z' : ZoneNo) (c' : ClassNo) : (s.setSector o sec e).protRec z' c' = s.protRec z' c' := rfl
@[simp] theorem State.setSector_cell (o : OpNo) (sec : SectorNo) (e : SectorEntry) (z' : ZoneNo) (o' : OpNo) : (s.setSector o sec e).cell z' o' = s.cell z' o' := rfl
@[simp] theorem State.setSector_spreadRec (o : OpNo) (sec : SectorNo) (e : SectorEntry) (o' : OpNo) : (s.setSector o sec e).spreadRec o' = s.spreadRec o' := rfl
@[simp] theorem State.setSector_settleCount (o : OpNo) (sec : SectorNo) (e : SectorEntry) (z' : ZoneNo) (o' : OpNo) : (s.setSector o sec e).settleCount z' o' = s.settleCount z' o' := rfl
@[simp] theorem State.setSector_grant (o : OpNo) (sec : SectorNo) (e : SectorEntry) (z' : ZoneNo) (o' : OpNo) : (s.setSector o sec e).grant z' o' = s.grant z' o' := rfl
@[simp] theorem State.setSector_isShort (o : OpNo) (sec : SectorNo) (e : SectorEntry) (z' : ZoneNo) (o' : OpNo) : (s.setSector o sec e).isShort z' o' = s.isShort z' o' := rfl
@[simp] theorem State.setSector_previewSlot (o : OpNo) (sec : SectorNo) (e : SectorEntry) (p' : Port) : (s.setSector o sec e).previewSlot p' = s.previewSlot p' := rfl
@[simp] theorem State.setSector_noticeQueue (o : OpNo) (sec : SectorNo) (e : SectorEntry) (p' : Port) : (s.setSector o sec e).noticeQueue p' = s.noticeQueue p' := rfl
@[simp] theorem State.setSector_port (o : OpNo) (sec : SectorNo) (e : SectorEntry) (p' : Port) : (s.setSector o sec e).port p' = s.port p' := rfl
@[simp] theorem State.setSector_activeEntry (o : OpNo) (sec : SectorNo) (e : SectorEntry) (k : SpokeNo) (m : EntryNo) : (s.setSector o sec e).activeEntry k m = s.activeEntry k m := rfl
@[simp] theorem State.setSector_workEntry (o : OpNo) (sec : SectorNo) (e : SectorEntry) (k : SpokeNo) (m : EntryNo) : (s.setSector o sec e).workEntry k m = s.workEntry k m := rfl
@[simp] theorem State.setSector_shadow (o : OpNo) (sec : SectorNo) (e : SectorEntry) (k : SpokeNo) (m : EntryNo) : (s.setSector o sec e).shadow k m = s.shadow k m := rfl
@[simp] theorem State.setSector_mode (o : OpNo) (sec : SectorNo) (e : SectorEntry) (c' : ClassNo) : (s.setSector o sec e).mode c' = s.mode c' := rfl

/-! ## setLink -/

@[simp] theorem State.setLink_zones (z : ZoneNo) (r : LinkRec) : (s.setLink z r).zones = s.zones := rfl
@[simp] theorem State.setLink_latchPending (z : ZoneNo) (r : LinkRec) : (s.setLink z r).latchPending = s.latchPending := rfl
@[simp] theorem State.setLink_ops (z : ZoneNo) (r : LinkRec) : (s.setLink z r).ops = s.ops := rfl
@[simp] theorem State.setLink_transport (z : ZoneNo) (r : LinkRec) : (s.setLink z r).transport = s.transport := rfl
@[simp] theorem State.setLink_cycle (z : ZoneNo) (r : LinkRec) : (s.setLink z r).cycle = s.cycle := rfl
@[simp] theorem State.setLink_superframe (z : ZoneNo) (r : LinkRec) : (s.setLink z r).superframe = s.superframe := rfl
@[simp] theorem State.setLink_firstPending (z : ZoneNo) (r : LinkRec) : (s.setLink z r).firstPending = s.firstPending := rfl
@[simp] theorem State.setLink_commitPending (z : ZoneNo) (r : LinkRec) : (s.setLink z r).commitPending = s.commitPending := rfl
@[simp] theorem State.setLink_lastCommit (z : ZoneNo) (r : LinkRec) : (s.setLink z r).lastCommit = s.lastCommit := rfl
@[simp] theorem State.setLink_workPlan (z : ZoneNo) (r : LinkRec) : (s.setLink z r).workPlan = s.workPlan := rfl
@[simp] theorem State.setLink_activePlan (z : ZoneNo) (r : LinkRec) : (s.setLink z r).activePlan = s.activePlan := rfl
@[simp] theorem State.setLink_shadows (z : ZoneNo) (r : LinkRec) : (s.setLink z r).shadows = s.shadows := rfl
@[simp] theorem State.setLink_mark (z : ZoneNo) (r : LinkRec) : (s.setLink z r).mark = s.mark := rfl
@[simp] theorem State.setLink_downlink (z : ZoneNo) (r : LinkRec) : (s.setLink z r).downlink = s.downlink := rfl
@[simp] theorem State.setLink_lostLimit (z : ZoneNo) (r : LinkRec) : (s.setLink z r).lostLimit = s.lostLimit := rfl
@[simp] theorem State.setLink_prot (z : ZoneNo) (r : LinkRec) : (s.setLink z r).prot = s.prot := rfl
@[simp] theorem State.setLink_modes (z : ZoneNo) (r : LinkRec) : (s.setLink z r).modes = s.modes := rfl
@[simp] theorem State.setLink_tempLevel (z : ZoneNo) (r : LinkRec) : (s.setLink z r).tempLevel = s.tempLevel := rfl
@[simp] theorem State.setLink_reflectLevel (z : ZoneNo) (r : LinkRec) : (s.setLink z r).reflectLevel = s.reflectLevel := rfl
@[simp] theorem State.setLink_cells (z : ZoneNo) (r : LinkRec) : (s.setLink z r).cells = s.cells := rfl
@[simp] theorem State.setLink_spread (z : ZoneNo) (r : LinkRec) : (s.setLink z r).spread = s.spread := rfl
@[simp] theorem State.setLink_settle (z : ZoneNo) (r : LinkRec) : (s.setLink z r).settle = s.settle := rfl
@[simp] theorem State.setLink_settleTime (z : ZoneNo) (r : LinkRec) : (s.setLink z r).settleTime = s.settleTime := rfl
@[simp] theorem State.setLink_holdOff (z : ZoneNo) (r : LinkRec) : (s.setLink z r).holdOff = s.holdOff := rfl
@[simp] theorem State.setLink_grants (z : ZoneNo) (r : LinkRec) : (s.setLink z r).grants = s.grants := rfl
@[simp] theorem State.setLink_short (z : ZoneNo) (r : LinkRec) : (s.setLink z r).short = s.short := rfl
@[simp] theorem State.setLink_realloc (z : ZoneNo) (r : LinkRec) : (s.setLink z r).realloc = s.realloc := rfl
@[simp] theorem State.setLink_flight (z : ZoneNo) (r : LinkRec) : (s.setLink z r).flight = s.flight := rfl
@[simp] theorem State.setLink_previews (z : ZoneNo) (r : LinkRec) : (s.setLink z r).previews = s.previews := rfl
@[simp] theorem State.setLink_consecutive (z : ZoneNo) (r : LinkRec) : (s.setLink z r).consecutive = s.consecutive := rfl
@[simp] theorem State.setLink_lastPort (z : ZoneNo) (r : LinkRec) : (s.setLink z r).lastPort = s.lastPort := rfl
@[simp] theorem State.setLink_stale (z : ZoneNo) (r : LinkRec) : (s.setLink z r).stale = s.stale := rfl
@[simp] theorem State.setLink_notices (z : ZoneNo) (r : LinkRec) : (s.setLink z r).notices = s.notices := rfl
@[simp] theorem State.setLink_ports (z : ZoneNo) (r : LinkRec) : (s.setLink z r).ports = s.ports := rfl
@[simp] theorem State.setLink_window (z : ZoneNo) (r : LinkRec) : (s.setLink z r).window = s.window := rfl
@[simp] theorem State.setLink_edges (z : ZoneNo) (r : LinkRec) : (s.setLink z r).edges = s.edges := rfl
@[simp] theorem State.setLink_pending (z : ZoneNo) (r : LinkRec) : (s.setLink z r).pending = s.pending := rfl
@[simp] theorem State.setLink_zone (z : ZoneNo) (r : LinkRec) (z' : ZoneNo) : (s.setLink z r).zone z' = s.zone z' := rfl
@[simp] theorem State.setLink_oper (z : ZoneNo) (r : LinkRec) (o' : OpNo) : (s.setLink z r).oper o' = s.oper o' := rfl
@[simp] theorem State.setLink_working (z : ZoneNo) (r : LinkRec) (z' : ZoneNo) (o' : OpNo) : (s.setLink z r).working z' o' = s.working z' o' := rfl
@[simp] theorem State.setLink_active (z : ZoneNo) (r : LinkRec) (z' : ZoneNo) (o' : OpNo) : (s.setLink z r).active z' o' = s.active z' o' := rfl
@[simp] theorem State.setLink_protRec (z : ZoneNo) (r : LinkRec) (z' : ZoneNo) (c' : ClassNo) : (s.setLink z r).protRec z' c' = s.protRec z' c' := rfl
@[simp] theorem State.setLink_cell (z : ZoneNo) (r : LinkRec) (z' : ZoneNo) (o' : OpNo) : (s.setLink z r).cell z' o' = s.cell z' o' := rfl
@[simp] theorem State.setLink_spreadRec (z : ZoneNo) (r : LinkRec) (o' : OpNo) : (s.setLink z r).spreadRec o' = s.spreadRec o' := rfl
@[simp] theorem State.setLink_settleCount (z : ZoneNo) (r : LinkRec) (z' : ZoneNo) (o' : OpNo) : (s.setLink z r).settleCount z' o' = s.settleCount z' o' := rfl
@[simp] theorem State.setLink_grant (z : ZoneNo) (r : LinkRec) (z' : ZoneNo) (o' : OpNo) : (s.setLink z r).grant z' o' = s.grant z' o' := rfl
@[simp] theorem State.setLink_isShort (z : ZoneNo) (r : LinkRec) (z' : ZoneNo) (o' : OpNo) : (s.setLink z r).isShort z' o' = s.isShort z' o' := rfl
@[simp] theorem State.setLink_previewSlot (z : ZoneNo) (r : LinkRec) (p' : Port) : (s.setLink z r).previewSlot p' = s.previewSlot p' := rfl
@[simp] theorem State.setLink_noticeQueue (z : ZoneNo) (r : LinkRec) (p' : Port) : (s.setLink z r).noticeQueue p' = s.noticeQueue p' := rfl
@[simp] theorem State.setLink_port (z : ZoneNo) (r : LinkRec) (p' : Port) : (s.setLink z r).port p' = s.port p' := rfl
@[simp] theorem State.setLink_activeEntry (z : ZoneNo) (r : LinkRec) (k : SpokeNo) (m : EntryNo) : (s.setLink z r).activeEntry k m = s.activeEntry k m := rfl
@[simp] theorem State.setLink_workEntry (z : ZoneNo) (r : LinkRec) (k : SpokeNo) (m : EntryNo) : (s.setLink z r).workEntry k m = s.workEntry k m := rfl
@[simp] theorem State.setLink_shadow (z : ZoneNo) (r : LinkRec) (k : SpokeNo) (m : EntryNo) : (s.setLink z r).shadow k m = s.shadow k m := rfl
@[simp] theorem State.setLink_sector (z : ZoneNo) (r : LinkRec) (o' : OpNo) (k : SectorNo) : (s.setLink z r).sector o' k = s.sector o' k := rfl
@[simp] theorem State.setLink_mode (z : ZoneNo) (r : LinkRec) (c' : ClassNo) : (s.setLink z r).mode c' = s.mode c' := rfl
@[simp] theorem State.setLink_stamp (z : ZoneNo) (r : LinkRec) : (s.setLink z r).stamp = s.stamp := rfl

/-! ## setProt -/

@[simp] theorem State.setProt_zones (z : ZoneNo) (c : ClassNo) (r : ProtRec) : (s.setProt z c r).zones = s.zones := rfl
@[simp] theorem State.setProt_latchPending (z : ZoneNo) (c : ClassNo) (r : ProtRec) : (s.setProt z c r).latchPending = s.latchPending := rfl
@[simp] theorem State.setProt_ops (z : ZoneNo) (c : ClassNo) (r : ProtRec) : (s.setProt z c r).ops = s.ops := rfl
@[simp] theorem State.setProt_transport (z : ZoneNo) (c : ClassNo) (r : ProtRec) : (s.setProt z c r).transport = s.transport := rfl
@[simp] theorem State.setProt_cycle (z : ZoneNo) (c : ClassNo) (r : ProtRec) : (s.setProt z c r).cycle = s.cycle := rfl
@[simp] theorem State.setProt_superframe (z : ZoneNo) (c : ClassNo) (r : ProtRec) : (s.setProt z c r).superframe = s.superframe := rfl
@[simp] theorem State.setProt_firstPending (z : ZoneNo) (c : ClassNo) (r : ProtRec) : (s.setProt z c r).firstPending = s.firstPending := rfl
@[simp] theorem State.setProt_commitPending (z : ZoneNo) (c : ClassNo) (r : ProtRec) : (s.setProt z c r).commitPending = s.commitPending := rfl
@[simp] theorem State.setProt_lastCommit (z : ZoneNo) (c : ClassNo) (r : ProtRec) : (s.setProt z c r).lastCommit = s.lastCommit := rfl
@[simp] theorem State.setProt_workPlan (z : ZoneNo) (c : ClassNo) (r : ProtRec) : (s.setProt z c r).workPlan = s.workPlan := rfl
@[simp] theorem State.setProt_activePlan (z : ZoneNo) (c : ClassNo) (r : ProtRec) : (s.setProt z c r).activePlan = s.activePlan := rfl
@[simp] theorem State.setProt_shadows (z : ZoneNo) (c : ClassNo) (r : ProtRec) : (s.setProt z c r).shadows = s.shadows := rfl
@[simp] theorem State.setProt_mark (z : ZoneNo) (c : ClassNo) (r : ProtRec) : (s.setProt z c r).mark = s.mark := rfl
@[simp] theorem State.setProt_downlink (z : ZoneNo) (c : ClassNo) (r : ProtRec) : (s.setProt z c r).downlink = s.downlink := rfl
@[simp] theorem State.setProt_links (z : ZoneNo) (c : ClassNo) (r : ProtRec) : (s.setProt z c r).links = s.links := rfl
@[simp] theorem State.setProt_lostLimit (z : ZoneNo) (c : ClassNo) (r : ProtRec) : (s.setProt z c r).lostLimit = s.lostLimit := rfl
@[simp] theorem State.setProt_modes (z : ZoneNo) (c : ClassNo) (r : ProtRec) : (s.setProt z c r).modes = s.modes := rfl
@[simp] theorem State.setProt_tempLevel (z : ZoneNo) (c : ClassNo) (r : ProtRec) : (s.setProt z c r).tempLevel = s.tempLevel := rfl
@[simp] theorem State.setProt_reflectLevel (z : ZoneNo) (c : ClassNo) (r : ProtRec) : (s.setProt z c r).reflectLevel = s.reflectLevel := rfl
@[simp] theorem State.setProt_cells (z : ZoneNo) (c : ClassNo) (r : ProtRec) : (s.setProt z c r).cells = s.cells := rfl
@[simp] theorem State.setProt_spread (z : ZoneNo) (c : ClassNo) (r : ProtRec) : (s.setProt z c r).spread = s.spread := rfl
@[simp] theorem State.setProt_settle (z : ZoneNo) (c : ClassNo) (r : ProtRec) : (s.setProt z c r).settle = s.settle := rfl
@[simp] theorem State.setProt_settleTime (z : ZoneNo) (c : ClassNo) (r : ProtRec) : (s.setProt z c r).settleTime = s.settleTime := rfl
@[simp] theorem State.setProt_holdOff (z : ZoneNo) (c : ClassNo) (r : ProtRec) : (s.setProt z c r).holdOff = s.holdOff := rfl
@[simp] theorem State.setProt_grants (z : ZoneNo) (c : ClassNo) (r : ProtRec) : (s.setProt z c r).grants = s.grants := rfl
@[simp] theorem State.setProt_short (z : ZoneNo) (c : ClassNo) (r : ProtRec) : (s.setProt z c r).short = s.short := rfl
@[simp] theorem State.setProt_realloc (z : ZoneNo) (c : ClassNo) (r : ProtRec) : (s.setProt z c r).realloc = s.realloc := rfl
@[simp] theorem State.setProt_flight (z : ZoneNo) (c : ClassNo) (r : ProtRec) : (s.setProt z c r).flight = s.flight := rfl
@[simp] theorem State.setProt_previews (z : ZoneNo) (c : ClassNo) (r : ProtRec) : (s.setProt z c r).previews = s.previews := rfl
@[simp] theorem State.setProt_consecutive (z : ZoneNo) (c : ClassNo) (r : ProtRec) : (s.setProt z c r).consecutive = s.consecutive := rfl
@[simp] theorem State.setProt_lastPort (z : ZoneNo) (c : ClassNo) (r : ProtRec) : (s.setProt z c r).lastPort = s.lastPort := rfl
@[simp] theorem State.setProt_stale (z : ZoneNo) (c : ClassNo) (r : ProtRec) : (s.setProt z c r).stale = s.stale := rfl
@[simp] theorem State.setProt_notices (z : ZoneNo) (c : ClassNo) (r : ProtRec) : (s.setProt z c r).notices = s.notices := rfl
@[simp] theorem State.setProt_ports (z : ZoneNo) (c : ClassNo) (r : ProtRec) : (s.setProt z c r).ports = s.ports := rfl
@[simp] theorem State.setProt_window (z : ZoneNo) (c : ClassNo) (r : ProtRec) : (s.setProt z c r).window = s.window := rfl
@[simp] theorem State.setProt_edges (z : ZoneNo) (c : ClassNo) (r : ProtRec) : (s.setProt z c r).edges = s.edges := rfl
@[simp] theorem State.setProt_pending (z : ZoneNo) (c : ClassNo) (r : ProtRec) : (s.setProt z c r).pending = s.pending := rfl
@[simp] theorem State.setProt_zone (z : ZoneNo) (c : ClassNo) (r : ProtRec) (z' : ZoneNo) : (s.setProt z c r).zone z' = s.zone z' := rfl
@[simp] theorem State.setProt_oper (z : ZoneNo) (c : ClassNo) (r : ProtRec) (o' : OpNo) : (s.setProt z c r).oper o' = s.oper o' := rfl
@[simp] theorem State.setProt_working (z : ZoneNo) (c : ClassNo) (r : ProtRec) (z' : ZoneNo) (o' : OpNo) : (s.setProt z c r).working z' o' = s.working z' o' := rfl
@[simp] theorem State.setProt_active (z : ZoneNo) (c : ClassNo) (r : ProtRec) (z' : ZoneNo) (o' : OpNo) : (s.setProt z c r).active z' o' = s.active z' o' := rfl
@[simp] theorem State.setProt_link (z : ZoneNo) (c : ClassNo) (r : ProtRec) (z' : ZoneNo) : (s.setProt z c r).link z' = s.link z' := rfl
@[simp] theorem State.setProt_cell (z : ZoneNo) (c : ClassNo) (r : ProtRec) (z' : ZoneNo) (o' : OpNo) : (s.setProt z c r).cell z' o' = s.cell z' o' := rfl
@[simp] theorem State.setProt_spreadRec (z : ZoneNo) (c : ClassNo) (r : ProtRec) (o' : OpNo) : (s.setProt z c r).spreadRec o' = s.spreadRec o' := rfl
@[simp] theorem State.setProt_settleCount (z : ZoneNo) (c : ClassNo) (r : ProtRec) (z' : ZoneNo) (o' : OpNo) : (s.setProt z c r).settleCount z' o' = s.settleCount z' o' := rfl
@[simp] theorem State.setProt_grant (z : ZoneNo) (c : ClassNo) (r : ProtRec) (z' : ZoneNo) (o' : OpNo) : (s.setProt z c r).grant z' o' = s.grant z' o' := rfl
@[simp] theorem State.setProt_isShort (z : ZoneNo) (c : ClassNo) (r : ProtRec) (z' : ZoneNo) (o' : OpNo) : (s.setProt z c r).isShort z' o' = s.isShort z' o' := rfl
@[simp] theorem State.setProt_previewSlot (z : ZoneNo) (c : ClassNo) (r : ProtRec) (p' : Port) : (s.setProt z c r).previewSlot p' = s.previewSlot p' := rfl
@[simp] theorem State.setProt_noticeQueue (z : ZoneNo) (c : ClassNo) (r : ProtRec) (p' : Port) : (s.setProt z c r).noticeQueue p' = s.noticeQueue p' := rfl
@[simp] theorem State.setProt_port (z : ZoneNo) (c : ClassNo) (r : ProtRec) (p' : Port) : (s.setProt z c r).port p' = s.port p' := rfl
@[simp] theorem State.setProt_activeEntry (z : ZoneNo) (c : ClassNo) (r : ProtRec) (k : SpokeNo) (m : EntryNo) : (s.setProt z c r).activeEntry k m = s.activeEntry k m := rfl
@[simp] theorem State.setProt_workEntry (z : ZoneNo) (c : ClassNo) (r : ProtRec) (k : SpokeNo) (m : EntryNo) : (s.setProt z c r).workEntry k m = s.workEntry k m := rfl
@[simp] theorem State.setProt_shadow (z : ZoneNo) (c : ClassNo) (r : ProtRec) (k : SpokeNo) (m : EntryNo) : (s.setProt z c r).shadow k m = s.shadow k m := rfl
@[simp] theorem State.setProt_sector (z : ZoneNo) (c : ClassNo) (r : ProtRec) (o' : OpNo) (k : SectorNo) : (s.setProt z c r).sector o' k = s.sector o' k := rfl
@[simp] theorem State.setProt_mode (z : ZoneNo) (c : ClassNo) (r : ProtRec) (c' : ClassNo) : (s.setProt z c r).mode c' = s.mode c' := rfl
@[simp] theorem State.setProt_stamp (z : ZoneNo) (c : ClassNo) (r : ProtRec) : (s.setProt z c r).stamp = s.stamp := rfl

/-! ## setCell -/

@[simp] theorem State.setCell_zones (z : ZoneNo) (o : OpNo) (y : Nat) : (s.setCell z o y).zones = s.zones := rfl
@[simp] theorem State.setCell_latchPending (z : ZoneNo) (o : OpNo) (y : Nat) : (s.setCell z o y).latchPending = s.latchPending := rfl
@[simp] theorem State.setCell_ops (z : ZoneNo) (o : OpNo) (y : Nat) : (s.setCell z o y).ops = s.ops := rfl
@[simp] theorem State.setCell_transport (z : ZoneNo) (o : OpNo) (y : Nat) : (s.setCell z o y).transport = s.transport := rfl
@[simp] theorem State.setCell_cycle (z : ZoneNo) (o : OpNo) (y : Nat) : (s.setCell z o y).cycle = s.cycle := rfl
@[simp] theorem State.setCell_superframe (z : ZoneNo) (o : OpNo) (y : Nat) : (s.setCell z o y).superframe = s.superframe := rfl
@[simp] theorem State.setCell_firstPending (z : ZoneNo) (o : OpNo) (y : Nat) : (s.setCell z o y).firstPending = s.firstPending := rfl
@[simp] theorem State.setCell_commitPending (z : ZoneNo) (o : OpNo) (y : Nat) : (s.setCell z o y).commitPending = s.commitPending := rfl
@[simp] theorem State.setCell_lastCommit (z : ZoneNo) (o : OpNo) (y : Nat) : (s.setCell z o y).lastCommit = s.lastCommit := rfl
@[simp] theorem State.setCell_workPlan (z : ZoneNo) (o : OpNo) (y : Nat) : (s.setCell z o y).workPlan = s.workPlan := rfl
@[simp] theorem State.setCell_activePlan (z : ZoneNo) (o : OpNo) (y : Nat) : (s.setCell z o y).activePlan = s.activePlan := rfl
@[simp] theorem State.setCell_shadows (z : ZoneNo) (o : OpNo) (y : Nat) : (s.setCell z o y).shadows = s.shadows := rfl
@[simp] theorem State.setCell_mark (z : ZoneNo) (o : OpNo) (y : Nat) : (s.setCell z o y).mark = s.mark := rfl
@[simp] theorem State.setCell_downlink (z : ZoneNo) (o : OpNo) (y : Nat) : (s.setCell z o y).downlink = s.downlink := rfl
@[simp] theorem State.setCell_links (z : ZoneNo) (o : OpNo) (y : Nat) : (s.setCell z o y).links = s.links := rfl
@[simp] theorem State.setCell_lostLimit (z : ZoneNo) (o : OpNo) (y : Nat) : (s.setCell z o y).lostLimit = s.lostLimit := rfl
@[simp] theorem State.setCell_prot (z : ZoneNo) (o : OpNo) (y : Nat) : (s.setCell z o y).prot = s.prot := rfl
@[simp] theorem State.setCell_modes (z : ZoneNo) (o : OpNo) (y : Nat) : (s.setCell z o y).modes = s.modes := rfl
@[simp] theorem State.setCell_tempLevel (z : ZoneNo) (o : OpNo) (y : Nat) : (s.setCell z o y).tempLevel = s.tempLevel := rfl
@[simp] theorem State.setCell_reflectLevel (z : ZoneNo) (o : OpNo) (y : Nat) : (s.setCell z o y).reflectLevel = s.reflectLevel := rfl
@[simp] theorem State.setCell_spread (z : ZoneNo) (o : OpNo) (y : Nat) : (s.setCell z o y).spread = s.spread := rfl
@[simp] theorem State.setCell_settle (z : ZoneNo) (o : OpNo) (y : Nat) : (s.setCell z o y).settle = s.settle := rfl
@[simp] theorem State.setCell_settleTime (z : ZoneNo) (o : OpNo) (y : Nat) : (s.setCell z o y).settleTime = s.settleTime := rfl
@[simp] theorem State.setCell_holdOff (z : ZoneNo) (o : OpNo) (y : Nat) : (s.setCell z o y).holdOff = s.holdOff := rfl
@[simp] theorem State.setCell_grants (z : ZoneNo) (o : OpNo) (y : Nat) : (s.setCell z o y).grants = s.grants := rfl
@[simp] theorem State.setCell_short (z : ZoneNo) (o : OpNo) (y : Nat) : (s.setCell z o y).short = s.short := rfl
@[simp] theorem State.setCell_realloc (z : ZoneNo) (o : OpNo) (y : Nat) : (s.setCell z o y).realloc = s.realloc := rfl
@[simp] theorem State.setCell_flight (z : ZoneNo) (o : OpNo) (y : Nat) : (s.setCell z o y).flight = s.flight := rfl
@[simp] theorem State.setCell_previews (z : ZoneNo) (o : OpNo) (y : Nat) : (s.setCell z o y).previews = s.previews := rfl
@[simp] theorem State.setCell_consecutive (z : ZoneNo) (o : OpNo) (y : Nat) : (s.setCell z o y).consecutive = s.consecutive := rfl
@[simp] theorem State.setCell_lastPort (z : ZoneNo) (o : OpNo) (y : Nat) : (s.setCell z o y).lastPort = s.lastPort := rfl
@[simp] theorem State.setCell_stale (z : ZoneNo) (o : OpNo) (y : Nat) : (s.setCell z o y).stale = s.stale := rfl
@[simp] theorem State.setCell_notices (z : ZoneNo) (o : OpNo) (y : Nat) : (s.setCell z o y).notices = s.notices := rfl
@[simp] theorem State.setCell_ports (z : ZoneNo) (o : OpNo) (y : Nat) : (s.setCell z o y).ports = s.ports := rfl
@[simp] theorem State.setCell_window (z : ZoneNo) (o : OpNo) (y : Nat) : (s.setCell z o y).window = s.window := rfl
@[simp] theorem State.setCell_edges (z : ZoneNo) (o : OpNo) (y : Nat) : (s.setCell z o y).edges = s.edges := rfl
@[simp] theorem State.setCell_pending (z : ZoneNo) (o : OpNo) (y : Nat) : (s.setCell z o y).pending = s.pending := rfl
@[simp] theorem State.setCell_zone (z : ZoneNo) (o : OpNo) (y : Nat) (z' : ZoneNo) : (s.setCell z o y).zone z' = s.zone z' := rfl
@[simp] theorem State.setCell_oper (z : ZoneNo) (o : OpNo) (y : Nat) (o' : OpNo) : (s.setCell z o y).oper o' = s.oper o' := rfl
@[simp] theorem State.setCell_working (z : ZoneNo) (o : OpNo) (y : Nat) (z' : ZoneNo) (o' : OpNo) : (s.setCell z o y).working z' o' = s.working z' o' := rfl
@[simp] theorem State.setCell_active (z : ZoneNo) (o : OpNo) (y : Nat) (z' : ZoneNo) (o' : OpNo) : (s.setCell z o y).active z' o' = s.active z' o' := rfl
@[simp] theorem State.setCell_link (z : ZoneNo) (o : OpNo) (y : Nat) (z' : ZoneNo) : (s.setCell z o y).link z' = s.link z' := rfl
@[simp] theorem State.setCell_protRec (z : ZoneNo) (o : OpNo) (y : Nat) (z' : ZoneNo) (c' : ClassNo) : (s.setCell z o y).protRec z' c' = s.protRec z' c' := rfl
@[simp] theorem State.setCell_spreadRec (z : ZoneNo) (o : OpNo) (y : Nat) (o' : OpNo) : (s.setCell z o y).spreadRec o' = s.spreadRec o' := rfl
@[simp] theorem State.setCell_settleCount (z : ZoneNo) (o : OpNo) (y : Nat) (z' : ZoneNo) (o' : OpNo) : (s.setCell z o y).settleCount z' o' = s.settleCount z' o' := rfl
@[simp] theorem State.setCell_grant (z : ZoneNo) (o : OpNo) (y : Nat) (z' : ZoneNo) (o' : OpNo) : (s.setCell z o y).grant z' o' = s.grant z' o' := rfl
@[simp] theorem State.setCell_isShort (z : ZoneNo) (o : OpNo) (y : Nat) (z' : ZoneNo) (o' : OpNo) : (s.setCell z o y).isShort z' o' = s.isShort z' o' := rfl
@[simp] theorem State.setCell_previewSlot (z : ZoneNo) (o : OpNo) (y : Nat) (p' : Port) : (s.setCell z o y).previewSlot p' = s.previewSlot p' := rfl
@[simp] theorem State.setCell_noticeQueue (z : ZoneNo) (o : OpNo) (y : Nat) (p' : Port) : (s.setCell z o y).noticeQueue p' = s.noticeQueue p' := rfl
@[simp] theorem State.setCell_port (z : ZoneNo) (o : OpNo) (y : Nat) (p' : Port) : (s.setCell z o y).port p' = s.port p' := rfl
@[simp] theorem State.setCell_activeEntry (z : ZoneNo) (o : OpNo) (y : Nat) (k : SpokeNo) (m : EntryNo) : (s.setCell z o y).activeEntry k m = s.activeEntry k m := rfl
@[simp] theorem State.setCell_workEntry (z : ZoneNo) (o : OpNo) (y : Nat) (k : SpokeNo) (m : EntryNo) : (s.setCell z o y).workEntry k m = s.workEntry k m := rfl
@[simp] theorem State.setCell_shadow (z : ZoneNo) (o : OpNo) (y : Nat) (k : SpokeNo) (m : EntryNo) : (s.setCell z o y).shadow k m = s.shadow k m := rfl
@[simp] theorem State.setCell_sector (z : ZoneNo) (o : OpNo) (y : Nat) (o' : OpNo) (k : SectorNo) : (s.setCell z o y).sector o' k = s.sector o' k := rfl
@[simp] theorem State.setCell_mode (z : ZoneNo) (o : OpNo) (y : Nat) (c' : ClassNo) : (s.setCell z o y).mode c' = s.mode c' := rfl
@[simp] theorem State.setCell_stamp (z : ZoneNo) (o : OpNo) (y : Nat) : (s.setCell z o y).stamp = s.stamp := rfl

/-! ## setSpread -/

@[simp] theorem State.setSpread_zones (o : OpNo) (r : SpreadRec) : (s.setSpread o r).zones = s.zones := rfl
@[simp] theorem State.setSpread_latchPending (o : OpNo) (r : SpreadRec) : (s.setSpread o r).latchPending = s.latchPending := rfl
@[simp] theorem State.setSpread_ops (o : OpNo) (r : SpreadRec) : (s.setSpread o r).ops = s.ops := rfl
@[simp] theorem State.setSpread_transport (o : OpNo) (r : SpreadRec) : (s.setSpread o r).transport = s.transport := rfl
@[simp] theorem State.setSpread_cycle (o : OpNo) (r : SpreadRec) : (s.setSpread o r).cycle = s.cycle := rfl
@[simp] theorem State.setSpread_superframe (o : OpNo) (r : SpreadRec) : (s.setSpread o r).superframe = s.superframe := rfl
@[simp] theorem State.setSpread_firstPending (o : OpNo) (r : SpreadRec) : (s.setSpread o r).firstPending = s.firstPending := rfl
@[simp] theorem State.setSpread_commitPending (o : OpNo) (r : SpreadRec) : (s.setSpread o r).commitPending = s.commitPending := rfl
@[simp] theorem State.setSpread_lastCommit (o : OpNo) (r : SpreadRec) : (s.setSpread o r).lastCommit = s.lastCommit := rfl
@[simp] theorem State.setSpread_workPlan (o : OpNo) (r : SpreadRec) : (s.setSpread o r).workPlan = s.workPlan := rfl
@[simp] theorem State.setSpread_activePlan (o : OpNo) (r : SpreadRec) : (s.setSpread o r).activePlan = s.activePlan := rfl
@[simp] theorem State.setSpread_shadows (o : OpNo) (r : SpreadRec) : (s.setSpread o r).shadows = s.shadows := rfl
@[simp] theorem State.setSpread_mark (o : OpNo) (r : SpreadRec) : (s.setSpread o r).mark = s.mark := rfl
@[simp] theorem State.setSpread_downlink (o : OpNo) (r : SpreadRec) : (s.setSpread o r).downlink = s.downlink := rfl
@[simp] theorem State.setSpread_links (o : OpNo) (r : SpreadRec) : (s.setSpread o r).links = s.links := rfl
@[simp] theorem State.setSpread_lostLimit (o : OpNo) (r : SpreadRec) : (s.setSpread o r).lostLimit = s.lostLimit := rfl
@[simp] theorem State.setSpread_prot (o : OpNo) (r : SpreadRec) : (s.setSpread o r).prot = s.prot := rfl
@[simp] theorem State.setSpread_modes (o : OpNo) (r : SpreadRec) : (s.setSpread o r).modes = s.modes := rfl
@[simp] theorem State.setSpread_tempLevel (o : OpNo) (r : SpreadRec) : (s.setSpread o r).tempLevel = s.tempLevel := rfl
@[simp] theorem State.setSpread_reflectLevel (o : OpNo) (r : SpreadRec) : (s.setSpread o r).reflectLevel = s.reflectLevel := rfl
@[simp] theorem State.setSpread_cells (o : OpNo) (r : SpreadRec) : (s.setSpread o r).cells = s.cells := rfl
@[simp] theorem State.setSpread_settle (o : OpNo) (r : SpreadRec) : (s.setSpread o r).settle = s.settle := rfl
@[simp] theorem State.setSpread_settleTime (o : OpNo) (r : SpreadRec) : (s.setSpread o r).settleTime = s.settleTime := rfl
@[simp] theorem State.setSpread_holdOff (o : OpNo) (r : SpreadRec) : (s.setSpread o r).holdOff = s.holdOff := rfl
@[simp] theorem State.setSpread_grants (o : OpNo) (r : SpreadRec) : (s.setSpread o r).grants = s.grants := rfl
@[simp] theorem State.setSpread_short (o : OpNo) (r : SpreadRec) : (s.setSpread o r).short = s.short := rfl
@[simp] theorem State.setSpread_realloc (o : OpNo) (r : SpreadRec) : (s.setSpread o r).realloc = s.realloc := rfl
@[simp] theorem State.setSpread_flight (o : OpNo) (r : SpreadRec) : (s.setSpread o r).flight = s.flight := rfl
@[simp] theorem State.setSpread_previews (o : OpNo) (r : SpreadRec) : (s.setSpread o r).previews = s.previews := rfl
@[simp] theorem State.setSpread_consecutive (o : OpNo) (r : SpreadRec) : (s.setSpread o r).consecutive = s.consecutive := rfl
@[simp] theorem State.setSpread_lastPort (o : OpNo) (r : SpreadRec) : (s.setSpread o r).lastPort = s.lastPort := rfl
@[simp] theorem State.setSpread_stale (o : OpNo) (r : SpreadRec) : (s.setSpread o r).stale = s.stale := rfl
@[simp] theorem State.setSpread_notices (o : OpNo) (r : SpreadRec) : (s.setSpread o r).notices = s.notices := rfl
@[simp] theorem State.setSpread_ports (o : OpNo) (r : SpreadRec) : (s.setSpread o r).ports = s.ports := rfl
@[simp] theorem State.setSpread_window (o : OpNo) (r : SpreadRec) : (s.setSpread o r).window = s.window := rfl
@[simp] theorem State.setSpread_edges (o : OpNo) (r : SpreadRec) : (s.setSpread o r).edges = s.edges := rfl
@[simp] theorem State.setSpread_pending (o : OpNo) (r : SpreadRec) : (s.setSpread o r).pending = s.pending := rfl
@[simp] theorem State.setSpread_zone (o : OpNo) (r : SpreadRec) (z' : ZoneNo) : (s.setSpread o r).zone z' = s.zone z' := rfl
@[simp] theorem State.setSpread_oper (o : OpNo) (r : SpreadRec) (o' : OpNo) : (s.setSpread o r).oper o' = s.oper o' := rfl
@[simp] theorem State.setSpread_working (o : OpNo) (r : SpreadRec) (z' : ZoneNo) (o' : OpNo) : (s.setSpread o r).working z' o' = s.working z' o' := rfl
@[simp] theorem State.setSpread_active (o : OpNo) (r : SpreadRec) (z' : ZoneNo) (o' : OpNo) : (s.setSpread o r).active z' o' = s.active z' o' := rfl
@[simp] theorem State.setSpread_link (o : OpNo) (r : SpreadRec) (z' : ZoneNo) : (s.setSpread o r).link z' = s.link z' := rfl
@[simp] theorem State.setSpread_protRec (o : OpNo) (r : SpreadRec) (z' : ZoneNo) (c' : ClassNo) : (s.setSpread o r).protRec z' c' = s.protRec z' c' := rfl
@[simp] theorem State.setSpread_cell (o : OpNo) (r : SpreadRec) (z' : ZoneNo) (o' : OpNo) : (s.setSpread o r).cell z' o' = s.cell z' o' := rfl
@[simp] theorem State.setSpread_settleCount (o : OpNo) (r : SpreadRec) (z' : ZoneNo) (o' : OpNo) : (s.setSpread o r).settleCount z' o' = s.settleCount z' o' := rfl
@[simp] theorem State.setSpread_grant (o : OpNo) (r : SpreadRec) (z' : ZoneNo) (o' : OpNo) : (s.setSpread o r).grant z' o' = s.grant z' o' := rfl
@[simp] theorem State.setSpread_isShort (o : OpNo) (r : SpreadRec) (z' : ZoneNo) (o' : OpNo) : (s.setSpread o r).isShort z' o' = s.isShort z' o' := rfl
@[simp] theorem State.setSpread_previewSlot (o : OpNo) (r : SpreadRec) (p' : Port) : (s.setSpread o r).previewSlot p' = s.previewSlot p' := rfl
@[simp] theorem State.setSpread_noticeQueue (o : OpNo) (r : SpreadRec) (p' : Port) : (s.setSpread o r).noticeQueue p' = s.noticeQueue p' := rfl
@[simp] theorem State.setSpread_port (o : OpNo) (r : SpreadRec) (p' : Port) : (s.setSpread o r).port p' = s.port p' := rfl
@[simp] theorem State.setSpread_activeEntry (o : OpNo) (r : SpreadRec) (k : SpokeNo) (m : EntryNo) : (s.setSpread o r).activeEntry k m = s.activeEntry k m := rfl
@[simp] theorem State.setSpread_workEntry (o : OpNo) (r : SpreadRec) (k : SpokeNo) (m : EntryNo) : (s.setSpread o r).workEntry k m = s.workEntry k m := rfl
@[simp] theorem State.setSpread_shadow (o : OpNo) (r : SpreadRec) (k : SpokeNo) (m : EntryNo) : (s.setSpread o r).shadow k m = s.shadow k m := rfl
@[simp] theorem State.setSpread_sector (o : OpNo) (r : SpreadRec) (o' : OpNo) (k : SectorNo) : (s.setSpread o r).sector o' k = s.sector o' k := rfl
@[simp] theorem State.setSpread_mode (o : OpNo) (r : SpreadRec) (c' : ClassNo) : (s.setSpread o r).mode c' = s.mode c' := rfl
@[simp] theorem State.setSpread_stamp (o : OpNo) (r : SpreadRec) : (s.setSpread o r).stamp = s.stamp := rfl

/-! ## setSettle -/

@[simp] theorem State.setSettle_zones (z : ZoneNo) (o : OpNo) (n : Nat) : (s.setSettle z o n).zones = s.zones := rfl
@[simp] theorem State.setSettle_latchPending (z : ZoneNo) (o : OpNo) (n : Nat) : (s.setSettle z o n).latchPending = s.latchPending := rfl
@[simp] theorem State.setSettle_ops (z : ZoneNo) (o : OpNo) (n : Nat) : (s.setSettle z o n).ops = s.ops := rfl
@[simp] theorem State.setSettle_transport (z : ZoneNo) (o : OpNo) (n : Nat) : (s.setSettle z o n).transport = s.transport := rfl
@[simp] theorem State.setSettle_cycle (z : ZoneNo) (o : OpNo) (n : Nat) : (s.setSettle z o n).cycle = s.cycle := rfl
@[simp] theorem State.setSettle_superframe (z : ZoneNo) (o : OpNo) (n : Nat) : (s.setSettle z o n).superframe = s.superframe := rfl
@[simp] theorem State.setSettle_firstPending (z : ZoneNo) (o : OpNo) (n : Nat) : (s.setSettle z o n).firstPending = s.firstPending := rfl
@[simp] theorem State.setSettle_commitPending (z : ZoneNo) (o : OpNo) (n : Nat) : (s.setSettle z o n).commitPending = s.commitPending := rfl
@[simp] theorem State.setSettle_lastCommit (z : ZoneNo) (o : OpNo) (n : Nat) : (s.setSettle z o n).lastCommit = s.lastCommit := rfl
@[simp] theorem State.setSettle_workPlan (z : ZoneNo) (o : OpNo) (n : Nat) : (s.setSettle z o n).workPlan = s.workPlan := rfl
@[simp] theorem State.setSettle_activePlan (z : ZoneNo) (o : OpNo) (n : Nat) : (s.setSettle z o n).activePlan = s.activePlan := rfl
@[simp] theorem State.setSettle_shadows (z : ZoneNo) (o : OpNo) (n : Nat) : (s.setSettle z o n).shadows = s.shadows := rfl
@[simp] theorem State.setSettle_mark (z : ZoneNo) (o : OpNo) (n : Nat) : (s.setSettle z o n).mark = s.mark := rfl
@[simp] theorem State.setSettle_downlink (z : ZoneNo) (o : OpNo) (n : Nat) : (s.setSettle z o n).downlink = s.downlink := rfl
@[simp] theorem State.setSettle_links (z : ZoneNo) (o : OpNo) (n : Nat) : (s.setSettle z o n).links = s.links := rfl
@[simp] theorem State.setSettle_lostLimit (z : ZoneNo) (o : OpNo) (n : Nat) : (s.setSettle z o n).lostLimit = s.lostLimit := rfl
@[simp] theorem State.setSettle_prot (z : ZoneNo) (o : OpNo) (n : Nat) : (s.setSettle z o n).prot = s.prot := rfl
@[simp] theorem State.setSettle_modes (z : ZoneNo) (o : OpNo) (n : Nat) : (s.setSettle z o n).modes = s.modes := rfl
@[simp] theorem State.setSettle_tempLevel (z : ZoneNo) (o : OpNo) (n : Nat) : (s.setSettle z o n).tempLevel = s.tempLevel := rfl
@[simp] theorem State.setSettle_reflectLevel (z : ZoneNo) (o : OpNo) (n : Nat) : (s.setSettle z o n).reflectLevel = s.reflectLevel := rfl
@[simp] theorem State.setSettle_cells (z : ZoneNo) (o : OpNo) (n : Nat) : (s.setSettle z o n).cells = s.cells := rfl
@[simp] theorem State.setSettle_spread (z : ZoneNo) (o : OpNo) (n : Nat) : (s.setSettle z o n).spread = s.spread := rfl
@[simp] theorem State.setSettle_settleTime (z : ZoneNo) (o : OpNo) (n : Nat) : (s.setSettle z o n).settleTime = s.settleTime := rfl
@[simp] theorem State.setSettle_holdOff (z : ZoneNo) (o : OpNo) (n : Nat) : (s.setSettle z o n).holdOff = s.holdOff := rfl
@[simp] theorem State.setSettle_grants (z : ZoneNo) (o : OpNo) (n : Nat) : (s.setSettle z o n).grants = s.grants := rfl
@[simp] theorem State.setSettle_short (z : ZoneNo) (o : OpNo) (n : Nat) : (s.setSettle z o n).short = s.short := rfl
@[simp] theorem State.setSettle_realloc (z : ZoneNo) (o : OpNo) (n : Nat) : (s.setSettle z o n).realloc = s.realloc := rfl
@[simp] theorem State.setSettle_flight (z : ZoneNo) (o : OpNo) (n : Nat) : (s.setSettle z o n).flight = s.flight := rfl
@[simp] theorem State.setSettle_previews (z : ZoneNo) (o : OpNo) (n : Nat) : (s.setSettle z o n).previews = s.previews := rfl
@[simp] theorem State.setSettle_consecutive (z : ZoneNo) (o : OpNo) (n : Nat) : (s.setSettle z o n).consecutive = s.consecutive := rfl
@[simp] theorem State.setSettle_lastPort (z : ZoneNo) (o : OpNo) (n : Nat) : (s.setSettle z o n).lastPort = s.lastPort := rfl
@[simp] theorem State.setSettle_stale (z : ZoneNo) (o : OpNo) (n : Nat) : (s.setSettle z o n).stale = s.stale := rfl
@[simp] theorem State.setSettle_notices (z : ZoneNo) (o : OpNo) (n : Nat) : (s.setSettle z o n).notices = s.notices := rfl
@[simp] theorem State.setSettle_ports (z : ZoneNo) (o : OpNo) (n : Nat) : (s.setSettle z o n).ports = s.ports := rfl
@[simp] theorem State.setSettle_window (z : ZoneNo) (o : OpNo) (n : Nat) : (s.setSettle z o n).window = s.window := rfl
@[simp] theorem State.setSettle_edges (z : ZoneNo) (o : OpNo) (n : Nat) : (s.setSettle z o n).edges = s.edges := rfl
@[simp] theorem State.setSettle_pending (z : ZoneNo) (o : OpNo) (n : Nat) : (s.setSettle z o n).pending = s.pending := rfl
@[simp] theorem State.setSettle_zone (z : ZoneNo) (o : OpNo) (n : Nat) (z' : ZoneNo) : (s.setSettle z o n).zone z' = s.zone z' := rfl
@[simp] theorem State.setSettle_oper (z : ZoneNo) (o : OpNo) (n : Nat) (o' : OpNo) : (s.setSettle z o n).oper o' = s.oper o' := rfl
@[simp] theorem State.setSettle_working (z : ZoneNo) (o : OpNo) (n : Nat) (z' : ZoneNo) (o' : OpNo) : (s.setSettle z o n).working z' o' = s.working z' o' := rfl
@[simp] theorem State.setSettle_active (z : ZoneNo) (o : OpNo) (n : Nat) (z' : ZoneNo) (o' : OpNo) : (s.setSettle z o n).active z' o' = s.active z' o' := rfl
@[simp] theorem State.setSettle_link (z : ZoneNo) (o : OpNo) (n : Nat) (z' : ZoneNo) : (s.setSettle z o n).link z' = s.link z' := rfl
@[simp] theorem State.setSettle_protRec (z : ZoneNo) (o : OpNo) (n : Nat) (z' : ZoneNo) (c' : ClassNo) : (s.setSettle z o n).protRec z' c' = s.protRec z' c' := rfl
@[simp] theorem State.setSettle_cell (z : ZoneNo) (o : OpNo) (n : Nat) (z' : ZoneNo) (o' : OpNo) : (s.setSettle z o n).cell z' o' = s.cell z' o' := rfl
@[simp] theorem State.setSettle_spreadRec (z : ZoneNo) (o : OpNo) (n : Nat) (o' : OpNo) : (s.setSettle z o n).spreadRec o' = s.spreadRec o' := rfl
@[simp] theorem State.setSettle_grant (z : ZoneNo) (o : OpNo) (n : Nat) (z' : ZoneNo) (o' : OpNo) : (s.setSettle z o n).grant z' o' = s.grant z' o' := rfl
@[simp] theorem State.setSettle_isShort (z : ZoneNo) (o : OpNo) (n : Nat) (z' : ZoneNo) (o' : OpNo) : (s.setSettle z o n).isShort z' o' = s.isShort z' o' := rfl
@[simp] theorem State.setSettle_previewSlot (z : ZoneNo) (o : OpNo) (n : Nat) (p' : Port) : (s.setSettle z o n).previewSlot p' = s.previewSlot p' := rfl
@[simp] theorem State.setSettle_noticeQueue (z : ZoneNo) (o : OpNo) (n : Nat) (p' : Port) : (s.setSettle z o n).noticeQueue p' = s.noticeQueue p' := rfl
@[simp] theorem State.setSettle_port (z : ZoneNo) (o : OpNo) (n : Nat) (p' : Port) : (s.setSettle z o n).port p' = s.port p' := rfl
@[simp] theorem State.setSettle_activeEntry (z : ZoneNo) (o : OpNo) (n : Nat) (k : SpokeNo) (m : EntryNo) : (s.setSettle z o n).activeEntry k m = s.activeEntry k m := rfl
@[simp] theorem State.setSettle_workEntry (z : ZoneNo) (o : OpNo) (n : Nat) (k : SpokeNo) (m : EntryNo) : (s.setSettle z o n).workEntry k m = s.workEntry k m := rfl
@[simp] theorem State.setSettle_shadow (z : ZoneNo) (o : OpNo) (n : Nat) (k : SpokeNo) (m : EntryNo) : (s.setSettle z o n).shadow k m = s.shadow k m := rfl
@[simp] theorem State.setSettle_sector (z : ZoneNo) (o : OpNo) (n : Nat) (o' : OpNo) (k : SectorNo) : (s.setSettle z o n).sector o' k = s.sector o' k := rfl
@[simp] theorem State.setSettle_mode (z : ZoneNo) (o : OpNo) (n : Nat) (c' : ClassNo) : (s.setSettle z o n).mode c' = s.mode c' := rfl
@[simp] theorem State.setSettle_stamp (z : ZoneNo) (o : OpNo) (n : Nat) : (s.setSettle z o n).stamp = s.stamp := rfl

/-! ## setShort -/

@[simp] theorem State.setShort_zones (z : ZoneNo) (o : OpNo) (b : Bool) : (s.setShort z o b).zones = s.zones := rfl
@[simp] theorem State.setShort_latchPending (z : ZoneNo) (o : OpNo) (b : Bool) : (s.setShort z o b).latchPending = s.latchPending := rfl
@[simp] theorem State.setShort_ops (z : ZoneNo) (o : OpNo) (b : Bool) : (s.setShort z o b).ops = s.ops := rfl
@[simp] theorem State.setShort_transport (z : ZoneNo) (o : OpNo) (b : Bool) : (s.setShort z o b).transport = s.transport := rfl
@[simp] theorem State.setShort_cycle (z : ZoneNo) (o : OpNo) (b : Bool) : (s.setShort z o b).cycle = s.cycle := rfl
@[simp] theorem State.setShort_superframe (z : ZoneNo) (o : OpNo) (b : Bool) : (s.setShort z o b).superframe = s.superframe := rfl
@[simp] theorem State.setShort_firstPending (z : ZoneNo) (o : OpNo) (b : Bool) : (s.setShort z o b).firstPending = s.firstPending := rfl
@[simp] theorem State.setShort_commitPending (z : ZoneNo) (o : OpNo) (b : Bool) : (s.setShort z o b).commitPending = s.commitPending := rfl
@[simp] theorem State.setShort_lastCommit (z : ZoneNo) (o : OpNo) (b : Bool) : (s.setShort z o b).lastCommit = s.lastCommit := rfl
@[simp] theorem State.setShort_workPlan (z : ZoneNo) (o : OpNo) (b : Bool) : (s.setShort z o b).workPlan = s.workPlan := rfl
@[simp] theorem State.setShort_activePlan (z : ZoneNo) (o : OpNo) (b : Bool) : (s.setShort z o b).activePlan = s.activePlan := rfl
@[simp] theorem State.setShort_shadows (z : ZoneNo) (o : OpNo) (b : Bool) : (s.setShort z o b).shadows = s.shadows := rfl
@[simp] theorem State.setShort_mark (z : ZoneNo) (o : OpNo) (b : Bool) : (s.setShort z o b).mark = s.mark := rfl
@[simp] theorem State.setShort_downlink (z : ZoneNo) (o : OpNo) (b : Bool) : (s.setShort z o b).downlink = s.downlink := rfl
@[simp] theorem State.setShort_links (z : ZoneNo) (o : OpNo) (b : Bool) : (s.setShort z o b).links = s.links := rfl
@[simp] theorem State.setShort_lostLimit (z : ZoneNo) (o : OpNo) (b : Bool) : (s.setShort z o b).lostLimit = s.lostLimit := rfl
@[simp] theorem State.setShort_prot (z : ZoneNo) (o : OpNo) (b : Bool) : (s.setShort z o b).prot = s.prot := rfl
@[simp] theorem State.setShort_modes (z : ZoneNo) (o : OpNo) (b : Bool) : (s.setShort z o b).modes = s.modes := rfl
@[simp] theorem State.setShort_tempLevel (z : ZoneNo) (o : OpNo) (b : Bool) : (s.setShort z o b).tempLevel = s.tempLevel := rfl
@[simp] theorem State.setShort_reflectLevel (z : ZoneNo) (o : OpNo) (b : Bool) : (s.setShort z o b).reflectLevel = s.reflectLevel := rfl
@[simp] theorem State.setShort_cells (z : ZoneNo) (o : OpNo) (b : Bool) : (s.setShort z o b).cells = s.cells := rfl
@[simp] theorem State.setShort_spread (z : ZoneNo) (o : OpNo) (b : Bool) : (s.setShort z o b).spread = s.spread := rfl
@[simp] theorem State.setShort_settle (z : ZoneNo) (o : OpNo) (b : Bool) : (s.setShort z o b).settle = s.settle := rfl
@[simp] theorem State.setShort_settleTime (z : ZoneNo) (o : OpNo) (b : Bool) : (s.setShort z o b).settleTime = s.settleTime := rfl
@[simp] theorem State.setShort_holdOff (z : ZoneNo) (o : OpNo) (b : Bool) : (s.setShort z o b).holdOff = s.holdOff := rfl
@[simp] theorem State.setShort_grants (z : ZoneNo) (o : OpNo) (b : Bool) : (s.setShort z o b).grants = s.grants := rfl
@[simp] theorem State.setShort_realloc (z : ZoneNo) (o : OpNo) (b : Bool) : (s.setShort z o b).realloc = s.realloc := rfl
@[simp] theorem State.setShort_flight (z : ZoneNo) (o : OpNo) (b : Bool) : (s.setShort z o b).flight = s.flight := rfl
@[simp] theorem State.setShort_previews (z : ZoneNo) (o : OpNo) (b : Bool) : (s.setShort z o b).previews = s.previews := rfl
@[simp] theorem State.setShort_consecutive (z : ZoneNo) (o : OpNo) (b : Bool) : (s.setShort z o b).consecutive = s.consecutive := rfl
@[simp] theorem State.setShort_lastPort (z : ZoneNo) (o : OpNo) (b : Bool) : (s.setShort z o b).lastPort = s.lastPort := rfl
@[simp] theorem State.setShort_stale (z : ZoneNo) (o : OpNo) (b : Bool) : (s.setShort z o b).stale = s.stale := rfl
@[simp] theorem State.setShort_notices (z : ZoneNo) (o : OpNo) (b : Bool) : (s.setShort z o b).notices = s.notices := rfl
@[simp] theorem State.setShort_ports (z : ZoneNo) (o : OpNo) (b : Bool) : (s.setShort z o b).ports = s.ports := rfl
@[simp] theorem State.setShort_window (z : ZoneNo) (o : OpNo) (b : Bool) : (s.setShort z o b).window = s.window := rfl
@[simp] theorem State.setShort_edges (z : ZoneNo) (o : OpNo) (b : Bool) : (s.setShort z o b).edges = s.edges := rfl
@[simp] theorem State.setShort_pending (z : ZoneNo) (o : OpNo) (b : Bool) : (s.setShort z o b).pending = s.pending := rfl
@[simp] theorem State.setShort_zone (z : ZoneNo) (o : OpNo) (b : Bool) (z' : ZoneNo) : (s.setShort z o b).zone z' = s.zone z' := rfl
@[simp] theorem State.setShort_oper (z : ZoneNo) (o : OpNo) (b : Bool) (o' : OpNo) : (s.setShort z o b).oper o' = s.oper o' := rfl
@[simp] theorem State.setShort_working (z : ZoneNo) (o : OpNo) (b : Bool) (z' : ZoneNo) (o' : OpNo) : (s.setShort z o b).working z' o' = s.working z' o' := rfl
@[simp] theorem State.setShort_active (z : ZoneNo) (o : OpNo) (b : Bool) (z' : ZoneNo) (o' : OpNo) : (s.setShort z o b).active z' o' = s.active z' o' := rfl
@[simp] theorem State.setShort_link (z : ZoneNo) (o : OpNo) (b : Bool) (z' : ZoneNo) : (s.setShort z o b).link z' = s.link z' := rfl
@[simp] theorem State.setShort_protRec (z : ZoneNo) (o : OpNo) (b : Bool) (z' : ZoneNo) (c' : ClassNo) : (s.setShort z o b).protRec z' c' = s.protRec z' c' := rfl
@[simp] theorem State.setShort_cell (z : ZoneNo) (o : OpNo) (b : Bool) (z' : ZoneNo) (o' : OpNo) : (s.setShort z o b).cell z' o' = s.cell z' o' := rfl
@[simp] theorem State.setShort_spreadRec (z : ZoneNo) (o : OpNo) (b : Bool) (o' : OpNo) : (s.setShort z o b).spreadRec o' = s.spreadRec o' := rfl
@[simp] theorem State.setShort_settleCount (z : ZoneNo) (o : OpNo) (b : Bool) (z' : ZoneNo) (o' : OpNo) : (s.setShort z o b).settleCount z' o' = s.settleCount z' o' := rfl
@[simp] theorem State.setShort_grant (z : ZoneNo) (o : OpNo) (b : Bool) (z' : ZoneNo) (o' : OpNo) : (s.setShort z o b).grant z' o' = s.grant z' o' := rfl
@[simp] theorem State.setShort_previewSlot (z : ZoneNo) (o : OpNo) (b : Bool) (p' : Port) : (s.setShort z o b).previewSlot p' = s.previewSlot p' := rfl
@[simp] theorem State.setShort_noticeQueue (z : ZoneNo) (o : OpNo) (b : Bool) (p' : Port) : (s.setShort z o b).noticeQueue p' = s.noticeQueue p' := rfl
@[simp] theorem State.setShort_port (z : ZoneNo) (o : OpNo) (b : Bool) (p' : Port) : (s.setShort z o b).port p' = s.port p' := rfl
@[simp] theorem State.setShort_activeEntry (z : ZoneNo) (o : OpNo) (b : Bool) (k : SpokeNo) (m : EntryNo) : (s.setShort z o b).activeEntry k m = s.activeEntry k m := rfl
@[simp] theorem State.setShort_workEntry (z : ZoneNo) (o : OpNo) (b : Bool) (k : SpokeNo) (m : EntryNo) : (s.setShort z o b).workEntry k m = s.workEntry k m := rfl
@[simp] theorem State.setShort_shadow (z : ZoneNo) (o : OpNo) (b : Bool) (k : SpokeNo) (m : EntryNo) : (s.setShort z o b).shadow k m = s.shadow k m := rfl
@[simp] theorem State.setShort_sector (z : ZoneNo) (o : OpNo) (b : Bool) (o' : OpNo) (k : SectorNo) : (s.setShort z o b).sector o' k = s.sector o' k := rfl
@[simp] theorem State.setShort_mode (z : ZoneNo) (o : OpNo) (b : Bool) (c' : ClassNo) : (s.setShort z o b).mode c' = s.mode c' := rfl
@[simp] theorem State.setShort_stamp (z : ZoneNo) (o : OpNo) (b : Bool) : (s.setShort z o b).stamp = s.stamp := rfl

/-! ## setPreview -/

@[simp] theorem State.setPreview_zones (p : Port) (e : Option PreviewSlot) : (s.setPreview p e).zones = s.zones := rfl
@[simp] theorem State.setPreview_latchPending (p : Port) (e : Option PreviewSlot) : (s.setPreview p e).latchPending = s.latchPending := rfl
@[simp] theorem State.setPreview_ops (p : Port) (e : Option PreviewSlot) : (s.setPreview p e).ops = s.ops := rfl
@[simp] theorem State.setPreview_transport (p : Port) (e : Option PreviewSlot) : (s.setPreview p e).transport = s.transport := rfl
@[simp] theorem State.setPreview_cycle (p : Port) (e : Option PreviewSlot) : (s.setPreview p e).cycle = s.cycle := rfl
@[simp] theorem State.setPreview_superframe (p : Port) (e : Option PreviewSlot) : (s.setPreview p e).superframe = s.superframe := rfl
@[simp] theorem State.setPreview_firstPending (p : Port) (e : Option PreviewSlot) : (s.setPreview p e).firstPending = s.firstPending := rfl
@[simp] theorem State.setPreview_commitPending (p : Port) (e : Option PreviewSlot) : (s.setPreview p e).commitPending = s.commitPending := rfl
@[simp] theorem State.setPreview_lastCommit (p : Port) (e : Option PreviewSlot) : (s.setPreview p e).lastCommit = s.lastCommit := rfl
@[simp] theorem State.setPreview_workPlan (p : Port) (e : Option PreviewSlot) : (s.setPreview p e).workPlan = s.workPlan := rfl
@[simp] theorem State.setPreview_activePlan (p : Port) (e : Option PreviewSlot) : (s.setPreview p e).activePlan = s.activePlan := rfl
@[simp] theorem State.setPreview_shadows (p : Port) (e : Option PreviewSlot) : (s.setPreview p e).shadows = s.shadows := rfl
@[simp] theorem State.setPreview_mark (p : Port) (e : Option PreviewSlot) : (s.setPreview p e).mark = s.mark := rfl
@[simp] theorem State.setPreview_downlink (p : Port) (e : Option PreviewSlot) : (s.setPreview p e).downlink = s.downlink := rfl
@[simp] theorem State.setPreview_links (p : Port) (e : Option PreviewSlot) : (s.setPreview p e).links = s.links := rfl
@[simp] theorem State.setPreview_lostLimit (p : Port) (e : Option PreviewSlot) : (s.setPreview p e).lostLimit = s.lostLimit := rfl
@[simp] theorem State.setPreview_prot (p : Port) (e : Option PreviewSlot) : (s.setPreview p e).prot = s.prot := rfl
@[simp] theorem State.setPreview_modes (p : Port) (e : Option PreviewSlot) : (s.setPreview p e).modes = s.modes := rfl
@[simp] theorem State.setPreview_tempLevel (p : Port) (e : Option PreviewSlot) : (s.setPreview p e).tempLevel = s.tempLevel := rfl
@[simp] theorem State.setPreview_reflectLevel (p : Port) (e : Option PreviewSlot) : (s.setPreview p e).reflectLevel = s.reflectLevel := rfl
@[simp] theorem State.setPreview_cells (p : Port) (e : Option PreviewSlot) : (s.setPreview p e).cells = s.cells := rfl
@[simp] theorem State.setPreview_spread (p : Port) (e : Option PreviewSlot) : (s.setPreview p e).spread = s.spread := rfl
@[simp] theorem State.setPreview_settle (p : Port) (e : Option PreviewSlot) : (s.setPreview p e).settle = s.settle := rfl
@[simp] theorem State.setPreview_settleTime (p : Port) (e : Option PreviewSlot) : (s.setPreview p e).settleTime = s.settleTime := rfl
@[simp] theorem State.setPreview_holdOff (p : Port) (e : Option PreviewSlot) : (s.setPreview p e).holdOff = s.holdOff := rfl
@[simp] theorem State.setPreview_grants (p : Port) (e : Option PreviewSlot) : (s.setPreview p e).grants = s.grants := rfl
@[simp] theorem State.setPreview_short (p : Port) (e : Option PreviewSlot) : (s.setPreview p e).short = s.short := rfl
@[simp] theorem State.setPreview_realloc (p : Port) (e : Option PreviewSlot) : (s.setPreview p e).realloc = s.realloc := rfl
@[simp] theorem State.setPreview_flight (p : Port) (e : Option PreviewSlot) : (s.setPreview p e).flight = s.flight := rfl
@[simp] theorem State.setPreview_consecutive (p : Port) (e : Option PreviewSlot) : (s.setPreview p e).consecutive = s.consecutive := rfl
@[simp] theorem State.setPreview_lastPort (p : Port) (e : Option PreviewSlot) : (s.setPreview p e).lastPort = s.lastPort := rfl
@[simp] theorem State.setPreview_stale (p : Port) (e : Option PreviewSlot) : (s.setPreview p e).stale = s.stale := rfl
@[simp] theorem State.setPreview_notices (p : Port) (e : Option PreviewSlot) : (s.setPreview p e).notices = s.notices := rfl
@[simp] theorem State.setPreview_ports (p : Port) (e : Option PreviewSlot) : (s.setPreview p e).ports = s.ports := rfl
@[simp] theorem State.setPreview_window (p : Port) (e : Option PreviewSlot) : (s.setPreview p e).window = s.window := rfl
@[simp] theorem State.setPreview_edges (p : Port) (e : Option PreviewSlot) : (s.setPreview p e).edges = s.edges := rfl
@[simp] theorem State.setPreview_pending (p : Port) (e : Option PreviewSlot) : (s.setPreview p e).pending = s.pending := rfl
@[simp] theorem State.setPreview_zone (p : Port) (e : Option PreviewSlot) (z' : ZoneNo) : (s.setPreview p e).zone z' = s.zone z' := rfl
@[simp] theorem State.setPreview_oper (p : Port) (e : Option PreviewSlot) (o' : OpNo) : (s.setPreview p e).oper o' = s.oper o' := rfl
@[simp] theorem State.setPreview_working (p : Port) (e : Option PreviewSlot) (z' : ZoneNo) (o' : OpNo) : (s.setPreview p e).working z' o' = s.working z' o' := rfl
@[simp] theorem State.setPreview_active (p : Port) (e : Option PreviewSlot) (z' : ZoneNo) (o' : OpNo) : (s.setPreview p e).active z' o' = s.active z' o' := rfl
@[simp] theorem State.setPreview_link (p : Port) (e : Option PreviewSlot) (z' : ZoneNo) : (s.setPreview p e).link z' = s.link z' := rfl
@[simp] theorem State.setPreview_protRec (p : Port) (e : Option PreviewSlot) (z' : ZoneNo) (c' : ClassNo) : (s.setPreview p e).protRec z' c' = s.protRec z' c' := rfl
@[simp] theorem State.setPreview_cell (p : Port) (e : Option PreviewSlot) (z' : ZoneNo) (o' : OpNo) : (s.setPreview p e).cell z' o' = s.cell z' o' := rfl
@[simp] theorem State.setPreview_spreadRec (p : Port) (e : Option PreviewSlot) (o' : OpNo) : (s.setPreview p e).spreadRec o' = s.spreadRec o' := rfl
@[simp] theorem State.setPreview_settleCount (p : Port) (e : Option PreviewSlot) (z' : ZoneNo) (o' : OpNo) : (s.setPreview p e).settleCount z' o' = s.settleCount z' o' := rfl
@[simp] theorem State.setPreview_grant (p : Port) (e : Option PreviewSlot) (z' : ZoneNo) (o' : OpNo) : (s.setPreview p e).grant z' o' = s.grant z' o' := rfl
@[simp] theorem State.setPreview_isShort (p : Port) (e : Option PreviewSlot) (z' : ZoneNo) (o' : OpNo) : (s.setPreview p e).isShort z' o' = s.isShort z' o' := rfl
@[simp] theorem State.setPreview_noticeQueue (p : Port) (e : Option PreviewSlot) (p' : Port) : (s.setPreview p e).noticeQueue p' = s.noticeQueue p' := rfl
@[simp] theorem State.setPreview_port (p : Port) (e : Option PreviewSlot) (p' : Port) : (s.setPreview p e).port p' = s.port p' := rfl
@[simp] theorem State.setPreview_activeEntry (p : Port) (e : Option PreviewSlot) (k : SpokeNo) (m : EntryNo) : (s.setPreview p e).activeEntry k m = s.activeEntry k m := rfl
@[simp] theorem State.setPreview_workEntry (p : Port) (e : Option PreviewSlot) (k : SpokeNo) (m : EntryNo) : (s.setPreview p e).workEntry k m = s.workEntry k m := rfl
@[simp] theorem State.setPreview_shadow (p : Port) (e : Option PreviewSlot) (k : SpokeNo) (m : EntryNo) : (s.setPreview p e).shadow k m = s.shadow k m := rfl
@[simp] theorem State.setPreview_sector (p : Port) (e : Option PreviewSlot) (o' : OpNo) (k : SectorNo) : (s.setPreview p e).sector o' k = s.sector o' k := rfl
@[simp] theorem State.setPreview_mode (p : Port) (e : Option PreviewSlot) (c' : ClassNo) : (s.setPreview p e).mode c' = s.mode c' := rfl
@[simp] theorem State.setPreview_stamp (p : Port) (e : Option PreviewSlot) : (s.setPreview p e).stamp = s.stamp := rfl

/-! ## setNotices -/

@[simp] theorem State.setNotices_zones (p : Port) (q : NoticeQueue) : (s.setNotices p q).zones = s.zones := rfl
@[simp] theorem State.setNotices_latchPending (p : Port) (q : NoticeQueue) : (s.setNotices p q).latchPending = s.latchPending := rfl
@[simp] theorem State.setNotices_ops (p : Port) (q : NoticeQueue) : (s.setNotices p q).ops = s.ops := rfl
@[simp] theorem State.setNotices_transport (p : Port) (q : NoticeQueue) : (s.setNotices p q).transport = s.transport := rfl
@[simp] theorem State.setNotices_cycle (p : Port) (q : NoticeQueue) : (s.setNotices p q).cycle = s.cycle := rfl
@[simp] theorem State.setNotices_superframe (p : Port) (q : NoticeQueue) : (s.setNotices p q).superframe = s.superframe := rfl
@[simp] theorem State.setNotices_firstPending (p : Port) (q : NoticeQueue) : (s.setNotices p q).firstPending = s.firstPending := rfl
@[simp] theorem State.setNotices_commitPending (p : Port) (q : NoticeQueue) : (s.setNotices p q).commitPending = s.commitPending := rfl
@[simp] theorem State.setNotices_lastCommit (p : Port) (q : NoticeQueue) : (s.setNotices p q).lastCommit = s.lastCommit := rfl
@[simp] theorem State.setNotices_workPlan (p : Port) (q : NoticeQueue) : (s.setNotices p q).workPlan = s.workPlan := rfl
@[simp] theorem State.setNotices_activePlan (p : Port) (q : NoticeQueue) : (s.setNotices p q).activePlan = s.activePlan := rfl
@[simp] theorem State.setNotices_shadows (p : Port) (q : NoticeQueue) : (s.setNotices p q).shadows = s.shadows := rfl
@[simp] theorem State.setNotices_mark (p : Port) (q : NoticeQueue) : (s.setNotices p q).mark = s.mark := rfl
@[simp] theorem State.setNotices_downlink (p : Port) (q : NoticeQueue) : (s.setNotices p q).downlink = s.downlink := rfl
@[simp] theorem State.setNotices_links (p : Port) (q : NoticeQueue) : (s.setNotices p q).links = s.links := rfl
@[simp] theorem State.setNotices_lostLimit (p : Port) (q : NoticeQueue) : (s.setNotices p q).lostLimit = s.lostLimit := rfl
@[simp] theorem State.setNotices_prot (p : Port) (q : NoticeQueue) : (s.setNotices p q).prot = s.prot := rfl
@[simp] theorem State.setNotices_modes (p : Port) (q : NoticeQueue) : (s.setNotices p q).modes = s.modes := rfl
@[simp] theorem State.setNotices_tempLevel (p : Port) (q : NoticeQueue) : (s.setNotices p q).tempLevel = s.tempLevel := rfl
@[simp] theorem State.setNotices_reflectLevel (p : Port) (q : NoticeQueue) : (s.setNotices p q).reflectLevel = s.reflectLevel := rfl
@[simp] theorem State.setNotices_cells (p : Port) (q : NoticeQueue) : (s.setNotices p q).cells = s.cells := rfl
@[simp] theorem State.setNotices_spread (p : Port) (q : NoticeQueue) : (s.setNotices p q).spread = s.spread := rfl
@[simp] theorem State.setNotices_settle (p : Port) (q : NoticeQueue) : (s.setNotices p q).settle = s.settle := rfl
@[simp] theorem State.setNotices_settleTime (p : Port) (q : NoticeQueue) : (s.setNotices p q).settleTime = s.settleTime := rfl
@[simp] theorem State.setNotices_holdOff (p : Port) (q : NoticeQueue) : (s.setNotices p q).holdOff = s.holdOff := rfl
@[simp] theorem State.setNotices_grants (p : Port) (q : NoticeQueue) : (s.setNotices p q).grants = s.grants := rfl
@[simp] theorem State.setNotices_short (p : Port) (q : NoticeQueue) : (s.setNotices p q).short = s.short := rfl
@[simp] theorem State.setNotices_realloc (p : Port) (q : NoticeQueue) : (s.setNotices p q).realloc = s.realloc := rfl
@[simp] theorem State.setNotices_flight (p : Port) (q : NoticeQueue) : (s.setNotices p q).flight = s.flight := rfl
@[simp] theorem State.setNotices_previews (p : Port) (q : NoticeQueue) : (s.setNotices p q).previews = s.previews := rfl
@[simp] theorem State.setNotices_consecutive (p : Port) (q : NoticeQueue) : (s.setNotices p q).consecutive = s.consecutive := rfl
@[simp] theorem State.setNotices_lastPort (p : Port) (q : NoticeQueue) : (s.setNotices p q).lastPort = s.lastPort := rfl
@[simp] theorem State.setNotices_stale (p : Port) (q : NoticeQueue) : (s.setNotices p q).stale = s.stale := rfl
@[simp] theorem State.setNotices_ports (p : Port) (q : NoticeQueue) : (s.setNotices p q).ports = s.ports := rfl
@[simp] theorem State.setNotices_window (p : Port) (q : NoticeQueue) : (s.setNotices p q).window = s.window := rfl
@[simp] theorem State.setNotices_edges (p : Port) (q : NoticeQueue) : (s.setNotices p q).edges = s.edges := rfl
@[simp] theorem State.setNotices_pending (p : Port) (q : NoticeQueue) : (s.setNotices p q).pending = s.pending := rfl
@[simp] theorem State.setNotices_zone (p : Port) (q : NoticeQueue) (z' : ZoneNo) : (s.setNotices p q).zone z' = s.zone z' := rfl
@[simp] theorem State.setNotices_oper (p : Port) (q : NoticeQueue) (o' : OpNo) : (s.setNotices p q).oper o' = s.oper o' := rfl
@[simp] theorem State.setNotices_working (p : Port) (q : NoticeQueue) (z' : ZoneNo) (o' : OpNo) : (s.setNotices p q).working z' o' = s.working z' o' := rfl
@[simp] theorem State.setNotices_active (p : Port) (q : NoticeQueue) (z' : ZoneNo) (o' : OpNo) : (s.setNotices p q).active z' o' = s.active z' o' := rfl
@[simp] theorem State.setNotices_link (p : Port) (q : NoticeQueue) (z' : ZoneNo) : (s.setNotices p q).link z' = s.link z' := rfl
@[simp] theorem State.setNotices_protRec (p : Port) (q : NoticeQueue) (z' : ZoneNo) (c' : ClassNo) : (s.setNotices p q).protRec z' c' = s.protRec z' c' := rfl
@[simp] theorem State.setNotices_cell (p : Port) (q : NoticeQueue) (z' : ZoneNo) (o' : OpNo) : (s.setNotices p q).cell z' o' = s.cell z' o' := rfl
@[simp] theorem State.setNotices_spreadRec (p : Port) (q : NoticeQueue) (o' : OpNo) : (s.setNotices p q).spreadRec o' = s.spreadRec o' := rfl
@[simp] theorem State.setNotices_settleCount (p : Port) (q : NoticeQueue) (z' : ZoneNo) (o' : OpNo) : (s.setNotices p q).settleCount z' o' = s.settleCount z' o' := rfl
@[simp] theorem State.setNotices_grant (p : Port) (q : NoticeQueue) (z' : ZoneNo) (o' : OpNo) : (s.setNotices p q).grant z' o' = s.grant z' o' := rfl
@[simp] theorem State.setNotices_isShort (p : Port) (q : NoticeQueue) (z' : ZoneNo) (o' : OpNo) : (s.setNotices p q).isShort z' o' = s.isShort z' o' := rfl
@[simp] theorem State.setNotices_previewSlot (p : Port) (q : NoticeQueue) (p' : Port) : (s.setNotices p q).previewSlot p' = s.previewSlot p' := rfl
@[simp] theorem State.setNotices_port (p : Port) (q : NoticeQueue) (p' : Port) : (s.setNotices p q).port p' = s.port p' := rfl
@[simp] theorem State.setNotices_activeEntry (p : Port) (q : NoticeQueue) (k : SpokeNo) (m : EntryNo) : (s.setNotices p q).activeEntry k m = s.activeEntry k m := rfl
@[simp] theorem State.setNotices_workEntry (p : Port) (q : NoticeQueue) (k : SpokeNo) (m : EntryNo) : (s.setNotices p q).workEntry k m = s.workEntry k m := rfl
@[simp] theorem State.setNotices_shadow (p : Port) (q : NoticeQueue) (k : SpokeNo) (m : EntryNo) : (s.setNotices p q).shadow k m = s.shadow k m := rfl
@[simp] theorem State.setNotices_sector (p : Port) (q : NoticeQueue) (o' : OpNo) (k : SectorNo) : (s.setNotices p q).sector o' k = s.sector o' k := rfl
@[simp] theorem State.setNotices_mode (p : Port) (q : NoticeQueue) (c' : ClassNo) : (s.setNotices p q).mode c' = s.mode c' := rfl
@[simp] theorem State.setNotices_stamp (p : Port) (q : NoticeQueue) : (s.setNotices p q).stamp = s.stamp := rfl

/-! ## setPort -/

@[simp] theorem State.setPort_zones (p : Port) (r : PortRec) : (s.setPort p r).zones = s.zones := rfl
@[simp] theorem State.setPort_latchPending (p : Port) (r : PortRec) : (s.setPort p r).latchPending = s.latchPending := rfl
@[simp] theorem State.setPort_ops (p : Port) (r : PortRec) : (s.setPort p r).ops = s.ops := rfl
@[simp] theorem State.setPort_transport (p : Port) (r : PortRec) : (s.setPort p r).transport = s.transport := rfl
@[simp] theorem State.setPort_cycle (p : Port) (r : PortRec) : (s.setPort p r).cycle = s.cycle := rfl
@[simp] theorem State.setPort_superframe (p : Port) (r : PortRec) : (s.setPort p r).superframe = s.superframe := rfl
@[simp] theorem State.setPort_firstPending (p : Port) (r : PortRec) : (s.setPort p r).firstPending = s.firstPending := rfl
@[simp] theorem State.setPort_commitPending (p : Port) (r : PortRec) : (s.setPort p r).commitPending = s.commitPending := rfl
@[simp] theorem State.setPort_lastCommit (p : Port) (r : PortRec) : (s.setPort p r).lastCommit = s.lastCommit := rfl
@[simp] theorem State.setPort_workPlan (p : Port) (r : PortRec) : (s.setPort p r).workPlan = s.workPlan := rfl
@[simp] theorem State.setPort_activePlan (p : Port) (r : PortRec) : (s.setPort p r).activePlan = s.activePlan := rfl
@[simp] theorem State.setPort_shadows (p : Port) (r : PortRec) : (s.setPort p r).shadows = s.shadows := rfl
@[simp] theorem State.setPort_mark (p : Port) (r : PortRec) : (s.setPort p r).mark = s.mark := rfl
@[simp] theorem State.setPort_downlink (p : Port) (r : PortRec) : (s.setPort p r).downlink = s.downlink := rfl
@[simp] theorem State.setPort_links (p : Port) (r : PortRec) : (s.setPort p r).links = s.links := rfl
@[simp] theorem State.setPort_lostLimit (p : Port) (r : PortRec) : (s.setPort p r).lostLimit = s.lostLimit := rfl
@[simp] theorem State.setPort_prot (p : Port) (r : PortRec) : (s.setPort p r).prot = s.prot := rfl
@[simp] theorem State.setPort_modes (p : Port) (r : PortRec) : (s.setPort p r).modes = s.modes := rfl
@[simp] theorem State.setPort_tempLevel (p : Port) (r : PortRec) : (s.setPort p r).tempLevel = s.tempLevel := rfl
@[simp] theorem State.setPort_reflectLevel (p : Port) (r : PortRec) : (s.setPort p r).reflectLevel = s.reflectLevel := rfl
@[simp] theorem State.setPort_cells (p : Port) (r : PortRec) : (s.setPort p r).cells = s.cells := rfl
@[simp] theorem State.setPort_spread (p : Port) (r : PortRec) : (s.setPort p r).spread = s.spread := rfl
@[simp] theorem State.setPort_settle (p : Port) (r : PortRec) : (s.setPort p r).settle = s.settle := rfl
@[simp] theorem State.setPort_settleTime (p : Port) (r : PortRec) : (s.setPort p r).settleTime = s.settleTime := rfl
@[simp] theorem State.setPort_holdOff (p : Port) (r : PortRec) : (s.setPort p r).holdOff = s.holdOff := rfl
@[simp] theorem State.setPort_grants (p : Port) (r : PortRec) : (s.setPort p r).grants = s.grants := rfl
@[simp] theorem State.setPort_short (p : Port) (r : PortRec) : (s.setPort p r).short = s.short := rfl
@[simp] theorem State.setPort_realloc (p : Port) (r : PortRec) : (s.setPort p r).realloc = s.realloc := rfl
@[simp] theorem State.setPort_flight (p : Port) (r : PortRec) : (s.setPort p r).flight = s.flight := rfl
@[simp] theorem State.setPort_previews (p : Port) (r : PortRec) : (s.setPort p r).previews = s.previews := rfl
@[simp] theorem State.setPort_consecutive (p : Port) (r : PortRec) : (s.setPort p r).consecutive = s.consecutive := rfl
@[simp] theorem State.setPort_lastPort (p : Port) (r : PortRec) : (s.setPort p r).lastPort = s.lastPort := rfl
@[simp] theorem State.setPort_stale (p : Port) (r : PortRec) : (s.setPort p r).stale = s.stale := rfl
@[simp] theorem State.setPort_notices (p : Port) (r : PortRec) : (s.setPort p r).notices = s.notices := rfl
@[simp] theorem State.setPort_window (p : Port) (r : PortRec) : (s.setPort p r).window = s.window := rfl
@[simp] theorem State.setPort_edges (p : Port) (r : PortRec) : (s.setPort p r).edges = s.edges := rfl
@[simp] theorem State.setPort_pending (p : Port) (r : PortRec) : (s.setPort p r).pending = s.pending := rfl
@[simp] theorem State.setPort_zone (p : Port) (r : PortRec) (z' : ZoneNo) : (s.setPort p r).zone z' = s.zone z' := rfl
@[simp] theorem State.setPort_oper (p : Port) (r : PortRec) (o' : OpNo) : (s.setPort p r).oper o' = s.oper o' := rfl
@[simp] theorem State.setPort_working (p : Port) (r : PortRec) (z' : ZoneNo) (o' : OpNo) : (s.setPort p r).working z' o' = s.working z' o' := rfl
@[simp] theorem State.setPort_active (p : Port) (r : PortRec) (z' : ZoneNo) (o' : OpNo) : (s.setPort p r).active z' o' = s.active z' o' := rfl
@[simp] theorem State.setPort_link (p : Port) (r : PortRec) (z' : ZoneNo) : (s.setPort p r).link z' = s.link z' := rfl
@[simp] theorem State.setPort_protRec (p : Port) (r : PortRec) (z' : ZoneNo) (c' : ClassNo) : (s.setPort p r).protRec z' c' = s.protRec z' c' := rfl
@[simp] theorem State.setPort_cell (p : Port) (r : PortRec) (z' : ZoneNo) (o' : OpNo) : (s.setPort p r).cell z' o' = s.cell z' o' := rfl
@[simp] theorem State.setPort_spreadRec (p : Port) (r : PortRec) (o' : OpNo) : (s.setPort p r).spreadRec o' = s.spreadRec o' := rfl
@[simp] theorem State.setPort_settleCount (p : Port) (r : PortRec) (z' : ZoneNo) (o' : OpNo) : (s.setPort p r).settleCount z' o' = s.settleCount z' o' := rfl
@[simp] theorem State.setPort_grant (p : Port) (r : PortRec) (z' : ZoneNo) (o' : OpNo) : (s.setPort p r).grant z' o' = s.grant z' o' := rfl
@[simp] theorem State.setPort_isShort (p : Port) (r : PortRec) (z' : ZoneNo) (o' : OpNo) : (s.setPort p r).isShort z' o' = s.isShort z' o' := rfl
@[simp] theorem State.setPort_previewSlot (p : Port) (r : PortRec) (p' : Port) : (s.setPort p r).previewSlot p' = s.previewSlot p' := rfl
@[simp] theorem State.setPort_noticeQueue (p : Port) (r : PortRec) (p' : Port) : (s.setPort p r).noticeQueue p' = s.noticeQueue p' := rfl
@[simp] theorem State.setPort_activeEntry (p : Port) (r : PortRec) (k : SpokeNo) (m : EntryNo) : (s.setPort p r).activeEntry k m = s.activeEntry k m := rfl
@[simp] theorem State.setPort_workEntry (p : Port) (r : PortRec) (k : SpokeNo) (m : EntryNo) : (s.setPort p r).workEntry k m = s.workEntry k m := rfl
@[simp] theorem State.setPort_shadow (p : Port) (r : PortRec) (k : SpokeNo) (m : EntryNo) : (s.setPort p r).shadow k m = s.shadow k m := rfl
@[simp] theorem State.setPort_sector (p : Port) (r : PortRec) (o' : OpNo) (k : SectorNo) : (s.setPort p r).sector o' k = s.sector o' k := rfl
@[simp] theorem State.setPort_mode (p : Port) (r : PortRec) (c' : ClassNo) : (s.setPort p r).mode c' = s.mode c' := rfl
@[simp] theorem State.setPort_stamp (p : Port) (r : PortRec) : (s.setPort p r).stamp = s.stamp := rfl

/-! ## setWorkEntry -/

@[simp] theorem State.setWorkEntry_zones (spoke : SpokeNo) (n : EntryNo) (e : PlanEntry) : (s.setWorkEntry spoke n e).zones = s.zones := rfl
@[simp] theorem State.setWorkEntry_latchPending (spoke : SpokeNo) (n : EntryNo) (e : PlanEntry) : (s.setWorkEntry spoke n e).latchPending = s.latchPending := rfl
@[simp] theorem State.setWorkEntry_ops (spoke : SpokeNo) (n : EntryNo) (e : PlanEntry) : (s.setWorkEntry spoke n e).ops = s.ops := rfl
@[simp] theorem State.setWorkEntry_transport (spoke : SpokeNo) (n : EntryNo) (e : PlanEntry) : (s.setWorkEntry spoke n e).transport = s.transport := rfl
@[simp] theorem State.setWorkEntry_cycle (spoke : SpokeNo) (n : EntryNo) (e : PlanEntry) : (s.setWorkEntry spoke n e).cycle = s.cycle := rfl
@[simp] theorem State.setWorkEntry_superframe (spoke : SpokeNo) (n : EntryNo) (e : PlanEntry) : (s.setWorkEntry spoke n e).superframe = s.superframe := rfl
@[simp] theorem State.setWorkEntry_firstPending (spoke : SpokeNo) (n : EntryNo) (e : PlanEntry) : (s.setWorkEntry spoke n e).firstPending = s.firstPending := rfl
@[simp] theorem State.setWorkEntry_commitPending (spoke : SpokeNo) (n : EntryNo) (e : PlanEntry) : (s.setWorkEntry spoke n e).commitPending = s.commitPending := rfl
@[simp] theorem State.setWorkEntry_lastCommit (spoke : SpokeNo) (n : EntryNo) (e : PlanEntry) : (s.setWorkEntry spoke n e).lastCommit = s.lastCommit := rfl
@[simp] theorem State.setWorkEntry_activePlan (spoke : SpokeNo) (n : EntryNo) (e : PlanEntry) : (s.setWorkEntry spoke n e).activePlan = s.activePlan := rfl
@[simp] theorem State.setWorkEntry_shadows (spoke : SpokeNo) (n : EntryNo) (e : PlanEntry) : (s.setWorkEntry spoke n e).shadows = s.shadows := rfl
@[simp] theorem State.setWorkEntry_mark (spoke : SpokeNo) (n : EntryNo) (e : PlanEntry) : (s.setWorkEntry spoke n e).mark = s.mark := rfl
@[simp] theorem State.setWorkEntry_downlink (spoke : SpokeNo) (n : EntryNo) (e : PlanEntry) : (s.setWorkEntry spoke n e).downlink = s.downlink := rfl
@[simp] theorem State.setWorkEntry_links (spoke : SpokeNo) (n : EntryNo) (e : PlanEntry) : (s.setWorkEntry spoke n e).links = s.links := rfl
@[simp] theorem State.setWorkEntry_lostLimit (spoke : SpokeNo) (n : EntryNo) (e : PlanEntry) : (s.setWorkEntry spoke n e).lostLimit = s.lostLimit := rfl
@[simp] theorem State.setWorkEntry_prot (spoke : SpokeNo) (n : EntryNo) (e : PlanEntry) : (s.setWorkEntry spoke n e).prot = s.prot := rfl
@[simp] theorem State.setWorkEntry_modes (spoke : SpokeNo) (n : EntryNo) (e : PlanEntry) : (s.setWorkEntry spoke n e).modes = s.modes := rfl
@[simp] theorem State.setWorkEntry_tempLevel (spoke : SpokeNo) (n : EntryNo) (e : PlanEntry) : (s.setWorkEntry spoke n e).tempLevel = s.tempLevel := rfl
@[simp] theorem State.setWorkEntry_reflectLevel (spoke : SpokeNo) (n : EntryNo) (e : PlanEntry) : (s.setWorkEntry spoke n e).reflectLevel = s.reflectLevel := rfl
@[simp] theorem State.setWorkEntry_cells (spoke : SpokeNo) (n : EntryNo) (e : PlanEntry) : (s.setWorkEntry spoke n e).cells = s.cells := rfl
@[simp] theorem State.setWorkEntry_spread (spoke : SpokeNo) (n : EntryNo) (e : PlanEntry) : (s.setWorkEntry spoke n e).spread = s.spread := rfl
@[simp] theorem State.setWorkEntry_settle (spoke : SpokeNo) (n : EntryNo) (e : PlanEntry) : (s.setWorkEntry spoke n e).settle = s.settle := rfl
@[simp] theorem State.setWorkEntry_settleTime (spoke : SpokeNo) (n : EntryNo) (e : PlanEntry) : (s.setWorkEntry spoke n e).settleTime = s.settleTime := rfl
@[simp] theorem State.setWorkEntry_holdOff (spoke : SpokeNo) (n : EntryNo) (e : PlanEntry) : (s.setWorkEntry spoke n e).holdOff = s.holdOff := rfl
@[simp] theorem State.setWorkEntry_grants (spoke : SpokeNo) (n : EntryNo) (e : PlanEntry) : (s.setWorkEntry spoke n e).grants = s.grants := rfl
@[simp] theorem State.setWorkEntry_short (spoke : SpokeNo) (n : EntryNo) (e : PlanEntry) : (s.setWorkEntry spoke n e).short = s.short := rfl
@[simp] theorem State.setWorkEntry_realloc (spoke : SpokeNo) (n : EntryNo) (e : PlanEntry) : (s.setWorkEntry spoke n e).realloc = s.realloc := rfl
@[simp] theorem State.setWorkEntry_flight (spoke : SpokeNo) (n : EntryNo) (e : PlanEntry) : (s.setWorkEntry spoke n e).flight = s.flight := rfl
@[simp] theorem State.setWorkEntry_previews (spoke : SpokeNo) (n : EntryNo) (e : PlanEntry) : (s.setWorkEntry spoke n e).previews = s.previews := rfl
@[simp] theorem State.setWorkEntry_consecutive (spoke : SpokeNo) (n : EntryNo) (e : PlanEntry) : (s.setWorkEntry spoke n e).consecutive = s.consecutive := rfl
@[simp] theorem State.setWorkEntry_lastPort (spoke : SpokeNo) (n : EntryNo) (e : PlanEntry) : (s.setWorkEntry spoke n e).lastPort = s.lastPort := rfl
@[simp] theorem State.setWorkEntry_stale (spoke : SpokeNo) (n : EntryNo) (e : PlanEntry) : (s.setWorkEntry spoke n e).stale = s.stale := rfl
@[simp] theorem State.setWorkEntry_notices (spoke : SpokeNo) (n : EntryNo) (e : PlanEntry) : (s.setWorkEntry spoke n e).notices = s.notices := rfl
@[simp] theorem State.setWorkEntry_ports (spoke : SpokeNo) (n : EntryNo) (e : PlanEntry) : (s.setWorkEntry spoke n e).ports = s.ports := rfl
@[simp] theorem State.setWorkEntry_window (spoke : SpokeNo) (n : EntryNo) (e : PlanEntry) : (s.setWorkEntry spoke n e).window = s.window := rfl
@[simp] theorem State.setWorkEntry_edges (spoke : SpokeNo) (n : EntryNo) (e : PlanEntry) : (s.setWorkEntry spoke n e).edges = s.edges := rfl
@[simp] theorem State.setWorkEntry_pending (spoke : SpokeNo) (n : EntryNo) (e : PlanEntry) : (s.setWorkEntry spoke n e).pending = s.pending := rfl
@[simp] theorem State.setWorkEntry_zone (spoke : SpokeNo) (n : EntryNo) (e : PlanEntry) (z' : ZoneNo) : (s.setWorkEntry spoke n e).zone z' = s.zone z' := rfl
@[simp] theorem State.setWorkEntry_oper (spoke : SpokeNo) (n : EntryNo) (e : PlanEntry) (o' : OpNo) : (s.setWorkEntry spoke n e).oper o' = s.oper o' := rfl
@[simp] theorem State.setWorkEntry_working (spoke : SpokeNo) (n : EntryNo) (e : PlanEntry) (z' : ZoneNo) (o' : OpNo) : (s.setWorkEntry spoke n e).working z' o' = s.working z' o' := rfl
@[simp] theorem State.setWorkEntry_active (spoke : SpokeNo) (n : EntryNo) (e : PlanEntry) (z' : ZoneNo) (o' : OpNo) : (s.setWorkEntry spoke n e).active z' o' = s.active z' o' := rfl
@[simp] theorem State.setWorkEntry_link (spoke : SpokeNo) (n : EntryNo) (e : PlanEntry) (z' : ZoneNo) : (s.setWorkEntry spoke n e).link z' = s.link z' := rfl
@[simp] theorem State.setWorkEntry_protRec (spoke : SpokeNo) (n : EntryNo) (e : PlanEntry) (z' : ZoneNo) (c' : ClassNo) : (s.setWorkEntry spoke n e).protRec z' c' = s.protRec z' c' := rfl
@[simp] theorem State.setWorkEntry_cell (spoke : SpokeNo) (n : EntryNo) (e : PlanEntry) (z' : ZoneNo) (o' : OpNo) : (s.setWorkEntry spoke n e).cell z' o' = s.cell z' o' := rfl
@[simp] theorem State.setWorkEntry_spreadRec (spoke : SpokeNo) (n : EntryNo) (e : PlanEntry) (o' : OpNo) : (s.setWorkEntry spoke n e).spreadRec o' = s.spreadRec o' := rfl
@[simp] theorem State.setWorkEntry_settleCount (spoke : SpokeNo) (n : EntryNo) (e : PlanEntry) (z' : ZoneNo) (o' : OpNo) : (s.setWorkEntry spoke n e).settleCount z' o' = s.settleCount z' o' := rfl
@[simp] theorem State.setWorkEntry_grant (spoke : SpokeNo) (n : EntryNo) (e : PlanEntry) (z' : ZoneNo) (o' : OpNo) : (s.setWorkEntry spoke n e).grant z' o' = s.grant z' o' := rfl
@[simp] theorem State.setWorkEntry_isShort (spoke : SpokeNo) (n : EntryNo) (e : PlanEntry) (z' : ZoneNo) (o' : OpNo) : (s.setWorkEntry spoke n e).isShort z' o' = s.isShort z' o' := rfl
@[simp] theorem State.setWorkEntry_previewSlot (spoke : SpokeNo) (n : EntryNo) (e : PlanEntry) (p' : Port) : (s.setWorkEntry spoke n e).previewSlot p' = s.previewSlot p' := rfl
@[simp] theorem State.setWorkEntry_noticeQueue (spoke : SpokeNo) (n : EntryNo) (e : PlanEntry) (p' : Port) : (s.setWorkEntry spoke n e).noticeQueue p' = s.noticeQueue p' := rfl
@[simp] theorem State.setWorkEntry_port (spoke : SpokeNo) (n : EntryNo) (e : PlanEntry) (p' : Port) : (s.setWorkEntry spoke n e).port p' = s.port p' := rfl
@[simp] theorem State.setWorkEntry_activeEntry (spoke : SpokeNo) (n : EntryNo) (e : PlanEntry) (k : SpokeNo) (m : EntryNo) : (s.setWorkEntry spoke n e).activeEntry k m = s.activeEntry k m := rfl
@[simp] theorem State.setWorkEntry_shadow (spoke : SpokeNo) (n : EntryNo) (e : PlanEntry) (k : SpokeNo) (m : EntryNo) : (s.setWorkEntry spoke n e).shadow k m = s.shadow k m := rfl
@[simp] theorem State.setWorkEntry_sector (spoke : SpokeNo) (n : EntryNo) (e : PlanEntry) (o' : OpNo) (k : SectorNo) : (s.setWorkEntry spoke n e).sector o' k = s.sector o' k := rfl
@[simp] theorem State.setWorkEntry_mode (spoke : SpokeNo) (n : EntryNo) (e : PlanEntry) (c' : ClassNo) : (s.setWorkEntry spoke n e).mode c' = s.mode c' := rfl

/-! ## setShadow -/

@[simp] theorem State.setShadow_zones (spoke : SpokeNo) (n : EntryNo) (h : Shadow) : (s.setShadow spoke n h).zones = s.zones := rfl
@[simp] theorem State.setShadow_latchPending (spoke : SpokeNo) (n : EntryNo) (h : Shadow) : (s.setShadow spoke n h).latchPending = s.latchPending := rfl
@[simp] theorem State.setShadow_ops (spoke : SpokeNo) (n : EntryNo) (h : Shadow) : (s.setShadow spoke n h).ops = s.ops := rfl
@[simp] theorem State.setShadow_transport (spoke : SpokeNo) (n : EntryNo) (h : Shadow) : (s.setShadow spoke n h).transport = s.transport := rfl
@[simp] theorem State.setShadow_cycle (spoke : SpokeNo) (n : EntryNo) (h : Shadow) : (s.setShadow spoke n h).cycle = s.cycle := rfl
@[simp] theorem State.setShadow_superframe (spoke : SpokeNo) (n : EntryNo) (h : Shadow) : (s.setShadow spoke n h).superframe = s.superframe := rfl
@[simp] theorem State.setShadow_firstPending (spoke : SpokeNo) (n : EntryNo) (h : Shadow) : (s.setShadow spoke n h).firstPending = s.firstPending := rfl
@[simp] theorem State.setShadow_commitPending (spoke : SpokeNo) (n : EntryNo) (h : Shadow) : (s.setShadow spoke n h).commitPending = s.commitPending := rfl
@[simp] theorem State.setShadow_lastCommit (spoke : SpokeNo) (n : EntryNo) (h : Shadow) : (s.setShadow spoke n h).lastCommit = s.lastCommit := rfl
@[simp] theorem State.setShadow_workPlan (spoke : SpokeNo) (n : EntryNo) (h : Shadow) : (s.setShadow spoke n h).workPlan = s.workPlan := rfl
@[simp] theorem State.setShadow_activePlan (spoke : SpokeNo) (n : EntryNo) (h : Shadow) : (s.setShadow spoke n h).activePlan = s.activePlan := rfl
@[simp] theorem State.setShadow_mark (spoke : SpokeNo) (n : EntryNo) (h : Shadow) : (s.setShadow spoke n h).mark = s.mark := rfl
@[simp] theorem State.setShadow_downlink (spoke : SpokeNo) (n : EntryNo) (h : Shadow) : (s.setShadow spoke n h).downlink = s.downlink := rfl
@[simp] theorem State.setShadow_links (spoke : SpokeNo) (n : EntryNo) (h : Shadow) : (s.setShadow spoke n h).links = s.links := rfl
@[simp] theorem State.setShadow_lostLimit (spoke : SpokeNo) (n : EntryNo) (h : Shadow) : (s.setShadow spoke n h).lostLimit = s.lostLimit := rfl
@[simp] theorem State.setShadow_prot (spoke : SpokeNo) (n : EntryNo) (h : Shadow) : (s.setShadow spoke n h).prot = s.prot := rfl
@[simp] theorem State.setShadow_modes (spoke : SpokeNo) (n : EntryNo) (h : Shadow) : (s.setShadow spoke n h).modes = s.modes := rfl
@[simp] theorem State.setShadow_tempLevel (spoke : SpokeNo) (n : EntryNo) (h : Shadow) : (s.setShadow spoke n h).tempLevel = s.tempLevel := rfl
@[simp] theorem State.setShadow_reflectLevel (spoke : SpokeNo) (n : EntryNo) (h : Shadow) : (s.setShadow spoke n h).reflectLevel = s.reflectLevel := rfl
@[simp] theorem State.setShadow_cells (spoke : SpokeNo) (n : EntryNo) (h : Shadow) : (s.setShadow spoke n h).cells = s.cells := rfl
@[simp] theorem State.setShadow_spread (spoke : SpokeNo) (n : EntryNo) (h : Shadow) : (s.setShadow spoke n h).spread = s.spread := rfl
@[simp] theorem State.setShadow_settle (spoke : SpokeNo) (n : EntryNo) (h : Shadow) : (s.setShadow spoke n h).settle = s.settle := rfl
@[simp] theorem State.setShadow_settleTime (spoke : SpokeNo) (n : EntryNo) (h : Shadow) : (s.setShadow spoke n h).settleTime = s.settleTime := rfl
@[simp] theorem State.setShadow_holdOff (spoke : SpokeNo) (n : EntryNo) (h : Shadow) : (s.setShadow spoke n h).holdOff = s.holdOff := rfl
@[simp] theorem State.setShadow_grants (spoke : SpokeNo) (n : EntryNo) (h : Shadow) : (s.setShadow spoke n h).grants = s.grants := rfl
@[simp] theorem State.setShadow_short (spoke : SpokeNo) (n : EntryNo) (h : Shadow) : (s.setShadow spoke n h).short = s.short := rfl
@[simp] theorem State.setShadow_realloc (spoke : SpokeNo) (n : EntryNo) (h : Shadow) : (s.setShadow spoke n h).realloc = s.realloc := rfl
@[simp] theorem State.setShadow_flight (spoke : SpokeNo) (n : EntryNo) (h : Shadow) : (s.setShadow spoke n h).flight = s.flight := rfl
@[simp] theorem State.setShadow_previews (spoke : SpokeNo) (n : EntryNo) (h : Shadow) : (s.setShadow spoke n h).previews = s.previews := rfl
@[simp] theorem State.setShadow_consecutive (spoke : SpokeNo) (n : EntryNo) (h : Shadow) : (s.setShadow spoke n h).consecutive = s.consecutive := rfl
@[simp] theorem State.setShadow_lastPort (spoke : SpokeNo) (n : EntryNo) (h : Shadow) : (s.setShadow spoke n h).lastPort = s.lastPort := rfl
@[simp] theorem State.setShadow_stale (spoke : SpokeNo) (n : EntryNo) (h : Shadow) : (s.setShadow spoke n h).stale = s.stale := rfl
@[simp] theorem State.setShadow_notices (spoke : SpokeNo) (n : EntryNo) (h : Shadow) : (s.setShadow spoke n h).notices = s.notices := rfl
@[simp] theorem State.setShadow_ports (spoke : SpokeNo) (n : EntryNo) (h : Shadow) : (s.setShadow spoke n h).ports = s.ports := rfl
@[simp] theorem State.setShadow_window (spoke : SpokeNo) (n : EntryNo) (h : Shadow) : (s.setShadow spoke n h).window = s.window := rfl
@[simp] theorem State.setShadow_edges (spoke : SpokeNo) (n : EntryNo) (h : Shadow) : (s.setShadow spoke n h).edges = s.edges := rfl
@[simp] theorem State.setShadow_pending (spoke : SpokeNo) (n : EntryNo) (h : Shadow) : (s.setShadow spoke n h).pending = s.pending := rfl
@[simp] theorem State.setShadow_zone (spoke : SpokeNo) (n : EntryNo) (h : Shadow) (z' : ZoneNo) : (s.setShadow spoke n h).zone z' = s.zone z' := rfl
@[simp] theorem State.setShadow_oper (spoke : SpokeNo) (n : EntryNo) (h : Shadow) (o' : OpNo) : (s.setShadow spoke n h).oper o' = s.oper o' := rfl
@[simp] theorem State.setShadow_working (spoke : SpokeNo) (n : EntryNo) (h : Shadow) (z' : ZoneNo) (o' : OpNo) : (s.setShadow spoke n h).working z' o' = s.working z' o' := rfl
@[simp] theorem State.setShadow_active (spoke : SpokeNo) (n : EntryNo) (h : Shadow) (z' : ZoneNo) (o' : OpNo) : (s.setShadow spoke n h).active z' o' = s.active z' o' := rfl
@[simp] theorem State.setShadow_link (spoke : SpokeNo) (n : EntryNo) (h : Shadow) (z' : ZoneNo) : (s.setShadow spoke n h).link z' = s.link z' := rfl
@[simp] theorem State.setShadow_protRec (spoke : SpokeNo) (n : EntryNo) (h : Shadow) (z' : ZoneNo) (c' : ClassNo) : (s.setShadow spoke n h).protRec z' c' = s.protRec z' c' := rfl
@[simp] theorem State.setShadow_cell (spoke : SpokeNo) (n : EntryNo) (h : Shadow) (z' : ZoneNo) (o' : OpNo) : (s.setShadow spoke n h).cell z' o' = s.cell z' o' := rfl
@[simp] theorem State.setShadow_spreadRec (spoke : SpokeNo) (n : EntryNo) (h : Shadow) (o' : OpNo) : (s.setShadow spoke n h).spreadRec o' = s.spreadRec o' := rfl
@[simp] theorem State.setShadow_settleCount (spoke : SpokeNo) (n : EntryNo) (h : Shadow) (z' : ZoneNo) (o' : OpNo) : (s.setShadow spoke n h).settleCount z' o' = s.settleCount z' o' := rfl
@[simp] theorem State.setShadow_grant (spoke : SpokeNo) (n : EntryNo) (h : Shadow) (z' : ZoneNo) (o' : OpNo) : (s.setShadow spoke n h).grant z' o' = s.grant z' o' := rfl
@[simp] theorem State.setShadow_isShort (spoke : SpokeNo) (n : EntryNo) (h : Shadow) (z' : ZoneNo) (o' : OpNo) : (s.setShadow spoke n h).isShort z' o' = s.isShort z' o' := rfl
@[simp] theorem State.setShadow_previewSlot (spoke : SpokeNo) (n : EntryNo) (h : Shadow) (p' : Port) : (s.setShadow spoke n h).previewSlot p' = s.previewSlot p' := rfl
@[simp] theorem State.setShadow_noticeQueue (spoke : SpokeNo) (n : EntryNo) (h : Shadow) (p' : Port) : (s.setShadow spoke n h).noticeQueue p' = s.noticeQueue p' := rfl
@[simp] theorem State.setShadow_port (spoke : SpokeNo) (n : EntryNo) (h : Shadow) (p' : Port) : (s.setShadow spoke n h).port p' = s.port p' := rfl
@[simp] theorem State.setShadow_activeEntry (spoke : SpokeNo) (n : EntryNo) (h : Shadow) (k : SpokeNo) (m : EntryNo) : (s.setShadow spoke n h).activeEntry k m = s.activeEntry k m := rfl
@[simp] theorem State.setShadow_workEntry (spoke : SpokeNo) (n : EntryNo) (h : Shadow) (k : SpokeNo) (m : EntryNo) : (s.setShadow spoke n h).workEntry k m = s.workEntry k m := rfl
@[simp] theorem State.setShadow_sector (spoke : SpokeNo) (n : EntryNo) (h : Shadow) (o' : OpNo) (k : SectorNo) : (s.setShadow spoke n h).sector o' k = s.sector o' k := rfl
@[simp] theorem State.setShadow_mode (spoke : SpokeNo) (n : EntryNo) (h : Shadow) (c' : ClassNo) : (s.setShadow spoke n h).mode c' = s.mode c' := rfl

/-! ## Reading back what was written -/

theorem portNumber_injective : Function.Injective portNumber := by
  intro p q h
  match p, q with
  | .vn, .vn => rfl
  | .vn, .op o => exact absurd h.symm (Fin.succ_ne_zero o)
  | .op o, .vn => exact absurd h (Fin.succ_ne_zero o)
  | .op o, .op o' => exact congrArg Port.op (Fin.succ_inj.mp h)

theorem portNumber_ne {p q : Port} (h : q ≠ p) : (portNumber p).val ≠ (portNumber q).val :=
  fun e => h (portNumber_injective (Fin.ext e)).symm

@[simp] theorem State.setZone_zone (z : ZoneNo) (r : ZoneRec) : (s.setZone z r).zone z = r := by
  simp [State.setZone, State.zone]

@[simp] theorem State.setZone_zone_ne {z y : ZoneNo} (r : ZoneRec) (h : y ≠ z) : (s.setZone z r).zone y = s.zone y := by
  simp [State.setZone, State.zone, Fin.val_ne_of_ne h.symm]

@[simp] theorem State.setOper_oper (o : OpNo) (r : OpRec) : (s.setOper o r).oper o = r := by
  simp [State.setOper, State.oper]

@[simp] theorem State.setOper_oper_ne {o q : OpNo} (r : OpRec) (h : q ≠ o) : (s.setOper o r).oper q = s.oper q := by
  simp [State.setOper, State.oper, Fin.val_ne_of_ne h.symm]

@[simp] theorem State.setLink_link (z : ZoneNo) (r : LinkRec) : (s.setLink z r).link z = r := by
  simp [State.setLink, State.link]

@[simp] theorem State.setLink_link_ne {z y : ZoneNo} (r : LinkRec) (h : y ≠ z) : (s.setLink z r).link y = s.link y := by
  simp [State.setLink, State.link, Fin.val_ne_of_ne h.symm]

@[simp] theorem State.setProt_protRec (z : ZoneNo) (c : ClassNo) (r : ProtRec) : (s.setProt z c r).protRec z c = r := by
  simp [State.setProt, State.protRec]

theorem State.setProt_protRec_of_ne {z y : ZoneNo} {c d : ClassNo} (r : ProtRec) (h : y ≠ z ∨ d ≠ c) :
    (s.setProt z c r).protRec y d = s.protRec y d := by
  by_cases hz : y = z
  · subst hz
    have hd : d ≠ c := by simpa using h
    simp [State.setProt, State.protRec, Fin.val_ne_of_ne hd.symm]
  · simp [State.setProt, State.protRec, Fin.val_ne_of_ne (Ne.symm hz)]

@[simp] theorem laneGet_laneSet {α : Type} (t : Vector (Vector α 4) 64) (z : ZoneNo) (o : OpNo) (a : α) :
    laneGet (laneSet t z o a) z o = a := by
  simp [laneGet, laneSet]

theorem laneGet_laneSet_of_ne {α : Type} (t : Vector (Vector α 4) 64) {z y : ZoneNo} {o q : OpNo} (a : α)
    (h : y ≠ z ∨ q ≠ o) : laneGet (laneSet t z o a) y q = laneGet t y q := by
  by_cases hz : y = z
  · subst hz
    have hq : q ≠ o := by simpa using h
    simp [laneGet, laneSet, Fin.val_ne_of_ne hq.symm]
  · simp [laneGet, laneSet, Fin.val_ne_of_ne (Ne.symm hz)]

@[simp] theorem State.setSpread_spreadRec (o : OpNo) (r : SpreadRec) : (s.setSpread o r).spreadRec o = r := by
  simp [State.setSpread, State.spreadRec]

@[simp] theorem State.setSpread_spreadRec_ne {o q : OpNo} (r : SpreadRec) (h : q ≠ o) :
    (s.setSpread o r).spreadRec q = s.spreadRec q := by
  simp [State.setSpread, State.spreadRec, Fin.val_ne_of_ne h.symm]

@[simp] theorem State.setSettle_settleCount (z : ZoneNo) (o : OpNo) (n : Nat) : (s.setSettle z o n).settleCount z o = n := by
  simp [State.setSettle, State.settleCount]

@[simp] theorem State.setShort_isShort (z : ZoneNo) (o : OpNo) (b : Bool) : (s.setShort z o b).isShort z o = b := by
  simp [State.setShort, State.isShort]

@[simp] theorem State.setPreview_previewSlot (p : Port) (e : Option PreviewSlot) : (s.setPreview p e).previewSlot p = e := by
  simp [State.setPreview, State.previewSlot]

@[simp] theorem State.setPreview_previewSlot_ne {p q : Port} (e : Option PreviewSlot) (h : q ≠ p) :
    (s.setPreview p e).previewSlot q = s.previewSlot q := by
  simp [State.setPreview, State.previewSlot, portNumber_ne h]

@[simp] theorem State.setNotices_noticeQueue (p : Port) (q : NoticeQueue) : (s.setNotices p q).noticeQueue p = q := by
  simp [State.setNotices, State.noticeQueue]

@[simp] theorem State.setNotices_noticeQueue_ne {p p' : Port} (q : NoticeQueue) (h : p' ≠ p) :
    (s.setNotices p q).noticeQueue p' = s.noticeQueue p' := by
  simp [State.setNotices, State.noticeQueue, portNumber_ne h]

@[simp] theorem State.setPort_port (p : Port) (r : PortRec) : (s.setPort p r).port p = r := by
  simp [State.setPort, State.port]

@[simp] theorem State.setPort_port_ne {p q : Port} (r : PortRec) (h : q ≠ p) : (s.setPort p r).port q = s.port q := by
  simp [State.setPort, State.port, portNumber_ne h]

@[simp] theorem retable_getElem {α : Type} {n : Nat} (f : Fin n → α → α) (t : Vector α n) (i : Fin n) :
    (retable f t)[i] = f i t[i] := by
  simp [retable]

@[simp] theorem vec4_getElem {α : Type} (f : OpNo → α) (o : OpNo) : (vec4 f)[o] = f o := by
  simp [vec4]

end Sys2Proof.Machine
end

