-- ==== Sys2Proof/Laws/Ops.lean ====
section
/-! SUPPORT. What each shared operation does, said once: filing, withdrawing, the working-map write, the short flags, the
clips, the reallocation queue, the Allocation Engine's arbitration, and the placing of status bits. Proofs cite these and do
not unfold the operation. -/

namespace Sys2Proof.Machine

open Sys2Proof

/-! ## Notices -/

/-- An append keeps a queue within its capacity (R157). -/
theorem appendNotice_length_le {q : NoticeQueue} (n : Notice) (h : q.records.length ≤ Config.noticeCapacity) :
    (appendNotice q n).records.length ≤ Config.noticeCapacity := by
  unfold appendNotice
  split <;> simp_all [Config.noticeCapacity] <;> omega

/-- An appended notice is the queue's last record (R157). -/
theorem appendNotice_getLast? (q : NoticeQueue) (n : Notice) : (appendNotice q n).records.getLast? = some n := by
  unfold appendNotice
  split <;> simp

@[simp] theorem fileOne_noticeQueue (n : Notice) (s : State) (p : Port) :
    (fileOne n s p).noticeQueue p = appendNotice (s.noticeQueue p) n := by simp [fileOne]

theorem fileOne_noticeQueue_ne (n : Notice) (s : State) {p q : Port} (h : q ≠ p) :
    (fileOne n s p).noticeQueue q = s.noticeQueue q := by simp [fileOne, h]

/-- A port outside the set gets no copy (R156). -/
theorem file_noticeQueue_of_notMem {ps : List Port} {p : Port} (s : State) (n : Notice) (h : p ∉ ps) :
    (file s ps n).noticeQueue p = s.noticeQueue p := by
  induction ps generalizing s with
  | nil => rfl
  | cons q l ih =>
    rw [List.mem_cons, not_or] at h
    exact (ih _ h.2).trans (fileOne_noticeQueue_ne n s h.1)

/-- A port of the set gets one copy (R156). -/
theorem file_noticeQueue_of_mem {ps : List Port} {p : Port} (s : State) (n : Notice) (hd : ps.Nodup) (h : p ∈ ps) :
    (file s ps n).noticeQueue p = appendNotice (s.noticeQueue p) n := by
  induction ps generalizing s with
  | nil => cases h
  | cons q l ih =>
    rw [List.nodup_cons] at hd
    rcases List.mem_cons.mp h with rfl | hl
    · exact (file_noticeQueue_of_notMem _ n hd.1).trans (fileOne_noticeQueue n s p)
    · have hq : p ≠ q := fun e => hd.1 (e ▸ hl)
      exact (ih _ hd.2 hl).trans (congrArg (appendNotice · n) (fileOne_noticeQueue_ne n s hq))

/-- Filing keeps every queue within its capacity (R157). -/
theorem file_noticeLaw {s : State} (ps : List Port) (n : Notice) (h : NoticeLaw s) : NoticeLaw (file s ps n) := by
  induction ps generalizing s with
  | nil => exact h
  | cons q l ih =>
    refine ih fun p => ?_
    by_cases e : p = q
    · subst e; rw [fileOne_noticeQueue]; exact appendNotice_length_le n (h p)
    · rw [fileOne_noticeQueue_ne n s e]; exact h p

/-! ## Proposals and the working map -/

@[simp] theorem file_spreadRec (s : State) (ps : List Port) (n : Notice) (o : OpNo) :
    (file s ps n).spreadRec o = s.spreadRec o := file_keeps (fun s => s.spreadRec o) (fun _ _ => rfl) ..

/-- A withdrawal closes the operator's open proposal and no other (R116). -/
theorem withdraw_spreadRec (s : State) (o : OpNo) (why : WithdrawCause) :
    (withdraw s o why).spreadRec o = (match (s.spreadRec o).proposal with
      | some p => (s.spreadRec o).closed p
      | none => s.spreadRec o) ∧
    ∀ q : OpNo, q ≠ o → (withdraw s o why).spreadRec q = s.spreadRec q := by
  unfold withdraw closeProposal SpreadRec.closed
  cases h : (s.spreadRec o).proposal <;> simp +contextual

/-- A withdrawal under a test closes the operator's open proposal where it passes the test, and no other (R116). -/
theorem withdrawIf_spreadRec (s : State) (o : OpNo) (test : Proposal → Bool) (why : WithdrawCause) :
    (withdrawIf s o test why).spreadRec o = (match (s.spreadRec o).proposal with
      | some p => if test p then (s.spreadRec o).closed p else s.spreadRec o
      | none => s.spreadRec o) ∧
    ∀ q : OpNo, q ≠ o → (withdrawIf s o test why).spreadRec q = s.spreadRec q := by
  have hw := withdraw_spreadRec s o why
  unfold withdrawIf
  cases h : (s.spreadRec o).proposal with
  | none => simp
  | some p =>
    rw [h] at hw
    by_cases ht : test p = true
    · simpa [ht] using hw
    · simp [ht]

/-- A working-map write sets one lane's working binding and the latch-pending flag (R13). -/
theorem workingWrite_working (s : State) (z : ZoneNo) (o : OpNo) (b : Option SectorNo) :
    (workingWrite s z o b).latchPending = true ∧ (workingWrite s z o b).working z o = b ∧
      (∀ q : OpNo, q ≠ o → (workingWrite s z o b).working z q = s.working z q) ∧
      ∀ y : ZoneNo, y ≠ z → (workingWrite s z o b).zone y = s.zone y := by
  refine ⟨rfl, ?_, fun q hq => ?_, fun y hy => ?_⟩
  · show ((setWorking s z o b).zone z).working[o] = b
    simp [setWorking]
  · show ((setWorking s z o b).zone z).working[q] = _
    simp [setWorking, State.working, Fin.val_ne_of_ne hq.symm]
  · show (setWorking s z o b).zone y = _
    simp [setWorking, hy]

/-! ## Short flags, clips and the reallocation queue -/

@[simp] theorem file_isShort (s : State) (ps : List Port) (n : Notice) (z : ZoneNo) (o : OpNo) :
    (file s ps n).isShort z o = s.isShort z o := file_keeps (fun s => s.isShort z o) (fun _ _ => rfl) ..

@[simp] theorem judgeShort_grants (s : State) (z : ZoneNo) (o : OpNo) (q : Nat) : (judgeShort s z o q).grants = s.grants :=
  judgeShort_keeps State.grants (fun _ _ => rfl) (fun _ _ => rfl) ..

/-- A judged short flag is set when the grant is below the request, clear when it equals it, and else as it was (R135). -/
theorem judgeShort_isShort (s : State) (z : ZoneNo) (o : OpNo) (q : Nat) :
    (judgeShort s z o q).isShort z o =
      if s.grant z o < q then true else if s.grant z o = q then false else s.isShort z o := by
  unfold judgeShort fileGrant
  rcases Nat.lt_trichotomy (s.grant z o) q with h | h | h
  · by_cases hs : s.isShort z o = false
    · simp [h, hs]
    · have h2 : s.isShort z o = true := by simpa using hs
      simp [h, h2, Nat.ne_of_lt h]
  · by_cases hs : s.isShort z o = false <;> simp_all
  · simp [Nat.not_lt.mpr (Nat.le_of_lt h), Nat.ne_of_gt h]

/-- The queue after a zone was queued holds that zone and what it held (R131). -/
theorem mem_enqueue {s : State} {z y : ZoneNo} : y ∈ (enqueue s z).realloc ↔ y = z ∨ y ∈ s.realloc := by
  unfold enqueue
  split
  · constructor
    · exact Or.inr
    · rintro (rfl | h) <;> assumption
  · simp [or_comm]

/-- Queueing a zone keeps the queue free of repeats (R131). -/
theorem enqueue_queueLaw {s : State} (z : ZoneNo) (h : QueueLaw s) : QueueLaw (enqueue s z) := by
  unfold enqueue QueueLaw
  split
  · exact h
  · rename_i hn
    exact List.nodup_append.mpr ⟨h, by simp, fun a ha b hb => by
      rintro rfl; exact hn (List.mem_singleton.mp hb ▸ ha)⟩

/-- A clip never raises a grant, and a request clip leaves it at most the new request (R128, R129). -/
theorem clippedGrant_le (g b b' q q' : Nat) :
    clippedGrant g b b' q q' ≤ g ∧ (q' < q → clippedGrant g b b' q q' ≤ q') := by
  have h1 : (if b' < b then g * b' / b else g) ≤ g := by
    split
    · rename_i h
      exact Nat.div_le_of_le_mul (by rw [Nat.mul_comm b g]; exact Nat.mul_le_mul_left g (Nat.le_of_lt h))
    · exact Nat.le_refl g
  unfold clippedGrant
  dsimp only
  split
  · exact ⟨Nat.le_trans (Nat.min_le_left _ _) h1, fun _ => Nat.min_le_right _ _⟩
  · exact ⟨h1, fun h => absurd h ‹_›⟩

/-- The grants after an input change: the zone's four are clipped and every other stays (R127). -/
theorem inputChange_grant (old s : State) (z y : ZoneNo) (o : OpNo) :
    (inputChange old s z).grant y o = if y = z then
      clippedGrant (s.grant z o) (effBudget old z) (effBudget s z) (effRequest old z o) (effRequest s z o)
    else s.grant y o := by
  have hg : (inputChange old s z).grants = (clipZone old s z).grants := by
    unfold inputChange
    rw [enqueue_keeps State.grants (fun _ _ => rfl)]
    exact foldl_keeps State.grants _ (fun t o => by split <;> simp) _ _
  show laneGet (inputChange old s z).grants y o = _
  rw [hg]
  by_cases h : y = z
  · subst h; simp [clipZone, setGrants, laneGet, vec4]
  · simp [clipZone, setGrants, laneGet, State.grant, h, Fin.val_ne_of_ne (Ne.symm h)]

/-- The queue after an input change: the zone is in it (R127, R131). -/
theorem mem_inputChange {old s : State} {z y : ZoneNo} : y ∈ (inputChange old s z).realloc ↔ y = z ∨ y ∈ s.realloc := by
  unfold inputChange
  rw [mem_enqueue, foldl_keeps State.realloc _ (fun t o => by
    split
    · exact judgeShort_keeps State.realloc (fun _ _ => rfl) (fun _ _ => rfl) ..
    · rfl)]
  rfl

/-- The queue after an input change keeps to one entry a zone (R131). -/
theorem inputChange_queueLaw {old s : State} (z : ZoneNo) (h : QueueLaw s) : QueueLaw (inputChange old s z) := by
  unfold inputChange
  refine enqueue_queueLaw z ?_
  unfold QueueLaw
  rw [foldl_keeps State.realloc _ (fun t o => by
    split
    · exact judgeShort_keeps State.realloc (fun _ _ => rfl) (fun _ _ => rfl) ..
    · rfl)]
  exact h

/-- A share change queues every zone (R132). -/
theorem mem_shareChange (s : State) (z : ZoneNo) : z ∈ (shareChange s).realloc := by
  have h : ∀ (l : List ZoneNo) (s : State), (z ∈ l ∨ z ∈ s.realloc) → z ∈ (l.foldl enqueue s).realloc := by
    intro l
    induction l with
    | nil => simp
    | cons y l ih =>
      intro s hz
      refine ih _ ?_
      rw [mem_enqueue]
      rcases hz with hz | hz
      · rcases List.mem_cons.mp hz with rfl | h
        · exact Or.inr (Or.inl rfl)
        · exact Or.inl h
      · exact Or.inr (Or.inr hz)
  exact h _ _ (Or.inl (List.mem_finRange z))

/-! ## The Allocation Engine -/

/-- Every arbitration ends idle with nothing to do, in a reallocation of the queue's head, or in the next preview of the
rotation (R143). -/
theorem arbitrate_cases (s : State) :
    (s.realloc = [] ∧ nextPreview s = none ∧ arbitrate s = { s with consecutive := 0 }) ∨
    (∃ (z : ZoneNo) (rest : List ZoneNo), s.realloc = z :: rest ∧
      (nextPreview s = none ∨ s.consecutive < Config.maxConsecutive) ∧ arbitrate s = startReallocation s z rest) ∨
    (∃ (p : Port) (e : PreviewSlot), nextPreview s = some (p, e) ∧
      (s.realloc = [] ∨ Config.maxConsecutive ≤ s.consecutive) ∧ arbitrate s = startPreview { s with consecutive := 0 } p e) := by
  unfold arbitrate
  cases hr : s.realloc with
  | nil =>
    cases hp : nextPreview s with
    | none => exact .inl ⟨rfl, rfl, rfl⟩
    | some pe => exact .inr (.inr ⟨pe.1, pe.2, rfl, .inl rfl, rfl⟩)
  | cons z rest =>
    cases hp : nextPreview s with
    | none => exact .inr (.inl ⟨z, rest, rfl, .inl rfl, rfl⟩)
    | some pe =>
      dsimp only
      by_cases h : s.consecutive < Config.maxConsecutive
      · rw [if_pos h]; exact .inr (.inl ⟨z, rest, rfl, .inr h, rfl⟩)
      · rw [if_neg h]; exact .inr (.inr ⟨pe.1, pe.2, rfl, .inr (Nat.not_lt.mp h), by rw [← hr]; rfl⟩)

/-- An event ends as it stands or with an arbitration, the latter only where the engine was FREE and work arrived (R142). -/
theorem endEvent_cases (old s : State) :
    endEvent old s = s ∨ (s.flight = none ∧ workArrived old s = true ∧ endEvent old s = arbitrate s) := by
  unfold endEvent
  split
  · rename_i h
    rw [Bool.and_eq_true, Option.isNone_iff_eq_none] at h
    exact .inr ⟨h.1, h.2, rfl⟩
  · exact .inl rfl

/-- A zone in the queue at an arbitration still waits for the engine or is now in flight (R143, R144). -/
theorem arbitrate_awaits {s : State} {z : ZoneNo} (h : z ∈ s.realloc) : AwaitsAllocation (arbitrate s) z := by
  rcases arbitrate_cases s with ⟨hr, -, -⟩ | ⟨y, rest, hr, -, e⟩ | ⟨p, x, -, -, e⟩
  · rw [hr] at h; cases h
  · rw [hr] at h
    rw [e]
    rcases List.mem_cons.mp h with rfl | h
    · exact .inr rfl
    · exact .inl h
  · rw [e]; exact .inl h

/-- A zone queued by an event waits for the engine or is in flight when the event has ended (R142). -/
theorem endEvent_awaits {old s : State} {z : ZoneNo} (h : z ∈ s.realloc) : AwaitsAllocation (endEvent old s) z := by
  rcases endEvent_cases old s with e | ⟨-, -, e⟩
  · rw [e]; exact .inl h
  · rw [e]; exact arbitrate_awaits h

/-- The end of an event touches no grant (R142). -/
@[simp] theorem endEvent_grants (old s : State) : (endEvent old s).grants = s.grants :=
  endEvent_keeps State.grants (fun _ _ => rfl) (fun _ _ => rfl) (fun _ _ => rfl) (fun _ _ => rfl) (fun _ _ => rfl) ..

/-! ## Alarm edges -/

@[simp] theorem file_protRec (s : State) (ps : List Port) (n : Notice) (z : ZoneNo) (c : ClassNo) :
    (file s ps n).protRec z c = s.protRec z c := file_keeps (fun s => s.protRec z c) (fun _ _ => rfl) ..

/-- The record of a class after its edge is that of the tables, and an equal bit is no edge (R68, R69, R70). -/
theorem takeEdge_protRec (s : State) (z : ZoneNo) (c : ClassNo) (bit : Bool) :
    (takeEdge s z c bit).protRec z c =
      if (s.protRec z c).raw = bit then s.protRec z c
      else if bit then (risingEdge (s.mode c) (s.protRec z c)).1 else (fallingEdge (s.mode c) (s.protRec z c)).1 := by
  unfold takeEdge fileAlarm
  dsimp only
  split
  · rfl
  · split <;> split <;> simp

/-- An edge of one class leaves every other record (R68). -/
theorem takeEdge_protRec_of_ne (s : State) {z y : ZoneNo} {c d : ClassNo} (bit : Bool) (h : y ≠ z ∨ d ≠ c) :
    (takeEdge s z c bit).protRec y d = s.protRec y d := by
  unfold takeEdge fileAlarm
  dsimp only
  split
  · rfl
  · split <;> split <;> simp [State.setProt_protRec_of_ne (s := s) (h := h)]

/-! ## The status byte of a window -/

/-- The sum of a status byte's weighted fields has each field at its bit (section 11.1). -/
theorem statusSum_getLsbD (a b c d e : Bool) (t : Transport) : ∀ k : Fin 8,
    (BitVec.ofNat 8 (bitIf 128 a + bitIf 64 b + bitIf 32 c + bitIf 16 d + bitIf 8 e + t.code)).getLsbD k =
      #v[decide (t = .running), decide (t = .draining), false, e, d, c, b, a][k] := by
  cases t <;> revert a b c d e <;> decide

/-- Each bit of the status byte is that of its field (R167). -/
theorem statusByte_getLsbD (s : State) (p : Port) {k : Nat} (h : k < 8) :
    (statusByte s p).getLsbD k = statusField s p k := by
  have key := statusSum_getLsbD (attentionLow s p) (s.noticeQueue p).overrun (s.port p).frameErr (s.port p).replyCut
    (tenantActive s p) s.transport ⟨k, h⟩
  refine key.trans ?_
  match k, h with
  | 0, _ | 1, _ | 2, _ | 4, _ | 5, _ | 6, _ | 7, _ => rfl
  | 3, _ => cases p <;> rfl

/-- When n bits have been placed, the bits still to be read are those below, but bit 0 is read with bit 1 (R167). -/
theorem unreadBits_getLsbD (n : Nat) {k : Nat} (h : k < 8) : (unreadBits n).getLsbD k = decide (max k 1 + n < 8) := by
  unfold unreadBits
  split
  · next hn =>
    have key : ∀ (m : Fin 7) (j : Fin 8), ((0xFF : Byte) >>> m.val).getLsbD j.val = decide (max j.val 1 + m.val < 8) := by decide
    exact key ⟨n, hn⟩ ⟨k, h⟩
  · simp; omega

/-- A bit that the mask names is that of its field now, and every other bit stays (R167). -/
theorem readFields_getLsbD (s : State) (p : Port) (mask : Byte) {k : Nat} (h : k < 8) :
    (readFields s p mask).getLsbD k =
      if mask.getLsbD k then statusField s p k else (s.port p).status.getLsbD k := by
  unfold readFields
  rw [BitVec.getLsbD_or, BitVec.getLsbD_and, BitVec.getLsbD_and, BitVec.getLsbD_not, statusByte_getLsbD s p h]
  cases mask.getLsbD k <;> simp [h]

/-- A falling edge on one port touches no other port and nothing but the ports (R164). -/
theorem placeNext_frame (s : State) (p : Port) :
    placeNext s p = { s with ports := (placeNext s p).ports } ∧ ∀ q : Port, q ≠ p → (placeNext s p).port q = s.port q := by
  unfold placeNext
  split
  · exact ⟨rfl, fun q h => State.setPort_port_ne _ _ h⟩
  · exact ⟨rfl, fun _ _ => rfl⟩

/-- With no header byte under way, time passes without effect (log entry 10). -/
theorem clockFalls_of_none {s : State} (h : ∀ p, (s.port p).frame ≠ .receiving false) : clockFalls s = s := by
  unfold clockFalls
  rw [if_neg]
  simp [inHeader, h]

/-- With a header byte under way, time passes by a falling edge of one port's SCLK (R164, log entry 9). -/
theorem clockFalls_of_header {s : State} {p : Port} (h : (s.port p).frame = .receiving false) :
    clockFalls s = { placeNext s (portOf (Config.clockedPort s.edges)) with edges := s.edges + 1 } := by
  unfold clockFalls
  rw [if_pos]
  refine List.any_eq_true.mpr ⟨p, ?_, by simp [inHeader, h]⟩
  cases p with
  | vn => exact List.mem_cons_self ..
  | op o => exact List.mem_cons_of_mem _ (List.mem_map_of_mem (List.mem_finRange o))

/-- The passing of time changes the ports and the count of edges alone. -/
theorem clockFalls_eq (s : State) : clockFalls s = { s with ports := (clockFalls s).ports, edges := (clockFalls s).edges } := by
  unfold clockFalls
  split
  · rw [(placeNext_frame s _).1]
  · rfl

end Sys2Proof.Machine
end

