-- ==== Sys2Proof/Laws/Owners.lean ====
section
/-! SUPPORT. Frames of the requests' owners and of the events: as in Sys2Proof.Laws.Frames, each leaves every function of
the state that does not look at the fields it writes. -/

namespace Sys2Proof.Machine

/- One script closes the cases of every owner; a case needs only one of its alternatives. -/
set_option linter.unreachableTactic false
set_option linter.unusedTactic false

open Sys2Proof

variable {β : Type}

/-! ## Zone Map -/

theorem retireLink_keeps (g : State → β)
    (h_links : ∀ s v, g { s with links := v } = g s) (h_prot : ∀ s v, g { s with prot := v } = g s) (h_spread : ∀ s v, g { s with spread := v } = g s) (h_notices : ∀ s v, g { s with notices := v } = g s)
    (s : State) (z : ZoneNo) : g (retireLink s z) = g s := by
  unfold retireLink
  dsimp only
  split
  · rw [goDark_keeps g h_prot h_spread h_notices]; exact h_links ..
  · exact h_links ..

theorem retire_keeps (g : State → β)
    (h_zones : ∀ s v, g { s with zones := v } = g s) (h_links : ∀ s v, g { s with links := v } = g s) (h_prot : ∀ s v, g { s with prot := v } = g s) (h_cells : ∀ s v, g { s with cells := v } = g s) (h_spread : ∀ s v, g { s with spread := v } = g s) (h_grants : ∀ s v, g { s with grants := v } = g s) (h_short : ∀ s v, g { s with short := v } = g s) (h_realloc : ∀ s v, g { s with realloc := v } = g s) (h_notices : ∀ s v, g { s with notices := v } = g s)
    (s : State) (z : ZoneNo) : g (retire s z) = g s := by
  unfold retire
  dsimp only
  rw [inputChange_keeps g h_grants h_short h_realloc h_notices, clearZoneCells_keeps g h_cells]
  exact (h_zones ..).trans (retireLink_keeps g h_links h_prot h_spread h_notices ..)

theorem storeBudget_keeps (g : State → β)
    (h_zones : ∀ s v, g { s with zones := v } = g s) (h_grants : ∀ s v, g { s with grants := v } = g s) (h_short : ∀ s v, g { s with short := v } = g s) (h_realloc : ∀ s v, g { s with realloc := v } = g s) (h_notices : ∀ s v, g { s with notices := v } = g s)
    (s : State) (z : ZoneNo) (b : Nat) : g (storeBudget s z b) = g s := by
  unfold storeBudget
  split
  · rfl
  · rw [inputChange_keeps g h_grants h_short h_realloc h_notices]; exact h_zones ..

theorem setPin_keeps (g : State → β)
    (h_zones : ∀ s v, g { s with zones := v } = g s) (h_spread : ∀ s v, g { s with spread := v } = g s) (h_notices : ∀ s v, g { s with notices := v } = g s)
    (s : State) (z : ZoneNo) (pin : Bool) : g (setPin s z pin) = g s := by
  unfold setPin
  dsimp only
  split
  · rw [withdrawOnZone_keeps g h_spread h_notices]; exact h_zones ..
  · exact h_zones ..

theorem manualMove_keeps (g : State → β)
    (h_zones : ∀ s v, g { s with zones := v } = g s) (h_latchPending : ∀ s v, g { s with latchPending := v } = g s) (h_spread : ∀ s v, g { s with spread := v } = g s) (h_settle : ∀ s v, g { s with settle := v } = g s) (h_grants : ∀ s v, g { s with grants := v } = g s) (h_short : ∀ s v, g { s with short := v } = g s) (h_realloc : ∀ s v, g { s with realloc := v } = g s) (h_notices : ∀ s v, g { s with notices := v } = g s)
    (s : State) (z : ZoneNo) (o : OpNo) (b : Option SectorNo) : g (manualMove s z o b) = g s := by
  unfold manualMove
  rw [latchIfStopped_keeps g h_zones h_latchPending h_settle h_grants h_short h_realloc h_notices, withdrawIf_keeps g h_spread h_notices, workingWrite_keeps g h_zones h_latchPending]

theorem setTenancy_keeps (g : State → β)
    (h_ops : ∀ s v, g { s with ops := v } = g s)
    (s : State) (o : OpNo) (t : Tenancy) : g (setTenancy s o t) = g s := by
  exact h_ops ..

theorem admission_keeps (g : State → β)
    (h_ops : ∀ s v, g { s with ops := v } = g s) (h_grants : ∀ s v, g { s with grants := v } = g s) (h_short : ∀ s v, g { s with short := v } = g s) (h_realloc : ∀ s v, g { s with realloc := v } = g s) (h_notices : ∀ s v, g { s with notices := v } = g s)
    (s : State) (o : OpNo) : g (admission s o) = g s := by
  unfold admission
  rw [inputChanges_keeps g h_grants h_short h_realloc h_notices, fileTenancy_keeps g h_notices, setTenancy_keeps g h_ops]

theorem suspension_keeps (g : State → β)
    (h_ops : ∀ s v, g { s with ops := v } = g s) (h_spread : ∀ s v, g { s with spread := v } = g s) (h_grants : ∀ s v, g { s with grants := v } = g s) (h_short : ∀ s v, g { s with short := v } = g s) (h_realloc : ∀ s v, g { s with realloc := v } = g s) (h_notices : ∀ s v, g { s with notices := v } = g s)
    (s : State) (o : OpNo) : g (suspension s o) = g s := by
  unfold suspension
  rw [inputChanges_keeps g h_grants h_short h_realloc h_notices, withdraw_keeps g h_spread h_notices, fileTenancy_keeps g h_notices, setTenancy_keeps g h_ops]

theorem releaseTenancy_keeps (g : State → β)
    (h_ops : ∀ s v, g { s with ops := v } = g s) (h_spread : ∀ s v, g { s with spread := v } = g s) (h_grants : ∀ s v, g { s with grants := v } = g s) (h_short : ∀ s v, g { s with short := v } = g s) (h_realloc : ∀ s v, g { s with realloc := v } = g s) (h_notices : ∀ s v, g { s with notices := v } = g s)
    (s : State) (o : OpNo) : g (releaseTenancy s o) = g s := by
  unfold releaseTenancy
  dsimp only
  rw [inputChanges_keeps g h_grants h_short h_realloc h_notices, setTenancy_keeps g h_ops]
  split
  · exact withdraw_keeps g h_spread h_notices ..
  · rfl

theorem releaseRecord_keeps (g : State → β)
    (h_ops : ∀ s v, g { s with ops := v } = g s) (h_realloc : ∀ s v, g { s with realloc := v } = g s)
    (s : State) (o : OpNo) : g (releaseRecord s o) = g s := by
  unfold releaseRecord
  dsimp only
  split
  · exact h_ops ..
  · rw [shareChange_keeps g h_realloc]; exact h_ops ..

theorem releaseBindings_keeps (g : State → β)
    (h_zones : ∀ s v, g { s with zones := v } = g s) (h_latchPending : ∀ s v, g { s with latchPending := v } = g s)
    (s : State) (o : OpNo) : g (releaseBindings s o) = g s := by
  unfold releaseBindings
  generalize retable (fun _ r => { r with working := r.working.set o none }) s.zones = v
  exact (h_latchPending { s with zones := v } true).trans (h_zones s v)

theorem releaseCounters_keeps (g : State → β)
    (h_cells : ∀ s v, g { s with cells := v } = g s) (h_spread : ∀ s v, g { s with spread := v } = g s) (h_settle : ∀ s v, g { s with settle := v } = g s)
    (s : State) (o : OpNo) : g (releaseCounters s o) = g s := by
  unfold releaseCounters
  dsimp only
  generalize fillOperator s.cells o 0 = v
  generalize fillOperator s.settle o 0 = w
  exact (h_spread { s with cells := v, settle := w } _).trans ((h_settle { s with cells := v } w).trans (h_cells s v))

theorem releasePreview_keeps (g : State → β)
    (h_previews : ∀ s v, g { s with previews := v } = g s)
    (s : State) (o : OpNo) : g (releasePreview s o) = g s := by
  unfold releasePreview
  split
  · rfl
  · exact h_previews ..

theorem releaseNotices_keeps (g : State → β)
    (h_notices : ∀ s v, g { s with notices := v } = g s)
    (s : State) (o : OpNo) : g (releaseNotices s o) = g s := by
  unfold releaseNotices
  rw [fileTenancy_keeps g h_notices]; exact h_notices ..

theorem releaseAll_keeps (g : State → β)
    (h_zones : ∀ s v, g { s with zones := v } = g s) (h_latchPending : ∀ s v, g { s with latchPending := v } = g s) (h_ops : ∀ s v, g { s with ops := v } = g s) (h_cells : ∀ s v, g { s with cells := v } = g s) (h_spread : ∀ s v, g { s with spread := v } = g s) (h_settle : ∀ s v, g { s with settle := v } = g s) (h_grants : ∀ s v, g { s with grants := v } = g s) (h_short : ∀ s v, g { s with short := v } = g s) (h_realloc : ∀ s v, g { s with realloc := v } = g s) (h_previews : ∀ s v, g { s with previews := v } = g s) (h_notices : ∀ s v, g { s with notices := v } = g s)
    (s : State) (o : OpNo) : g (releaseAll s o) = g s := by
  unfold releaseAll
  rw [latchIfStopped_keeps g h_zones h_latchPending h_settle h_grants h_short h_realloc h_notices, releaseNotices_keeps g h_notices, releasePreview_keeps g h_previews, releaseCounters_keeps g h_cells h_spread h_settle,
    releaseBindings_keeps g h_zones h_latchPending, releaseRecord_keeps g h_ops h_realloc, releaseTenancy_keeps g h_ops h_spread h_grants h_short h_realloc h_notices]

theorem storeEnable_keeps (g : State → β)
    (h_ops : ∀ s v, g { s with ops := v } = g s) (h_spread : ∀ s v, g { s with spread := v } = g s) (h_grants : ∀ s v, g { s with grants := v } = g s) (h_short : ∀ s v, g { s with short := v } = g s) (h_realloc : ∀ s v, g { s with realloc := v } = g s) (h_notices : ∀ s v, g { s with notices := v } = g s)
    (s : State) (o : OpNo) (sec : SectorNo) (on : Bool) : g (storeEnable s o sec on) = g s := by
  unfold storeEnable
  dsimp only
  split
  · rfl
  · rw [inputChanges_keeps g h_grants h_short h_realloc h_notices]
    split
    · exact h_ops ..
    · rw [withdrawIf_keeps g h_spread h_notices]; exact h_ops ..

theorem storePower_keeps (g : State → β)
    (h_ops : ∀ s v, g { s with ops := v } = g s) (h_grants : ∀ s v, g { s with grants := v } = g s) (h_short : ∀ s v, g { s with short := v } = g s) (h_realloc : ∀ s v, g { s with realloc := v } = g s) (h_notices : ∀ s v, g { s with notices := v } = g s)
    (s : State) (o : OpNo) (sec : SectorNo) (r : Nat) : g (storePower s o sec r) = g s := by
  unfold storePower
  split
  · rfl
  · rw [inputChanges_keeps g h_grants h_short h_realloc h_notices]; exact h_ops ..

/-! ## Spoke Transport -/

theorem advanceCounts_keeps (g : State → β)
    (h_cycle : ∀ s v, g { s with cycle := v } = g s) (h_superframe : ∀ s v, g { s with superframe := v } = g s) (h_firstPending : ∀ s v, g { s with firstPending := v } = g s)
    (s : State) : g (advanceCounts s) = g s := by
  unfold advanceCounts
  split
  · exact h_firstPending ..
  · split
    · exact h_cycle ..
    · exact (h_superframe { s with cycle := 0 } _).trans (h_cycle ..)

theorem latchReaction_keeps (g : State → β)
    (h_zones : ∀ s v, g { s with zones := v } = g s) (h_latchPending : ∀ s v, g { s with latchPending := v } = g s) (h_mark : ∀ s v, g { s with mark := v } = g s) (h_settle : ∀ s v, g { s with settle := v } = g s) (h_grants : ∀ s v, g { s with grants := v } = g s) (h_short : ∀ s v, g { s with short := v } = g s) (h_realloc : ∀ s v, g { s with realloc := v } = g s) (h_notices : ∀ s v, g { s with notices := v } = g s)
    (s : State) : g (latchReaction s) = g s := by
  unfold latchReaction
  split
  · exact (h_mark ..).trans (takeLatch_keeps g h_zones h_latchPending h_settle h_grants h_short h_realloc h_notices ..)
  · rfl

theorem commitReaction_keeps (g : State → β)
    (h_commitPending : ∀ s v, g { s with commitPending := v } = g s) (h_lastCommit : ∀ s v, g { s with lastCommit := v } = g s) (h_activePlan : ∀ s v, g { s with activePlan := v } = g s) (h_shadows : ∀ s v, g { s with shadows := v } = g s) (h_mark : ∀ s v, g { s with mark := v } = g s) (h_grants : ∀ s v, g { s with grants := v } = g s) (h_short : ∀ s v, g { s with short := v } = g s) (h_realloc : ∀ s v, g { s with realloc := v } = g s) (h_notices : ∀ s v, g { s with notices := v } = g s)
    (s : State) : g (commitReaction s) = g s := by
  unfold commitReaction
  split
  · exact (h_mark ..).trans (takeCommit_keeps g h_commitPending h_lastCommit h_activePlan h_shadows h_grants h_short h_realloc h_notices ..)
  · rfl

theorem react_keeps (g : State → β)
    (h_zones : ∀ s v, g { s with zones := v } = g s) (h_latchPending : ∀ s v, g { s with latchPending := v } = g s) (h_commitPending : ∀ s v, g { s with commitPending := v } = g s) (h_lastCommit : ∀ s v, g { s with lastCommit := v } = g s) (h_activePlan : ∀ s v, g { s with activePlan := v } = g s) (h_shadows : ∀ s v, g { s with shadows := v } = g s) (h_mark : ∀ s v, g { s with mark := v } = g s) (h_downlink : ∀ s v, g { s with downlink := v } = g s) (h_links : ∀ s v, g { s with links := v } = g s) (h_prot : ∀ s v, g { s with prot := v } = g s) (h_spread : ∀ s v, g { s with spread := v } = g s) (h_settle : ∀ s v, g { s with settle := v } = g s) (h_grants : ∀ s v, g { s with grants := v } = g s) (h_short : ∀ s v, g { s with short := v } = g s) (h_realloc : ∀ s v, g { s with realloc := v } = g s) (h_notices : ∀ s v, g { s with notices := v } = g s)
    (s : State) (r : Reaction) : g (react s r) = g s := by
  unfold react
  split
  · exact latchReaction_keeps g h_zones h_latchPending h_mark h_settle h_grants h_short h_realloc h_notices ..
  · exact commitReaction_keeps g h_commitPending h_lastCommit h_activePlan h_shadows h_mark h_grants h_short h_realloc h_notices ..
  · exact fillSlots_keeps g h_shadows h_downlink h_notices ..
  · exact countDwells_keeps g h_links ..
  · split
    · exact protectReaction_keeps g h_prot h_grants h_short h_realloc h_notices ..
    · rfl
  · split
    · exact spreadReaction_keeps g h_zones h_latchPending h_spread h_settle h_notices ..
    · rfl

theorem cycleStart_keeps (g : State → β)
    (h_zones : ∀ s v, g { s with zones := v } = g s) (h_latchPending : ∀ s v, g { s with latchPending := v } = g s) (h_cycle : ∀ s v, g { s with cycle := v } = g s) (h_superframe : ∀ s v, g { s with superframe := v } = g s) (h_firstPending : ∀ s v, g { s with firstPending := v } = g s) (h_commitPending : ∀ s v, g { s with commitPending := v } = g s) (h_lastCommit : ∀ s v, g { s with lastCommit := v } = g s) (h_activePlan : ∀ s v, g { s with activePlan := v } = g s) (h_shadows : ∀ s v, g { s with shadows := v } = g s) (h_mark : ∀ s v, g { s with mark := v } = g s) (h_downlink : ∀ s v, g { s with downlink := v } = g s) (h_links : ∀ s v, g { s with links := v } = g s) (h_prot : ∀ s v, g { s with prot := v } = g s) (h_spread : ∀ s v, g { s with spread := v } = g s) (h_settle : ∀ s v, g { s with settle := v } = g s) (h_grants : ∀ s v, g { s with grants := v } = g s) (h_short : ∀ s v, g { s with short := v } = g s) (h_realloc : ∀ s v, g { s with realloc := v } = g s) (h_notices : ∀ s v, g { s with notices := v } = g s)
    (order : List Reaction) (s : State) : g (cycleStart order s) = g s := by
  unfold cycleStart
  rw [foldl_keeps g _ (fun _ _ => react_keeps g h_zones h_latchPending h_commitPending h_lastCommit h_activePlan h_shadows h_mark h_downlink h_links h_prot h_spread h_settle h_grants h_short h_realloc h_notices ..), advanceCounts_keeps g h_cycle h_superframe h_firstPending]

theorem cycleBoundary_keeps (g : State → β)
    (h_zones : ∀ s v, g { s with zones := v } = g s) (h_latchPending : ∀ s v, g { s with latchPending := v } = g s) (h_transport : ∀ s v, g { s with transport := v } = g s) (h_cycle : ∀ s v, g { s with cycle := v } = g s) (h_superframe : ∀ s v, g { s with superframe := v } = g s) (h_firstPending : ∀ s v, g { s with firstPending := v } = g s) (h_commitPending : ∀ s v, g { s with commitPending := v } = g s) (h_lastCommit : ∀ s v, g { s with lastCommit := v } = g s) (h_activePlan : ∀ s v, g { s with activePlan := v } = g s) (h_shadows : ∀ s v, g { s with shadows := v } = g s) (h_mark : ∀ s v, g { s with mark := v } = g s) (h_downlink : ∀ s v, g { s with downlink := v } = g s) (h_links : ∀ s v, g { s with links := v } = g s) (h_prot : ∀ s v, g { s with prot := v } = g s) (h_spread : ∀ s v, g { s with spread := v } = g s) (h_settle : ∀ s v, g { s with settle := v } = g s) (h_grants : ∀ s v, g { s with grants := v } = g s) (h_short : ∀ s v, g { s with short := v } = g s) (h_realloc : ∀ s v, g { s with realloc := v } = g s) (h_flight : ∀ s v, g { s with flight := v } = g s) (h_previews : ∀ s v, g { s with previews := v } = g s) (h_consecutive : ∀ s v, g { s with consecutive := v } = g s) (h_lastPort : ∀ s v, g { s with lastPort := v } = g s) (h_notices : ∀ s v, g { s with notices := v } = g s)
    (order : List Reaction) (s : State) : g (cycleBoundary order s) = g s := by
  unfold cycleBoundary
  split
  · rfl
  · split
    · rw [endEvent_keeps g h_realloc h_flight h_previews h_consecutive h_lastPort, enterStopped_keeps g h_zones h_latchPending h_transport h_firstPending h_commitPending h_lastCommit h_activePlan h_shadows h_downlink h_links h_prot h_spread h_settle h_grants h_short h_realloc h_notices]
    · rw [endEvent_keeps g h_realloc h_flight h_previews h_consecutive h_lastPort, cycleStart_keeps g h_zones h_latchPending h_cycle h_superframe h_firstPending h_commitPending h_lastCommit h_activePlan h_shadows h_mark h_downlink h_links h_prot h_spread h_settle h_grants h_short h_realloc h_notices]

theorem endDraining_keeps (g : State → β)
    (h_zones : ∀ s v, g { s with zones := v } = g s) (h_latchPending : ∀ s v, g { s with latchPending := v } = g s) (h_transport : ∀ s v, g { s with transport := v } = g s) (h_firstPending : ∀ s v, g { s with firstPending := v } = g s) (h_commitPending : ∀ s v, g { s with commitPending := v } = g s) (h_lastCommit : ∀ s v, g { s with lastCommit := v } = g s) (h_activePlan : ∀ s v, g { s with activePlan := v } = g s) (h_shadows : ∀ s v, g { s with shadows := v } = g s) (h_downlink : ∀ s v, g { s with downlink := v } = g s) (h_links : ∀ s v, g { s with links := v } = g s) (h_prot : ∀ s v, g { s with prot := v } = g s) (h_spread : ∀ s v, g { s with spread := v } = g s) (h_settle : ∀ s v, g { s with settle := v } = g s) (h_grants : ∀ s v, g { s with grants := v } = g s) (h_short : ∀ s v, g { s with short := v } = g s) (h_realloc : ∀ s v, g { s with realloc := v } = g s) (h_flight : ∀ s v, g { s with flight := v } = g s) (h_previews : ∀ s v, g { s with previews := v } = g s) (h_consecutive : ∀ s v, g { s with consecutive := v } = g s) (h_lastPort : ∀ s v, g { s with lastPort := v } = g s) (h_notices : ∀ s v, g { s with notices := v } = g s)
    (s : State) : g (endDraining s) = g s := by
  unfold endDraining
  split
  · rw [endEvent_keeps g h_realloc h_flight h_previews h_consecutive h_lastPort, enterStopped_keeps g h_zones h_latchPending h_transport h_firstPending h_commitPending h_lastCommit h_activePlan h_shadows h_downlink h_links h_prot h_spread h_settle h_grants h_short h_realloc h_notices]
  · rfl

theorem streamReport_keeps (g : State → β)
    (h_ops : ∀ s v, g { s with ops := v } = g s) (h_spread : ∀ s v, g { s with spread := v } = g s) (h_grants : ∀ s v, g { s with grants := v } = g s) (h_short : ∀ s v, g { s with short := v } = g s) (h_realloc : ∀ s v, g { s with realloc := v } = g s) (h_flight : ∀ s v, g { s with flight := v } = g s) (h_previews : ∀ s v, g { s with previews := v } = g s) (h_consecutive : ∀ s v, g { s with consecutive := v } = g s) (h_lastPort : ∀ s v, g { s with lastPort := v } = g s) (h_notices : ∀ s v, g { s with notices := v } = g s)
    (s : State) (o : OpNo) (sec : SectorNo) (up : Bool) : g (streamReport s o sec up) = g s := by
  unfold streamReport
  dsimp only
  split
  · rfl
  · rw [endEvent_keeps g h_realloc h_flight h_previews h_consecutive h_lastPort, inputChanges_keeps g h_grants h_short h_realloc h_notices]
    split
    · rw [file_keeps g h_notices]; exact h_ops ..
    · rw [withdrawIf_keeps g h_spread h_notices, file_keeps g h_notices]; exact h_ops ..

theorem takeBlock_keeps (g : State → β)
    (h_cells : ∀ s v, g { s with cells := v } = g s)
    (s : State) (z : ZoneNo) (u : UplinkWord) : g (takeBlock s z u) = g s := by
  unfold takeBlock
  split
  · split
    · exact takeActivity_keeps g h_cells ..
    · rfl
  · rfl

theorem takeWord_keeps (g : State → β)
    (h_links : ∀ s v, g { s with links := v } = g s) (h_prot : ∀ s v, g { s with prot := v } = g s) (h_cells : ∀ s v, g { s with cells := v } = g s) (h_spread : ∀ s v, g { s with spread := v } = g s) (h_grants : ∀ s v, g { s with grants := v } = g s) (h_short : ∀ s v, g { s with short := v } = g s) (h_realloc : ∀ s v, g { s with realloc := v } = g s) (h_notices : ∀ s v, g { s with notices := v } = g s)
    (s : State) (z : ZoneNo) (w : Option UplinkWord) : g (takeWord s z w) = g s := by
  unfold takeWord
  dsimp only
  split
  · split
    · rw [takeBlock_keeps g h_cells, takeVector_keeps g h_prot h_grants h_short h_realloc h_notices, linkWord_keeps g h_links h_prot h_spread h_grants h_short h_realloc h_notices]
    · exact linkWord_keeps g h_links h_prot h_spread h_grants h_short h_realloc h_notices ..
  · exact linkWord_keeps g h_links h_prot h_spread h_grants h_short h_realloc h_notices ..

theorem uplinkSlot_keeps (g : State → β)
    (h_links : ∀ s v, g { s with links := v } = g s) (h_prot : ∀ s v, g { s with prot := v } = g s) (h_cells : ∀ s v, g { s with cells := v } = g s) (h_spread : ∀ s v, g { s with spread := v } = g s) (h_grants : ∀ s v, g { s with grants := v } = g s) (h_short : ∀ s v, g { s with short := v } = g s) (h_realloc : ∀ s v, g { s with realloc := v } = g s) (h_flight : ∀ s v, g { s with flight := v } = g s) (h_previews : ∀ s v, g { s with previews := v } = g s) (h_consecutive : ∀ s v, g { s with consecutive := v } = g s) (h_lastPort : ∀ s v, g { s with lastPort := v } = g s) (h_notices : ∀ s v, g { s with notices := v } = g s)
    (s : State) (spoke : SpokeNo) (pos : PosNo) (word : List Byte) : g (uplinkSlot s spoke pos word) = g s := by
  unfold uplinkSlot
  dsimp only
  split
  · rw [endEvent_keeps g h_realloc h_flight h_previews h_consecutive h_lastPort, takeWord_keeps g h_links h_prot h_cells h_spread h_grants h_short h_realloc h_notices]
  · rfl

/-! ## Link Supervisor, Protection Unit, Spread Engine, Power Share Unit, Allocation Engine -/

theorem clearLoss_keeps (g : State → β)
    (h_links : ∀ s v, g { s with links := v } = g s)
    (s : State) (z : ZoneNo) : g (clearLoss s z) = g s := by
  exact h_links ..

theorem dwellExpiry_keeps (g : State → β)
    (h_links : ∀ s v, g { s with links := v } = g s)
    (s : State) (z : ZoneNo) : g (dwellExpiry s z) = g s := by
  unfold dwellExpiry
  split
  · exact h_links ..
  · rfl

theorem changeMode_keeps (g : State → β)
    (h_prot : ∀ s v, g { s with prot := v } = g s) (h_grants : ∀ s v, g { s with grants := v } = g s) (h_short : ∀ s v, g { s with short := v } = g s) (h_realloc : ∀ s v, g { s with realloc := v } = g s) (h_notices : ∀ s v, g { s with notices := v } = g s) (h_modes : ∀ s v, g { s with modes := v } = g s)
    (s : State) (c : ClassNo) (m : ClassMode) : g (changeMode s c m) = g s := by
  unfold changeMode
  dsimp only
  rw [foldl_keeps g _ (fun _ _ => takeOutputs_keeps g h_grants h_short h_realloc h_notices ..)]
  exact (h_prot { s with modes := s.modes.set c m } _).trans (h_modes ..)

theorem storeLevel_keeps (g : State → β)
    (h_tempLevel : ∀ s v, g { s with tempLevel := v } = g s) (h_reflectLevel : ∀ s v, g { s with reflectLevel := v } = g s)
    (s : State) (c : ClassNo) (n : Nat) : g (storeLevel s c n) = g s := by
  unfold storeLevel
  split
  · exact h_tempLevel ..
  · exact h_reflectLevel ..

theorem clearRecord_keeps (g : State → β)
    (h_prot : ∀ s v, g { s with prot := v } = g s) (h_notices : ∀ s v, g { s with notices := v } = g s)
    (s : State) (z : ZoneNo) (c : ClassNo) : g (clearRecord s z c) = g s := by
  unfold clearRecord
  dsimp only
  split
  · rfl
  · split
    · rw [fileAlarm_keeps g h_notices]; exact h_prot ..
    · exact h_prot ..

theorem clearZone_keeps (g : State → β)
    (h_prot : ∀ s v, g { s with prot := v } = g s) (h_grants : ∀ s v, g { s with grants := v } = g s) (h_short : ∀ s v, g { s with short := v } = g s) (h_realloc : ∀ s v, g { s with realloc := v } = g s) (h_notices : ∀ s v, g { s with notices := v } = g s)
    (s : State) (z : ZoneNo) : g (clearZone s z) = g s := by
  unfold clearZone
  rw [takeOutputs_keeps g h_grants h_short h_realloc h_notices, foldl_keeps g _ (fun _ _ => clearRecord_keeps g h_prot h_notices ..)]

theorem retryExpiry_keeps (g : State → β)
    (h_prot : ∀ s v, g { s with prot := v } = g s) (h_grants : ∀ s v, g { s with grants := v } = g s) (h_short : ∀ s v, g { s with short := v } = g s) (h_realloc : ∀ s v, g { s with realloc := v } = g s) (h_flight : ∀ s v, g { s with flight := v } = g s) (h_previews : ∀ s v, g { s with previews := v } = g s) (h_consecutive : ∀ s v, g { s with consecutive := v } = g s) (h_lastPort : ∀ s v, g { s with lastPort := v } = g s) (h_notices : ∀ s v, g { s with notices := v } = g s)
    (s : State) (z : ZoneNo) (c : ClassNo) : g (retryExpiry s z c) = g s := by
  unfold retryExpiry
  split
  · rw [endEvent_keeps g h_realloc h_flight h_previews h_consecutive h_lastPort, takeOutputs_keeps g h_grants h_short h_realloc h_notices, expireRetry_keeps g h_prot h_notices]
  · rfl

theorem changePolicy_keeps (g : State → β)
    (h_ops : ∀ s v, g { s with ops := v } = g s) (h_spread : ∀ s v, g { s with spread := v } = g s) (h_notices : ∀ s v, g { s with notices := v } = g s)
    (s : State) (o : OpNo) (m : Policy) : g (changePolicy s o m) = g s := by
  unfold changePolicy
  dsimp only
  refine (h_spread ..).trans ?_
  rw [withdraw_keeps g h_spread h_notices]; exact h_ops ..

theorem acceptProposal_keeps (g : State → β)
    (h_zones : ∀ s v, g { s with zones := v } = g s) (h_latchPending : ∀ s v, g { s with latchPending := v } = g s) (h_spread : ∀ s v, g { s with spread := v } = g s) (h_settle : ∀ s v, g { s with settle := v } = g s) (h_grants : ∀ s v, g { s with grants := v } = g s) (h_short : ∀ s v, g { s with short := v } = g s) (h_realloc : ∀ s v, g { s with realloc := v } = g s) (h_notices : ∀ s v, g { s with notices := v } = g s)
    (s : State) (o : OpNo) (p : Proposal) : g (acceptProposal s o p) = g s := by
  unfold acceptProposal
  dsimp only
  rw [latchIfStopped_keeps g h_zones h_latchPending h_settle h_grants h_short h_realloc h_notices, file_keeps g h_notices, closeProposal_keeps g h_spread, workingWrite_keeps g h_zones h_latchPending]

theorem declineProposal_keeps (g : State → β)
    (h_spread : ∀ s v, g { s with spread := v } = g s) (h_settle : ∀ s v, g { s with settle := v } = g s) (h_notices : ∀ s v, g { s with notices := v } = g s)
    (s : State) (o : OpNo) (p : Proposal) : g (declineProposal s o p) = g s := by
  unfold declineProposal
  dsimp only
  rw [file_keeps g h_notices, closeProposal_keeps g h_spread]; exact h_settle ..

theorem proposalExpiry_keeps (g : State → β)
    (h_zones : ∀ s v, g { s with zones := v } = g s) (h_latchPending : ∀ s v, g { s with latchPending := v } = g s) (h_spread : ∀ s v, g { s with spread := v } = g s) (h_settle : ∀ s v, g { s with settle := v } = g s) (h_notices : ∀ s v, g { s with notices := v } = g s)
    (s : State) (o : OpNo) : g (proposalExpiry s o) = g s := by
  unfold proposalExpiry
  split
  · split
    · rfl
    · exact expireProposal_keeps g h_zones h_latchPending h_spread h_settle h_notices ..
  · rfl

theorem evaluationDue_keeps (g : State → β)
    (h_zones : ∀ s v, g { s with zones := v } = g s) (h_latchPending : ∀ s v, g { s with latchPending := v } = g s) (h_spread : ∀ s v, g { s with spread := v } = g s) (h_notices : ∀ s v, g { s with notices := v } = g s)
    (s : State) (o : OpNo) : g (evaluationDue s o) = g s := by
  unfold evaluationDue
  split
  · exact runEvaluation_keeps g h_zones h_latchPending h_spread h_notices ..
  · rfl

theorem storeShare_keeps (g : State → β)
    (h_ops : ∀ s v, g { s with ops := v } = g s) (h_realloc : ∀ s v, g { s with realloc := v } = g s)
    (s : State) (o : OpNo) (n : Nat) : g (storeShare s o n) = g s := by
  unfold storeShare
  split
  · rfl
  · rw [shareChange_keeps g h_realloc]; exact h_ops ..

theorem finishComputation_keeps (g : State → β)
    (h_realloc : ∀ s v, g { s with realloc := v } = g s) (h_flight : ∀ s v, g { s with flight := v } = g s) (h_previews : ∀ s v, g { s with previews := v } = g s) (h_consecutive : ∀ s v, g { s with consecutive := v } = g s) (h_lastPort : ∀ s v, g { s with lastPort := v } = g s)
    (s : State) : g (finishComputation s) = g s := by
  unfold finishComputation
  rw [arbitrate_keeps g h_realloc h_flight h_previews h_consecutive h_lastPort]; exact h_flight ..

theorem reallocationCompletes_keeps (g : State → β)
    (h_grants : ∀ s v, g { s with grants := v } = g s) (h_short : ∀ s v, g { s with short := v } = g s) (h_realloc : ∀ s v, g { s with realloc := v } = g s) (h_flight : ∀ s v, g { s with flight := v } = g s) (h_previews : ∀ s v, g { s with previews := v } = g s) (h_consecutive : ∀ s v, g { s with consecutive := v } = g s) (h_lastPort : ∀ s v, g { s with lastPort := v } = g s) (h_stale : ∀ s v, g { s with stale := v } = g s) (h_notices : ∀ s v, g { s with notices := v } = g s)
    (s : State) : g (reallocationCompletes s) = g s := by
  unfold reallocationCompletes
  split
  · rw [finishComputation_keeps g h_realloc h_flight h_previews h_consecutive h_lastPort, completeReallocation_keeps g h_grants h_short h_stale h_notices]
  · rfl

theorem previewCompletes_keeps (g : State → β)
    (h_realloc : ∀ s v, g { s with realloc := v } = g s) (h_flight : ∀ s v, g { s with flight := v } = g s) (h_previews : ∀ s v, g { s with previews := v } = g s) (h_consecutive : ∀ s v, g { s with consecutive := v } = g s) (h_lastPort : ∀ s v, g { s with lastPort := v } = g s) (h_notices : ∀ s v, g { s with notices := v } = g s)
    (s : State) : g (previewCompletes s) = g s := by
  unfold previewCompletes
  split
  · rw [finishComputation_keeps g h_realloc h_flight h_previews h_consecutive h_lastPort, completePreview_keeps g h_previews h_notices]
  · rfl

theorem writeEntry_keeps (g : State → β)
    (h_workPlan : ∀ s v, g { s with workPlan := v } = g s) (h_window : ∀ s v, g { s with window := v } = g s)
    (s : State) (r : RawEntry) : g (writeEntry s r) = g s := by
  exact (h_window { s with workPlan := _ } _).trans (h_workPlan ..)

theorem stageStep_keeps (g : State → β)
    (h_window : ∀ s v, g { s with window := v } = g s)
    (s : State) : g (stageStep s) = g s := by
  exact h_window ..

theorem readSteps_keeps (g : State → β) (h_window : ∀ s v, g { s with window := v } = g s) (n : Nat) (s : State) :
    g (readSteps n s).1 = g s := by
  induction n generalizing s with
  | zero => rfl
  | succ n ih => exact (ih _).trans (stageStep_keeps g h_window s)

/-! ## The owners of the requests -/

theorem ownSetPlanWindow_keeps (g : State → β)
    (h_window : ∀ s v, g { s with window := v } = g s)
    (payload : List Byte) (s : State) : g ((ownSetPlanWindow payload s).1) = g s := by
  unfold ownSetPlanWindow
  repeat' split
  all_goals first
    | rfl
    | exact h_window ..

theorem ownWritePlanEntries_keeps (g : State → β)
    (h_workPlan : ∀ s v, g { s with workPlan := v } = g s) (h_window : ∀ s v, g { s with window := v } = g s)
    (payload : List Byte) (s : State) : g ((ownWritePlanEntries payload s).1) = g s := by
  unfold ownWritePlanEntries
  split
  · exact foldl_keeps g _ (fun _ _ => writeEntry_keeps g h_workPlan h_window ..) _ _
  · rfl

theorem ownReadPlanEntries_keeps (g : State → β)
    (h_window : ∀ s v, g { s with window := v } = g s)
    (payload : List Byte) (s : State) : g ((ownReadPlanEntries payload s).1) = g s := by
  unfold ownReadPlanEntries
  split
  · split
    · exact readSteps_keeps g h_window ..
    · rfl
  · rfl

theorem ownStart_keeps (g : State → β)
    (h_transport : ∀ s v, g { s with transport := v } = g s) (h_cycle : ∀ s v, g { s with cycle := v } = g s) (h_superframe : ∀ s v, g { s with superframe := v } = g s) (h_firstPending : ∀ s v, g { s with firstPending := v } = g s) (h_links : ∀ s v, g { s with links := v } = g s)
    (s : State) : g ((ownStart s).1) = g s := by
  unfold ownStart
  split
  · generalize retable _ _ = v
    exact (h_links { s with transport := .running, cycle := 0, superframe := 0, firstPending := true } v).trans
      ((h_firstPending { s with transport := .running, cycle := 0, superframe := 0 } true).trans
        ((h_superframe { s with transport := .running, cycle := 0 } 0).trans
          ((h_cycle { s with transport := .running } 0).trans (h_transport s .running))))
  · rfl

theorem ownStop_keeps (g : State → β)
    (h_transport : ∀ s v, g { s with transport := v } = g s)
    (s : State) : g ((ownStop s).1) = g s := by
  unfold ownStop
  dsimp only
  split
  · exact h_transport ..
  · rfl

theorem ownFreeze_keeps (g : State → β)
    (h_zones : ∀ s v, g { s with zones := v } = g s) (h_latchPending : ∀ s v, g { s with latchPending := v } = g s) (h_transport : ∀ s v, g { s with transport := v } = g s) (h_firstPending : ∀ s v, g { s with firstPending := v } = g s) (h_commitPending : ∀ s v, g { s with commitPending := v } = g s) (h_lastCommit : ∀ s v, g { s with lastCommit := v } = g s) (h_activePlan : ∀ s v, g { s with activePlan := v } = g s) (h_shadows : ∀ s v, g { s with shadows := v } = g s) (h_downlink : ∀ s v, g { s with downlink := v } = g s) (h_links : ∀ s v, g { s with links := v } = g s) (h_prot : ∀ s v, g { s with prot := v } = g s) (h_spread : ∀ s v, g { s with spread := v } = g s) (h_settle : ∀ s v, g { s with settle := v } = g s) (h_grants : ∀ s v, g { s with grants := v } = g s) (h_short : ∀ s v, g { s with short := v } = g s) (h_realloc : ∀ s v, g { s with realloc := v } = g s) (h_notices : ∀ s v, g { s with notices := v } = g s)
    (s : State) : g ((ownFreeze s).1) = g s := by
  unfold ownFreeze
  dsimp only
  split
  · rfl
  · exact enterStopped_keeps g h_zones h_latchPending h_transport h_firstPending h_commitPending h_lastCommit h_activePlan h_shadows h_downlink h_links h_prot h_spread h_settle h_grants h_short h_realloc h_notices ..

theorem ownCommitPlan_keeps (g : State → β)
    (h_commitPending : ∀ s v, g { s with commitPending := v } = g s) (h_lastCommit : ∀ s v, g { s with lastCommit := v } = g s) (h_activePlan : ∀ s v, g { s with activePlan := v } = g s) (h_shadows : ∀ s v, g { s with shadows := v } = g s) (h_grants : ∀ s v, g { s with grants := v } = g s) (h_short : ∀ s v, g { s with short := v } = g s) (h_realloc : ∀ s v, g { s with realloc := v } = g s) (h_notices : ∀ s v, g { s with notices := v } = g s)
    (s : State) : g ((ownCommitPlan s).1) = g s := by
  unfold ownCommitPlan
  dsimp only
  split
  · exact takeCommit_keeps g h_commitPending h_lastCommit h_activePlan h_shadows h_grants h_short h_realloc h_notices ..
  · exact h_commitPending ..

theorem ownAbortCommit_keeps (g : State → β)
    (h_commitPending : ∀ s v, g { s with commitPending := v } = g s)
    (s : State) : g ((ownAbortCommit s).1) = g s := by
  exact h_commitPending ..

theorem ownReadShadowCounts_keeps (g : State → β)
    
    (payload : List Byte) (s : State) : g ((ownReadShadowCounts payload s).1) = g s := by
  unfold ownReadShadowCounts
  repeat' split
  all_goals first
    | rfl

theorem ownProvisionZone_keeps (g : State → β)
    (h_zones : ∀ s v, g { s with zones := v } = g s) (h_links : ∀ s v, g { s with links := v } = g s) (h_cells : ∀ s v, g { s with cells := v } = g s)
    (payload : List Byte) (s : State) : g ((ownProvisionZone payload s).1) = g s := by
  unfold ownProvisionZone
  split
  · rfl
  · split
    · rfl
    · dsimp only
      split
      · exact (h_links ..).trans ((clearZoneCells_keeps g h_cells ..).trans (h_zones ..))
      · exact (clearZoneCells_keeps g h_cells ..).trans (h_zones ..)

theorem ownRetireZone_keeps (g : State → β)
    (h_zones : ∀ s v, g { s with zones := v } = g s) (h_links : ∀ s v, g { s with links := v } = g s) (h_prot : ∀ s v, g { s with prot := v } = g s) (h_cells : ∀ s v, g { s with cells := v } = g s) (h_spread : ∀ s v, g { s with spread := v } = g s) (h_grants : ∀ s v, g { s with grants := v } = g s) (h_short : ∀ s v, g { s with short := v } = g s) (h_realloc : ∀ s v, g { s with realloc := v } = g s) (h_notices : ∀ s v, g { s with notices := v } = g s)
    (payload : List Byte) (s : State) : g ((ownRetireZone payload s).1) = g s := by
  unfold ownRetireZone
  repeat' split
  all_goals first
    | rfl
    | exact retire_keeps g h_zones h_links h_prot h_cells h_spread h_grants h_short h_realloc h_notices ..
    | exact h_zones ..
    | exact h_links ..
    | exact h_prot ..
    | exact h_cells ..
    | exact h_spread ..
    | exact h_grants ..
    | exact h_short ..
    | exact h_realloc ..
    | exact h_notices ..

theorem ownSetBudget_keeps (g : State → β)
    (h_zones : ∀ s v, g { s with zones := v } = g s) (h_grants : ∀ s v, g { s with grants := v } = g s) (h_short : ∀ s v, g { s with short := v } = g s) (h_realloc : ∀ s v, g { s with realloc := v } = g s) (h_notices : ∀ s v, g { s with notices := v } = g s)
    (payload : List Byte) (s : State) : g ((ownSetBudget payload s).1) = g s := by
  unfold ownSetBudget
  repeat' split
  all_goals first
    | rfl
    | exact storeBudget_keeps g h_zones h_grants h_short h_realloc h_notices ..
    | exact h_zones ..
    | exact h_grants ..
    | exact h_short ..
    | exact h_realloc ..
    | exact h_notices ..

theorem ownSetNeighbours_keeps (g : State → β)
    (h_zones : ∀ s v, g { s with zones := v } = g s)
    (payload : List Byte) (s : State) : g ((ownSetNeighbours payload s).1) = g s := by
  unfold ownSetNeighbours
  repeat' split
  all_goals first
    | rfl
    | exact h_zones ..

theorem ownPinZone_keeps (g : State → β)
    (h_zones : ∀ s v, g { s with zones := v } = g s) (h_spread : ∀ s v, g { s with spread := v } = g s) (h_notices : ∀ s v, g { s with notices := v } = g s)
    (payload : List Byte) (s : State) : g ((ownPinZone payload s).1) = g s := by
  unfold ownPinZone
  repeat' split
  all_goals first
    | rfl
    | exact setPin_keeps g h_zones h_spread h_notices ..
    | exact h_zones ..
    | exact h_spread ..
    | exact h_notices ..

theorem ownMoveZone_keeps (g : State → β)
    (h_zones : ∀ s v, g { s with zones := v } = g s) (h_latchPending : ∀ s v, g { s with latchPending := v } = g s) (h_spread : ∀ s v, g { s with spread := v } = g s) (h_settle : ∀ s v, g { s with settle := v } = g s) (h_grants : ∀ s v, g { s with grants := v } = g s) (h_short : ∀ s v, g { s with short := v } = g s) (h_realloc : ∀ s v, g { s with realloc := v } = g s) (h_notices : ∀ s v, g { s with notices := v } = g s)
    (payload : List Byte) (s : State) : g ((ownMoveZone payload s).1) = g s := by
  unfold ownMoveZone
  repeat' split
  all_goals first
    | rfl
    | exact manualMove_keeps g h_zones h_latchPending h_spread h_settle h_grants h_short h_realloc h_notices ..
    | exact h_zones ..
    | exact h_latchPending ..
    | exact h_spread ..
    | exact h_settle ..
    | exact h_grants ..
    | exact h_short ..
    | exact h_realloc ..
    | exact h_notices ..

theorem ownReadZone_keeps (g : State → β)
    
    (p : Port) (payload : List Byte) (s : State) : g ((ownReadZone p payload s).1) = g s := by
  unfold ownReadZone
  repeat' split
  all_goals first
    | rfl

theorem ownAdmit_keeps (g : State → β)
    (h_ops : ∀ s v, g { s with ops := v } = g s) (h_grants : ∀ s v, g { s with grants := v } = g s) (h_short : ∀ s v, g { s with short := v } = g s) (h_realloc : ∀ s v, g { s with realloc := v } = g s) (h_notices : ∀ s v, g { s with notices := v } = g s)
    (payload : List Byte) (s : State) : g ((ownAdmit payload s).1) = g s := by
  unfold ownAdmit
  repeat' split
  all_goals first
    | rfl
    | exact admission_keeps g h_ops h_grants h_short h_realloc h_notices ..
    | exact h_ops ..
    | exact h_grants ..
    | exact h_short ..
    | exact h_realloc ..
    | exact h_notices ..

theorem ownSuspend_keeps (g : State → β)
    (h_ops : ∀ s v, g { s with ops := v } = g s) (h_spread : ∀ s v, g { s with spread := v } = g s) (h_grants : ∀ s v, g { s with grants := v } = g s) (h_short : ∀ s v, g { s with short := v } = g s) (h_realloc : ∀ s v, g { s with realloc := v } = g s) (h_notices : ∀ s v, g { s with notices := v } = g s)
    (payload : List Byte) (s : State) : g ((ownSuspend payload s).1) = g s := by
  unfold ownSuspend
  repeat' split
  all_goals first
    | rfl
    | exact suspension_keeps g h_ops h_spread h_grants h_short h_realloc h_notices ..
    | exact h_ops ..
    | exact h_spread ..
    | exact h_grants ..
    | exact h_short ..
    | exact h_realloc ..
    | exact h_notices ..

theorem ownRelease_keeps (g : State → β)
    (h_zones : ∀ s v, g { s with zones := v } = g s) (h_latchPending : ∀ s v, g { s with latchPending := v } = g s) (h_ops : ∀ s v, g { s with ops := v } = g s) (h_cells : ∀ s v, g { s with cells := v } = g s) (h_spread : ∀ s v, g { s with spread := v } = g s) (h_settle : ∀ s v, g { s with settle := v } = g s) (h_grants : ∀ s v, g { s with grants := v } = g s) (h_short : ∀ s v, g { s with short := v } = g s) (h_realloc : ∀ s v, g { s with realloc := v } = g s) (h_previews : ∀ s v, g { s with previews := v } = g s) (h_notices : ∀ s v, g { s with notices := v } = g s)
    (payload : List Byte) (s : State) : g ((ownRelease payload s).1) = g s := by
  unfold ownRelease
  repeat' split
  all_goals first
    | rfl
    | exact releaseAll_keeps g h_zones h_latchPending h_ops h_cells h_spread h_settle h_grants h_short h_realloc h_previews h_notices ..
    | exact h_zones ..
    | exact h_latchPending ..
    | exact h_ops ..
    | exact h_cells ..
    | exact h_spread ..
    | exact h_settle ..
    | exact h_grants ..
    | exact h_short ..
    | exact h_realloc ..
    | exact h_previews ..
    | exact h_notices ..

theorem ownReadOperator_keeps (g : State → β)
    
    (p : Port) (payload : List Byte) (s : State) : g ((ownReadOperator p payload s).1) = g s := by
  unfold ownReadOperator
  repeat' split
  all_goals first
    | rfl

theorem ownSetSectorEnable_keeps (g : State → β)
    (h_ops : ∀ s v, g { s with ops := v } = g s) (h_spread : ∀ s v, g { s with spread := v } = g s) (h_grants : ∀ s v, g { s with grants := v } = g s) (h_short : ∀ s v, g { s with short := v } = g s) (h_realloc : ∀ s v, g { s with realloc := v } = g s) (h_notices : ∀ s v, g { s with notices := v } = g s)
    (o : OpNo) (payload : List Byte) (s : State) : g ((ownSetSectorEnable o payload s).1) = g s := by
  unfold ownSetSectorEnable
  repeat' split
  all_goals first
    | rfl
    | exact storeEnable_keeps g h_ops h_spread h_grants h_short h_realloc h_notices ..
    | exact h_ops ..
    | exact h_spread ..
    | exact h_grants ..
    | exact h_short ..
    | exact h_realloc ..
    | exact h_notices ..

theorem ownSetSectorPower_keeps (g : State → β)
    (h_ops : ∀ s v, g { s with ops := v } = g s) (h_grants : ∀ s v, g { s with grants := v } = g s) (h_short : ∀ s v, g { s with short := v } = g s) (h_realloc : ∀ s v, g { s with realloc := v } = g s) (h_notices : ∀ s v, g { s with notices := v } = g s)
    (o : OpNo) (payload : List Byte) (s : State) : g ((ownSetSectorPower o payload s).1) = g s := by
  unfold ownSetSectorPower
  repeat' split
  all_goals first
    | rfl
    | exact storePower_keeps g h_ops h_grants h_short h_realloc h_notices ..
    | exact h_ops ..
    | exact h_grants ..
    | exact h_short ..
    | exact h_realloc ..
    | exact h_notices ..

theorem ownSetLostLimit_keeps (g : State → β)
    (h_lostLimit : ∀ s v, g { s with lostLimit := v } = g s)
    (payload : List Byte) (s : State) : g ((ownSetLostLimit payload s).1) = g s := by
  unfold ownSetLostLimit
  repeat' split
  all_goals first
    | rfl
    | exact h_lostLimit ..

theorem ownResetLossCount_keeps (g : State → β)
    (h_links : ∀ s v, g { s with links := v } = g s)
    (payload : List Byte) (s : State) : g ((ownResetLossCount payload s).1) = g s := by
  unfold ownResetLossCount
  split
  · split
    · rfl
    · exact foldl_keeps g _ (fun _ _ => clearLoss_keeps g h_links ..) _ _
  · rfl

theorem ownReadLink_keeps (g : State → β)
    
    (p : Port) (payload : List Byte) (s : State) : g ((ownReadLink p payload s).1) = g s := by
  unfold ownReadLink
  repeat' split
  all_goals first
    | rfl

theorem ownSetClassMode_keeps (g : State → β)
    (h_prot : ∀ s v, g { s with prot := v } = g s) (h_grants : ∀ s v, g { s with grants := v } = g s) (h_short : ∀ s v, g { s with short := v } = g s) (h_realloc : ∀ s v, g { s with realloc := v } = g s) (h_notices : ∀ s v, g { s with notices := v } = g s) (h_modes : ∀ s v, g { s with modes := v } = g s)
    (payload : List Byte) (s : State) : g ((ownSetClassMode payload s).1) = g s := by
  unfold ownSetClassMode
  repeat' split
  all_goals first
    | rfl
    | exact changeMode_keeps g h_prot h_grants h_short h_realloc h_notices h_modes ..
    | exact h_prot ..
    | exact h_grants ..
    | exact h_short ..
    | exact h_realloc ..
    | exact h_notices ..
    | exact h_modes ..

theorem ownSetDerateLevel_keeps (g : State → β)
    (h_grants : ∀ s v, g { s with grants := v } = g s) (h_short : ∀ s v, g { s with short := v } = g s) (h_realloc : ∀ s v, g { s with realloc := v } = g s) (h_notices : ∀ s v, g { s with notices := v } = g s) (h_tempLevel : ∀ s v, g { s with tempLevel := v } = g s) (h_reflectLevel : ∀ s v, g { s with reflectLevel := v } = g s)
    (payload : List Byte) (s : State) : g ((ownSetDerateLevel payload s).1) = g s := by
  unfold ownSetDerateLevel
  repeat' split
  all_goals first
    | rfl
    | exact h_grants ..
    | exact h_short ..
    | exact h_realloc ..
    | exact h_notices ..
    | exact h_tempLevel ..
    | exact h_reflectLevel ..
    | exact (foldl_keeps g _ (fun _ _ => takeOutputs_keeps g h_grants h_short h_realloc h_notices ..) _ _).trans (storeLevel_keeps g h_tempLevel h_reflectLevel ..)

theorem ownFaultClear_keeps (g : State → β)
    (h_prot : ∀ s v, g { s with prot := v } = g s) (h_grants : ∀ s v, g { s with grants := v } = g s) (h_short : ∀ s v, g { s with short := v } = g s) (h_realloc : ∀ s v, g { s with realloc := v } = g s) (h_notices : ∀ s v, g { s with notices := v } = g s)
    (payload : List Byte) (s : State) : g ((ownFaultClear payload s).1) = g s := by
  unfold ownFaultClear
  split
  · split
    · rfl
    · exact foldl_keeps g _ (fun _ _ => clearZone_keeps g h_prot h_grants h_short h_realloc h_notices ..) _ _
  · rfl

theorem ownReadProtection_keeps (g : State → β)
    
    (p : Port) (payload : List Byte) (s : State) : g ((ownReadProtection p payload s).1) = g s := by
  unfold ownReadProtection
  repeat' split
  all_goals first
    | rfl

theorem ownSetFilterWeight_keeps (g : State → β)
    (h_ops : ∀ s v, g { s with ops := v } = g s)
    (o : OpNo) (payload : List Byte) (s : State) : g ((ownSetFilterWeight o payload s).1) = g s := by
  unfold ownSetFilterWeight
  repeat' split
  all_goals first
    | rfl
    | exact h_ops ..

theorem ownReadLoadCells_keeps (g : State → β)
    
    (p : Port) (payload : List Byte) (s : State) : g ((ownReadLoadCells p payload s).1) = g s := by
  unfold ownReadLoadCells
  repeat' split
  all_goals first
    | rfl

theorem ownReadSectorLoads_keeps (g : State → β)
    
    (p : Port) (payload : List Byte) (s : State) : g ((ownReadSectorLoads p payload s).1) = g s := by
  unfold ownReadSectorLoads
  repeat' split
  all_goals first
    | rfl

theorem ownSetPolicy_keeps (g : State → β)
    (h_ops : ∀ s v, g { s with ops := v } = g s) (h_spread : ∀ s v, g { s with spread := v } = g s) (h_notices : ∀ s v, g { s with notices := v } = g s)
    (o : OpNo) (payload : List Byte) (s : State) : g ((ownSetPolicy o payload s).1) = g s := by
  unfold ownSetPolicy
  repeat' split
  all_goals first
    | rfl
    | exact changePolicy_keeps g h_ops h_spread h_notices ..
    | exact h_ops ..
    | exact h_spread ..
    | exact h_notices ..

theorem ownSetSilenceRule_keeps (g : State → β)
    (h_ops : ∀ s v, g { s with ops := v } = g s)
    (o : OpNo) (payload : List Byte) (s : State) : g ((ownSetSilenceRule o payload s).1) = g s := by
  unfold ownSetSilenceRule
  repeat' split
  all_goals first
    | rfl
    | exact h_ops ..

theorem ownSetThresholds_keeps (g : State → β)
    (h_ops : ∀ s v, g { s with ops := v } = g s)
    (o : OpNo) (payload : List Byte) (s : State) : g ((ownSetThresholds o payload s).1) = g s := by
  unfold ownSetThresholds
  repeat' split
  all_goals first
    | rfl
    | exact h_ops ..

theorem ownSetEvaluationPeriod_keeps (g : State → β)
    (h_ops : ∀ s v, g { s with ops := v } = g s)
    (o : OpNo) (payload : List Byte) (s : State) : g ((ownSetEvaluationPeriod o payload s).1) = g s := by
  unfold ownSetEvaluationPeriod
  repeat' split
  all_goals first
    | rfl
    | exact h_ops ..

theorem ownSetProposalWindow_keeps (g : State → β)
    (h_ops : ∀ s v, g { s with ops := v } = g s)
    (o : OpNo) (payload : List Byte) (s : State) : g ((ownSetProposalWindow o payload s).1) = g s := by
  unfold ownSetProposalWindow
  repeat' split
  all_goals first
    | rfl
    | exact h_ops ..

theorem ownAccept_keeps (g : State → β)
    (h_zones : ∀ s v, g { s with zones := v } = g s) (h_latchPending : ∀ s v, g { s with latchPending := v } = g s) (h_spread : ∀ s v, g { s with spread := v } = g s) (h_settle : ∀ s v, g { s with settle := v } = g s) (h_grants : ∀ s v, g { s with grants := v } = g s) (h_short : ∀ s v, g { s with short := v } = g s) (h_realloc : ∀ s v, g { s with realloc := v } = g s) (h_notices : ∀ s v, g { s with notices := v } = g s)
    (o : OpNo) (payload : List Byte) (s : State) : g ((ownAccept o payload s).1) = g s := by
  unfold ownAccept
  repeat' split
  all_goals first
    | rfl
    | exact acceptProposal_keeps g h_zones h_latchPending h_spread h_settle h_grants h_short h_realloc h_notices ..
    | exact h_zones ..
    | exact h_latchPending ..
    | exact h_spread ..
    | exact h_settle ..
    | exact h_grants ..
    | exact h_short ..
    | exact h_realloc ..
    | exact h_notices ..

theorem ownDecline_keeps (g : State → β)
    (h_spread : ∀ s v, g { s with spread := v } = g s) (h_settle : ∀ s v, g { s with settle := v } = g s) (h_notices : ∀ s v, g { s with notices := v } = g s)
    (o : OpNo) (payload : List Byte) (s : State) : g ((ownDecline o payload s).1) = g s := by
  unfold ownDecline
  repeat' split
  all_goals first
    | rfl
    | exact declineProposal_keeps g h_spread h_settle h_notices ..
    | exact h_spread ..
    | exact h_settle ..
    | exact h_notices ..

theorem ownSetSpreadTimes_keeps (g : State → β)
    (h_settleTime : ∀ s v, g { s with settleTime := v } = g s) (h_holdOff : ∀ s v, g { s with holdOff := v } = g s)
    (payload : List Byte) (s : State) : g ((ownSetSpreadTimes payload s).1) = g s := by
  unfold ownSetSpreadTimes
  split
  · rename_i a b c d
    exact (h_holdOff { s with settleTime := num16 a b } (num16 c d)).trans (h_settleTime s (num16 a b))
  · rfl

theorem ownReadSpreadState_keeps (g : State → β)
    
    (p : Port) (payload : List Byte) (s : State) : g ((ownReadSpreadState p payload s).1) = g s := by
  unfold ownReadSpreadState
  repeat' split
  all_goals first
    | rfl

theorem ownReadSettleCounts_keeps (g : State → β)
    
    (p : Port) (payload : List Byte) (s : State) : g ((ownReadSettleCounts p payload s).1) = g s := by
  unfold ownReadSettleCounts
  repeat' split
  all_goals first
    | rfl

theorem ownSetShare_keeps (g : State → β)
    (h_ops : ∀ s v, g { s with ops := v } = g s) (h_realloc : ∀ s v, g { s with realloc := v } = g s)
    (payload : List Byte) (s : State) : g ((ownSetShare payload s).1) = g s := by
  unfold ownSetShare
  repeat' split
  all_goals first
    | rfl
    | exact storeShare_keeps g h_ops h_realloc ..
    | exact h_ops ..
    | exact h_realloc ..

theorem ownReadPower_keeps (g : State → β)
    
    (payload : List Byte) (s : State) : g ((ownReadPower payload s).1) = g s := by
  unfold ownReadPower
  repeat' split
  all_goals first
    | rfl

theorem ownReadGrants_keeps (g : State → β)
    
    (p : Port) (payload : List Byte) (s : State) : g ((ownReadGrants p payload s).1) = g s := by
  unfold ownReadGrants
  repeat' split
  all_goals first
    | rfl

theorem ownPreview_keeps (g : State → β)
    (h_previews : ∀ s v, g { s with previews := v } = g s)
    (p : Port) (payload : List Byte) (s : State) : g ((ownPreview p payload s).1) = g s := by
  unfold ownPreview
  repeat' split
  all_goals first
    | rfl
    | exact h_previews ..

theorem ownReadEngine_keeps (g : State → β)
    (h_stale : ∀ s v, g { s with stale := v } = g s)
    (p : Port) (payload : List Byte) (s : State) : g ((ownReadEngine p payload s).1) = g s := by
  unfold ownReadEngine
  repeat' split
  all_goals first
    | rfl
    | exact h_stale ..

theorem ownReadNotices_keeps (g : State → β)
    (h_notices : ∀ s v, g { s with notices := v } = g s)
    (p : Port) (payload : List Byte) (s : State) : g ((ownReadNotices p payload s).1) = g s := by
  unfold ownReadNotices
  repeat' split
  all_goals first
    | rfl
    | exact h_notices ..

end Sys2Proof.Machine
end

