-- ==== Sys2Proof/Laws/Requests.lean ====
section
/-! SUPPORT. Every request as one operation: its owner, what the MPI does around the owner, and what no owner touches. -/

namespace Sys2Proof.Machine

open Sys2Proof

/-- The owner's part of a request taken on port p. -/
def ownerOf (r : Req) (p : Port) (payload : List Byte) : State → State × Reply :=
  match r with
  | .readStatus => fun s => (s, replyWith (statusPayload s p))
  | .readNotices => ownReadNotices p payload
  | .readQueueLengths => fun s => (s, replyWith (lengthsPayload s))
  | .start => ownStart
  | .stop => ownStop
  | .freeze => ownFreeze
  | .commitPlan => ownCommitPlan
  | .abortCommit => ownAbortCommit
  | .readTransport => fun s => (s, replyWith (transportPayload s))
  | .readShadowCounts => ownReadShadowCounts payload
  | .setPlanWindow => ownSetPlanWindow payload
  | .writePlanEntries => ownWritePlanEntries payload
  | .readPlanEntries => ownReadPlanEntries payload
  | .provisionZone => ownProvisionZone payload
  | .retireZone => ownRetireZone payload
  | .setBudget => ownSetBudget payload
  | .setNeighbours => ownSetNeighbours payload
  | .pinZone => ownPinZone payload
  | .moveZone => ownMoveZone payload
  | .readZone => ownReadZone p payload
  | .admitOperator => ownAdmit payload
  | .suspendOperator => ownSuspend payload
  | .releaseOperator => ownRelease payload
  | .readOperator => ownReadOperator p payload
  | .setSectorEnable => fun s => withOperator p s fun o => ownSetSectorEnable o payload s
  | .setSectorPower => fun s => withOperator p s fun o => ownSetSectorPower o payload s
  | .setLostLimit => ownSetLostLimit payload
  | .resetLossCount => ownResetLossCount payload
  | .readLink => ownReadLink p payload
  | .setClassMode => ownSetClassMode payload
  | .setDerateLevel => ownSetDerateLevel payload
  | .faultClear => ownFaultClear payload
  | .readClassSettings => fun s => (s, replyWith (settingsPayload s))
  | .readAlarmSummary => fun s => (s, replyWith (summaryPayload s p))
  | .readProtection => ownReadProtection p payload
  | .setFilterWeight => fun s => withOperator p s fun o => ownSetFilterWeight o payload s
  | .readLoadCells => ownReadLoadCells p payload
  | .readSectorLoads => ownReadSectorLoads p payload
  | .setPolicy => fun s => withOperator p s fun o => ownSetPolicy o payload s
  | .setSilenceRule => fun s => withOperator p s fun o => ownSetSilenceRule o payload s
  | .setThresholds => fun s => withOperator p s fun o => ownSetThresholds o payload s
  | .setEvaluationPeriod => fun s => withOperator p s fun o => ownSetEvaluationPeriod o payload s
  | .setProposalWindow => fun s => withOperator p s fun o => ownSetProposalWindow o payload s
  | .accept => fun s => withOperator p s fun o => ownAccept o payload s
  | .decline => fun s => withOperator p s fun o => ownDecline o payload s
  | .setSpreadTimes => ownSetSpreadTimes payload
  | .readSpreadState => ownReadSpreadState p payload
  | .readSettleCounts => ownReadSettleCounts p payload
  | .setShare => ownSetShare payload
  | .readPower => ownReadPower payload
  | .readShares => fun s => (s, replyWith (sharesPayload s))
  | .readGrants => ownReadGrants p payload
  | .preview => ownPreview p payload
  | .readEngine => ownReadEngine p payload

/-- Every request is its owner served by the MPI (R173). -/
theorem exec_toInstr (r : Req) (p : Port) (payload : List Byte) (s : State) :
    exec (r.toInstr p payload) s = .next (serve r p payload (ownerOf r p payload) s) := by
  cases r <;> rfl

/-! ## The taking of a request -/

/-- A request completed in any frame state but RECEIVING after the header changes nothing. -/
theorem serve_closed {r : Req} {p : Port} {payload : List Byte} {owner : State → State × Reply} {s : State}
    (h : (s.port p).frame ≠ .receiving true) : serve r p payload owner s = s := if_neg h

/-- A request that fails one of tests 3 to 5 is answered with that test's result alone. -/
theorem serve_refused {r : Req} {p : Port} {payload : List Byte} {owner : State → State × Reply} {s : State} {x : Result}
    (h : (s.port p).frame = .receiving true) (ht : testsBeforeOwner s p r payload.length = some x) :
    serve r p payload owner s = answer s p (replyOf x) := by
  simp [serve, h, ht]

/-- A request that passes tests 3 to 5 is handed to its owner. -/
theorem serve_taken {r : Req} {p : Port} {payload : List Byte} {owner : State → State × Reply} {s : State}
    (h : (s.port p).frame = .receiving true) (ht : testsBeforeOwner s p r payload.length = none) :
    serve r p payload owner s = answer (endEvent s (owner s).1) p (owner s).2 := by
  simp [serve, h, ht]

/-- No zone was queued and no slot filled: the event ends with no arbitration. -/
theorem workArrived_false {old s : State} (hq : s.realloc = old.realloc) (hp : s.previews = old.previews) :
    workArrived old s = false := by
  simp [workArrived, hq, State.previewSlot, hp]

/-- An event that brings no work is over when its owner has acted. -/
theorem endEvent_quiet {old s : State} (hq : s.realloc = old.realloc) (hp : s.previews = old.previews) :
    endEvent old s = s := by
  simp [endEvent, workArrived_false hq hp]

@[simp] theorem endEvent_self (s : State) : endEvent s s = s := endEvent_quiet rfl rfl

/-- A taken request whose owner brings no work: its owner's state, with the port answered. -/
theorem serve_quiet {r : Req} {p : Port} {payload : List Byte} {owner : State → State × Reply} {s : State}
    (h : (s.port p).frame = .receiving true) (ht : testsBeforeOwner s p r payload.length = none)
    (hq : (owner s).1.realloc = s.realloc) (hp : (owner s).1.previews = s.previews) :
    serve r p payload owner s = answer (owner s).1 p (owner s).2 := by
  rw [serve_taken h ht, endEvent_quiet hq hp]

/-- On VN tests 3 to 5 pass where the venue form takes the payload's length. -/
theorem tests_vn {s : State} {r : Req} {lens : List Nat} {n : Nat} (hl : venueLengths r = some lens)
    (hn : lens.contains n = true) : testsBeforeOwner s .vn r n = none := by
  simp only [testsBeforeOwner, formLengths, hl, tenancyPasses, tenantActive, Bool.true_or, if_true, hn]

/-- On an ACTIVE operator's port tests 3 to 5 pass where the operator form takes the payload's length. -/
theorem tests_op {s : State} {o : OpNo} {r : Req} {lens : List Nat} {n : Nat} (hl : operatorLengths r = some lens)
    (ha : (s.oper o).tenancy = .active) (hn : lens.contains n = true) : testsBeforeOwner s (.op o) r n = none := by
  simp only [testsBeforeOwner, formLengths, hl, tenancyPasses, tenantActive, ha, decide_true, Bool.true_or, if_true, hn]

end Sys2Proof.Machine
end

