-- ==== Sys2Proof/Laws/Served.lean ====
section
/-! SUPPORT. What no owner of a request touches: the ports, which the MPI alone answers, and the queue of commands. -/

namespace Sys2Proof.Machine

/- One script closes the cases of every owner; a case needs only one of its alternatives. -/
set_option linter.unreachableTactic false
set_option linter.unusedTactic false
set_option linter.unnecessarySeqFocus false

open Sys2Proof

/-- An owner leaves every port as it is: the MPI answers (R173). -/
@[simp] theorem owner_ports (r : Req) (p : Port) (payload : List Byte) (s : State) :
    (ownerOf r p payload s).1.ports = s.ports := by
  cases r with
  | readStatus => rfl
  | readNotices => apply ownReadNotices_keeps State.ports <;> intros <;> rfl
  | readQueueLengths => rfl
  | start => apply ownStart_keeps State.ports <;> intros <;> rfl
  | stop => apply ownStop_keeps State.ports <;> intros <;> rfl
  | freeze => apply ownFreeze_keeps State.ports <;> intros <;> rfl
  | commitPlan => apply ownCommitPlan_keeps State.ports <;> intros <;> rfl
  | abortCommit => apply ownAbortCommit_keeps State.ports <;> intros <;> rfl
  | readTransport => rfl
  | readShadowCounts => apply ownReadShadowCounts_keeps State.ports <;> intros <;> rfl
  | setPlanWindow => apply ownSetPlanWindow_keeps State.ports <;> intros <;> rfl
  | writePlanEntries => apply ownWritePlanEntries_keeps State.ports <;> intros <;> rfl
  | readPlanEntries => apply ownReadPlanEntries_keeps State.ports <;> intros <;> rfl
  | provisionZone => apply ownProvisionZone_keeps State.ports <;> intros <;> rfl
  | retireZone => apply ownRetireZone_keeps State.ports <;> intros <;> rfl
  | setBudget => apply ownSetBudget_keeps State.ports <;> intros <;> rfl
  | setNeighbours => apply ownSetNeighbours_keeps State.ports <;> intros <;> rfl
  | pinZone => apply ownPinZone_keeps State.ports <;> intros <;> rfl
  | moveZone => apply ownMoveZone_keeps State.ports <;> intros <;> rfl
  | readZone => apply ownReadZone_keeps State.ports <;> intros <;> rfl
  | admitOperator => apply ownAdmit_keeps State.ports <;> intros <;> rfl
  | suspendOperator => apply ownSuspend_keeps State.ports <;> intros <;> rfl
  | releaseOperator => apply ownRelease_keeps State.ports <;> intros <;> rfl
  | readOperator => apply ownReadOperator_keeps State.ports <;> intros <;> rfl
  | setSectorEnable =>
    cases p with
    | vn => rfl
    | op o => apply ownSetSectorEnable_keeps State.ports <;> intros <;> rfl
  | setSectorPower =>
    cases p with
    | vn => rfl
    | op o => apply ownSetSectorPower_keeps State.ports <;> intros <;> rfl
  | setLostLimit => apply ownSetLostLimit_keeps State.ports <;> intros <;> rfl
  | resetLossCount => apply ownResetLossCount_keeps State.ports <;> intros <;> rfl
  | readLink => apply ownReadLink_keeps State.ports <;> intros <;> rfl
  | setClassMode => apply ownSetClassMode_keeps State.ports <;> intros <;> rfl
  | setDerateLevel => apply ownSetDerateLevel_keeps State.ports <;> intros <;> rfl
  | faultClear => apply ownFaultClear_keeps State.ports <;> intros <;> rfl
  | readClassSettings => rfl
  | readAlarmSummary => rfl
  | readProtection => apply ownReadProtection_keeps State.ports <;> intros <;> rfl
  | setFilterWeight =>
    cases p with
    | vn => rfl
    | op o => apply ownSetFilterWeight_keeps State.ports <;> intros <;> rfl
  | readLoadCells => apply ownReadLoadCells_keeps State.ports <;> intros <;> rfl
  | readSectorLoads => apply ownReadSectorLoads_keeps State.ports <;> intros <;> rfl
  | setPolicy =>
    cases p with
    | vn => rfl
    | op o => apply ownSetPolicy_keeps State.ports <;> intros <;> rfl
  | setSilenceRule =>
    cases p with
    | vn => rfl
    | op o => apply ownSetSilenceRule_keeps State.ports <;> intros <;> rfl
  | setThresholds =>
    cases p with
    | vn => rfl
    | op o => apply ownSetThresholds_keeps State.ports <;> intros <;> rfl
  | setEvaluationPeriod =>
    cases p with
    | vn => rfl
    | op o => apply ownSetEvaluationPeriod_keeps State.ports <;> intros <;> rfl
  | setProposalWindow =>
    cases p with
    | vn => rfl
    | op o => apply ownSetProposalWindow_keeps State.ports <;> intros <;> rfl
  | accept =>
    cases p with
    | vn => rfl
    | op o => apply ownAccept_keeps State.ports <;> intros <;> rfl
  | decline =>
    cases p with
    | vn => rfl
    | op o => apply ownDecline_keeps State.ports <;> intros <;> rfl
  | setSpreadTimes => apply ownSetSpreadTimes_keeps State.ports <;> intros <;> rfl
  | readSpreadState => apply ownReadSpreadState_keeps State.ports <;> intros <;> rfl
  | readSettleCounts => apply ownReadSettleCounts_keeps State.ports <;> intros <;> rfl
  | setShare => apply ownSetShare_keeps State.ports <;> intros <;> rfl
  | readPower => apply ownReadPower_keeps State.ports <;> intros <;> rfl
  | readShares => rfl
  | readGrants => apply ownReadGrants_keeps State.ports <;> intros <;> rfl
  | preview => apply ownPreview_keeps State.ports <;> intros <;> rfl
  | readEngine => apply ownReadEngine_keeps State.ports <;> intros <;> rfl

/-- An owner leaves the queue of commands as it is. -/
@[simp] theorem owner_pending (r : Req) (p : Port) (payload : List Byte) (s : State) :
    (ownerOf r p payload s).1.pending = s.pending := by
  cases r with
  | readStatus => rfl
  | readNotices => apply ownReadNotices_keeps State.pending <;> intros <;> rfl
  | readQueueLengths => rfl
  | start => apply ownStart_keeps State.pending <;> intros <;> rfl
  | stop => apply ownStop_keeps State.pending <;> intros <;> rfl
  | freeze => apply ownFreeze_keeps State.pending <;> intros <;> rfl
  | commitPlan => apply ownCommitPlan_keeps State.pending <;> intros <;> rfl
  | abortCommit => apply ownAbortCommit_keeps State.pending <;> intros <;> rfl
  | readTransport => rfl
  | readShadowCounts => apply ownReadShadowCounts_keeps State.pending <;> intros <;> rfl
  | setPlanWindow => apply ownSetPlanWindow_keeps State.pending <;> intros <;> rfl
  | writePlanEntries => apply ownWritePlanEntries_keeps State.pending <;> intros <;> rfl
  | readPlanEntries => apply ownReadPlanEntries_keeps State.pending <;> intros <;> rfl
  | provisionZone => apply ownProvisionZone_keeps State.pending <;> intros <;> rfl
  | retireZone => apply ownRetireZone_keeps State.pending <;> intros <;> rfl
  | setBudget => apply ownSetBudget_keeps State.pending <;> intros <;> rfl
  | setNeighbours => apply ownSetNeighbours_keeps State.pending <;> intros <;> rfl
  | pinZone => apply ownPinZone_keeps State.pending <;> intros <;> rfl
  | moveZone => apply ownMoveZone_keeps State.pending <;> intros <;> rfl
  | readZone => apply ownReadZone_keeps State.pending <;> intros <;> rfl
  | admitOperator => apply ownAdmit_keeps State.pending <;> intros <;> rfl
  | suspendOperator => apply ownSuspend_keeps State.pending <;> intros <;> rfl
  | releaseOperator => apply ownRelease_keeps State.pending <;> intros <;> rfl
  | readOperator => apply ownReadOperator_keeps State.pending <;> intros <;> rfl
  | setSectorEnable =>
    cases p with
    | vn => rfl
    | op o => apply ownSetSectorEnable_keeps State.pending <;> intros <;> rfl
  | setSectorPower =>
    cases p with
    | vn => rfl
    | op o => apply ownSetSectorPower_keeps State.pending <;> intros <;> rfl
  | setLostLimit => apply ownSetLostLimit_keeps State.pending <;> intros <;> rfl
  | resetLossCount => apply ownResetLossCount_keeps State.pending <;> intros <;> rfl
  | readLink => apply ownReadLink_keeps State.pending <;> intros <;> rfl
  | setClassMode => apply ownSetClassMode_keeps State.pending <;> intros <;> rfl
  | setDerateLevel => apply ownSetDerateLevel_keeps State.pending <;> intros <;> rfl
  | faultClear => apply ownFaultClear_keeps State.pending <;> intros <;> rfl
  | readClassSettings => rfl
  | readAlarmSummary => rfl
  | readProtection => apply ownReadProtection_keeps State.pending <;> intros <;> rfl
  | setFilterWeight =>
    cases p with
    | vn => rfl
    | op o => apply ownSetFilterWeight_keeps State.pending <;> intros <;> rfl
  | readLoadCells => apply ownReadLoadCells_keeps State.pending <;> intros <;> rfl
  | readSectorLoads => apply ownReadSectorLoads_keeps State.pending <;> intros <;> rfl
  | setPolicy =>
    cases p with
    | vn => rfl
    | op o => apply ownSetPolicy_keeps State.pending <;> intros <;> rfl
  | setSilenceRule =>
    cases p with
    | vn => rfl
    | op o => apply ownSetSilenceRule_keeps State.pending <;> intros <;> rfl
  | setThresholds =>
    cases p with
    | vn => rfl
    | op o => apply ownSetThresholds_keeps State.pending <;> intros <;> rfl
  | setEvaluationPeriod =>
    cases p with
    | vn => rfl
    | op o => apply ownSetEvaluationPeriod_keeps State.pending <;> intros <;> rfl
  | setProposalWindow =>
    cases p with
    | vn => rfl
    | op o => apply ownSetProposalWindow_keeps State.pending <;> intros <;> rfl
  | accept =>
    cases p with
    | vn => rfl
    | op o => apply ownAccept_keeps State.pending <;> intros <;> rfl
  | decline =>
    cases p with
    | vn => rfl
    | op o => apply ownDecline_keeps State.pending <;> intros <;> rfl
  | setSpreadTimes => apply ownSetSpreadTimes_keeps State.pending <;> intros <;> rfl
  | readSpreadState => apply ownReadSpreadState_keeps State.pending <;> intros <;> rfl
  | readSettleCounts => apply ownReadSettleCounts_keeps State.pending <;> intros <;> rfl
  | setShare => apply ownSetShare_keeps State.pending <;> intros <;> rfl
  | readPower => apply ownReadPower_keeps State.pending <;> intros <;> rfl
  | readShares => rfl
  | readGrants => apply ownReadGrants_keeps State.pending <;> intros <;> rfl
  | preview => apply ownPreview_keeps State.pending <;> intros <;> rfl
  | readEngine => apply ownReadEngine_keeps State.pending <;> intros <;> rfl

/-- A request leaves the queue of commands as it is. -/
@[simp] theorem serve_pending (r : Req) (p : Port) (payload : List Byte) (s : State) :
    (serve r p payload (ownerOf r p payload) s).pending = s.pending := by
  unfold serve
  split
  · split
    · rfl
    · exact (endEvent_pending ..).trans (owner_pending ..)
  · rfl

end Sys2Proof.Machine
end

