-- ==== Sys2Proof/Tests/Slice0.lean ====
section
/-! SUPPORT. Tests with figures that the spec works out, a test of each check of a command's operands, and for each statement
with hypotheses a witness that meets them. -/

/- The kernel decides these tests, and each waits for the ones before it: one after another, in one thread. -/
set_option Elab.async false

namespace Sys2Proof.Tests

open Sys2Proof Sys2Proof.Machine

/-! ## States -/

/-- The state after a command. -/
def after (i : Instr) (s : State) : State :=
  match exec i s with
  | .next t => t
  | _ => s

/-- A whole request frame is in on port p. -/
def inFrame (s : State) (p : Port) : State := s.setPort p { s.port p with frame := .receiving true }

/-- The state after a request that completes on port p. -/
def ask (r : Req) (p : Port) (payload : List Byte) (s : State) : State := after (r.toInstr p payload) (inFrame s p)

/-- The result and the payload that port p holds. -/
def shown (p : Port) (s : State) : Option (Result × List Byte) := (s.port p).reply.map fun r => (r.result, r.payload)

/-- The kinds and values of the notices of port p, oldest first. -/
def told (p : Port) (s : State) : List (NoticeKind × Option Nat) := (s.noticeQueue p).records.map fun n => (n.kind, n.value)

/-- Sector k of an operator, enabled with its stream UP. -/
def withSector (s : State) (o : OpNo) (k : SectorNo) (request : Nat) : State :=
  s.setSector o k { enabled := true, request := request, streamUp := true }

/-- Every operator is ACTIVE. -/
def staffed : State :=
  { State.reset with ops := Vector.replicate 4 { OpRec.reset with tenancy := .active } }

/-- Zone z is provisioned, its link UP, and lane (z, o) is bound to sector k in both maps and slotted by entry n. -/
def fitted (s : State) (z : ZoneNo) (o : OpNo) (k : SectorNo) (n : EntryNo) : State :=
  let r := s.zone z
  let t := (s.setZone z { r with provisioned := true, working := r.working.set o (some k), active := r.active.set o (some k) }).setLink z
    { LinkRec.reset with state := .up }
  { t with activePlan := t.activePlan.set (spokeOf z) ((t.activePlan[spokeOf z]).set n
      { enabled := true, slot := ⟨n.val % 32, by omega⟩, position := positionOf z, operator := o, periodCode := 0, phase := 0 }) }

/-- The sectors and shares of the worked case of section 7.4. -/
def worked : State :=
  let s := withSector (withSector (withSector (withSector staffed 0 0 1100) 1 0 200) 2 0 700) 3 5 400
  let s := s.setOper 0 { s.oper 0 with share := 400 }
  let s := s.setOper 1 { s.oper 1 with share := 300 }
  s.setOper 2 { s.oper 2 with share := 300 }

/-- Zone 50 of section 7.13 before its first event. -/
def concourse : State :=
  let s := fitted (fitted (fitted (fitted worked 50 0 0 0) 50 1 0 1) 50 2 0 2) 50 3 5 3
  { s.setZone 50 { s.zone 50 with budget := 2000 } with
    transport := .running, cycle := 12, superframe := 7100
    grants := s.grants.set 50 #v[950, 200, 650, 200]
    short := s.short.set 50 #v[true, false, true, true] }

/-- Zones 0 to 4 of section 12.1, with OP0's CONSULT policy. -/
def gates : State :=
  let s := withSector (withSector staffed 0 0 1200) 0 1 1000
  let s := fitted (fitted (fitted (fitted (fitted s 0 0 0 0) 1 0 0 1) 2 0 0 2) 3 0 1 3) 4 0 1 4
  let s := s.setOper 0 { s.oper 0 with policy := .consult, high := 15000, low := 6000 }
  let s := s.setZone 0 { s.zone 0 with neighbours := [1] }
  let s := s.setZone 1 { s.zone 1 with neighbours := [0, 2] }
  let s := s.setZone 2 { s.zone 2 with neighbours := [1, 3] }
  let s := s.setZone 3 { s.zone 3 with neighbours := [2, 4] }
  let s := s.setZone 4 { s.zone 4 with neighbours := [3] }
  let s := s.setSpread 0 { SpreadRec.reset with evalCount := 624, nextId := 7 }
  let s := ((((s.setCell 0 0 6000).setCell 1 0 5500).setCell 2 0 4200).setCell 3 0 2000).setCell 4 0 1500
  { s with transport := .running, cycle := 63, superframe := 3999 }

/-- The proposal of section 12.1. -/
def proposal7 : Proposal := { id := 7, zone := 2, fromSector := 0, toSector := 1, remaining := 124 }

/-- Section 12.1 before the ACCEPT. -/
def proposed : State :=
  let s := gates.setSpread 0 { SpreadRec.reset with proposal := some proposal7, nextId := 8, outcome := .proposed }
  { s with cycle := 30, superframe := 4001, grants := laneSet s.grants 2 0 1200 }

/-- A live zone 37 alone, for section 4.11. -/
def stand : State := { fitted worked 37 0 0 0 with transport := .running, cycle := 5, superframe := 2310 }

/-- Spoke 3 of section 2.11 before cycle 3. -/
def spoke3 : State :=
  let s := withSector (withSector staffed 0 3 2000) 3 6 2000
  let s := (s.setOper 2 { s.oper 2 with tenancy := .suspended }).setZone 25
    { s.zone 25 with provisioned := true, working := #v[some 3, none, none, some 6], active := #v[some 3, none, none, some 6] }
  let s := s.setLink 25 { LinkRec.reset with state := .up }
  let e : PlanEntry := { enabled := true, slot := 5, position := 1, operator := 0, periodCode := 1, phase := 0 }
  let row := (((s.activePlan[3]).set 2 e).set 7 { e with position := 4, operator := 2, periodCode := 0 }).set 9
    { e with operator := 3, periodCode := 2, phase := 3 }
  { s with
    transport := .running, superframe := 900, cycle := 2, activePlan := s.activePlan.set 3 row
    grants := s.grants.set 25 #v[1200, 0, 0, 400] }

/-- Zone 50 with a history of 16 good words. -/
def heardLong : State :=
  concourse.setLink 50 { LinkRec.reset with state := .up, history := List.replicate 16 true, missed := 0, loss := 3 }

/-! ## The check of operands -/

theorem test_order_of_reactions_is_checked :
    Instr.wellFormed (.cycleStart [.spread, .dwell, .commit, .fill, .latch, .protect]) = true ∧
    Instr.wellFormed (.cycleStart [.latch, .fill, .commit, .dwell, .protect, .spread]) = false ∧
    Instr.wellFormed (.cycleStart [.latch, .commit, .fill, .dwell, .protect]) = false ∧
    Instr.wellFormed (.cycleStart [.latch, .commit, .fill, .dwell, .protect, .protect]) = false := by decide

theorem test_payload_length_is_checked :
    Instr.wellFormed (.setNeighbours .vn (List.replicate 30 0)) = true ∧
    Instr.wellFormed (.setNeighbours .vn (List.replicate 31 0)) = false := by decide

theorem test_uplink_word_length_is_checked :
    Instr.wellFormed (.uplinkStatusWord 0 0 (List.replicate 8 0)) = true ∧
    Instr.wellFormed (.uplinkStatusWord 0 0 (List.replicate 9 0)) = false := by decide

theorem test_table_gives_no_bits : decodeTableWord 32 0x9E01134E = none := by decide

/-! ## Frames (section 11.1) -/

/-- The example of section 11.1: READ ZONE (19) on VN. -/
theorem test_frame_of_read_zone :
    decodeFrame .vn [0x9E, 0x01, 0x13, 0x4E] = some (.readZone .vn [0x13]) ∧
    encodeFrame .readZone [0x13] = [0x9E, 0x01, 0x13, 0x4E] := by decide

/-- Frames written out from section 11.2: READ STATUS 0x01 and START 0x08 without a payload. -/
theorem test_frames_without_payload :
    decodeFrame (.op 2) [0x01, 0x00, 0xFF] = some (.readStatus (.op 2) []) ∧
    decodeFrame .vn [0x08, 0x00, 0xF8] = some (.start .vn []) := by decide

/-- A wrong check byte, a header of even parity and a code of no request (R171, R173). -/
theorem test_frame_faults :
    decodeFrame .vn [0x9E, 0x01, 0x13, 0x4F] = some (.checkFailed .vn) ∧
    decodeFrame .vn [0x1E, 0x01, 0x13, 0xCE] = some (.checkFailed .vn) ∧
    decodeFrame .vn [0x04, 0x00, 0xFC] = some (.unknownRequest .vn) := by decide

/-- A length byte of 31 is a length error at once, and a frame of 30 bytes is none (R169). -/
theorem test_length_byte_above_30 :
    decodeFrame .vn [0x9E, 0x1F] = some (.frameLengthError .vn) ∧
    decodeFrame .vn (0x9E :: 0x1E :: List.replicate 30 0 ++ [0x44]) = some (.readZone .vn (List.replicate 30 0)) := by decide +kernel

/-! ## Words and records (sections 11.4, 11.5) -/

/-- The example of R184: position 3, no block, TEMP_WARN raised. -/
theorem test_uplink_word_of_position_3 :
    judgeWord 3 [0x60, 0x01, 0xF2] = some { alarms := #v[true, false, false, false, false, false], activity := none } ∧
    judgeWord 2 [0x60, 0x01, 0xF2] = none ∧ judgeWord 3 [0x60, 0x01, 0xF3] = none ∧ judgeWord 3 [0x60, 0x01] = none := by decide +kernel

/-- A word with a block: the samples 180, 0, 1023 and 5 packed without gaps, OP0 first. -/
theorem test_uplink_word_with_block :
    (judgeWord 2 [0x50, 0x00, 0x2D, 0x00, 0x0F, 0xFC, 0x05, 0xB2]).bind UplinkWord.activity = some #v[180, 0, 1023, 5] := by
  decide +kernel

/-- The control word of position 4 with a null block has its null flag and no grant (R184). -/
theorem test_control_words :
    SlotSend.controlWord { position := 4, operator := 2, stream := none, grant := 7 } = [0x94, 0, 0] ∧
    SlotSend.controlWord { position := 1, operator := 0, stream := some 3, grant := 1200 } = [0x20, 0x04, 0xB0] := by decide

/-- GRANT_SHORT (50, 150) to OP1 at (7100, 12) as the thirteen bytes of R183. -/
theorem test_notice_record :
    Notice.bytes
      { kind := .grantShort, stamp := { superframe := 7100, cycle := 12 }, zone := some 50, operator := some 1,
        fromSector := none, toSector := none, alarmClass := none, proposalId := none, value := some 150 } =
      [0x12, 0x61, 0x1B, 0xBC, 12, 50, 1, 0, 0, 0, 0, 0, 150] := by decide

/-! ## The filter and the formula (sections 5.3, 7.4, 7.13, 12.4) -/

theorem test_filter_figures :
    filterCell 64 6400 180 = 6480 ∧ filterCell 64 11500 180 = 11501 ∧ filterCell 64 6480 0 = 6379 ∧
      filterCell 64 11520 180 = 11520 ∧ filterCell 1024 4375 40 = 3922 := by decide

theorem test_worked_allocations :
    allocate { budget := 1500, requests := #v[1100, 200, 700, 400], shares := #v[400, 300, 300, 0] } = #v[708, 200, 504, 86] ∧
    allocate { budget := 2000, requests := #v[1100, 200, 700, 400], shares := #v[400, 300, 300, 0] } = #v[950, 200, 650, 200] ∧
    allocate { budget := 900, requests := #v[1100, 200, 700, 400], shares := #v[400, 300, 300, 0] } = #v[392, 200, 289, 17] ∧
    allocate { budget := 1200, requests := #v[1100, 200, 700, 400], shares := #v[400, 300, 300, 0] } = #v[552, 200, 400, 47] ∧
    allocate { budget := 2000, requests := #v[1100, 200, 700, 1000], shares := #v[400, 300, 300, 0] } = #v[885, 200, 628, 285] := by
  decide

/-! ## Ports (chapter 10) -/

theorem test_status_byte :
    ((after (.headerByteComplete (.op 1)) (after (.chipSelectAssert (.op 1)) concourse)).port (.op 1)).status = 0x09 := by decide

/-- A notice and a STOP between two bits: bit 7 keeps what it was sent with, and bits 1..0 show DRAINING. Where the event comes
between bit 1 and bit 0, or after both, they show RUNNING (R167, R180). -/
theorem test_status_bits_keep_the_moment_they_are_sent :
    let s := placeNext (after (.chipSelectAssert (.op 1)) concourse) (.op 1)
    let event (s : State) : State := { file s [.op 1] (notice s .shadowed) with transport := .draining }
    let edges (n : Nat) (s : State) : State := (List.range n).foldl (fun s _ => placeNext s (.op 1)) s
    ((after (.headerByteComplete (.op 1)) (event s)).port (.op 1)).status = 0x0A ∧
      ((edges 5 s).port (.op 1)).placed = 7 ∧
      ((after (.headerByteComplete (.op 1)) (event (edges 5 s))).port (.op 1)).status = 0x09 ∧
      ((edges 1 (event (edges 5 s))).port (.op 1)).status = 0x09 ∧
      ((after (.headerByteComplete (.op 1)) (event (edges 6 s))).port (.op 1)).status = 0x09 := by decide

theorem test_bytes_on_miso :
    let t := ask .stop .vn [] State.reset
    (t.port .vn).miso 0 = some 0xFF ∧ ((after (.replyStart .vn) t).port .vn).miso 0 = some 0xA5 ∧
      ((after (.replyStart .vn) t).port .vn).miso 3 = some 0x5B ∧ ((after (.replyEnd .vn) (after (.replyStart .vn) t)).port .vn).miso 4 =
        some 0x00 := by decide

theorem test_release_of_a_cut_read_notices :
    let s := { concourse with transport := .stopped }.setNotices (.op 1) { records := [notice concourse .shadowed], overrun := false }
    let t := after (.chipSelectRelease (.op 1)) (ask .readNotices (.op 1) [8] s)
    (t.noticeQueue (.op 1)).overrun = true ∧ (t.port (.op 1)).replyCut = true := by decide

theorem test_venue_request_on_operator_port :
    shown (.op 1) (ask .start (.op 1) [] concourse) = some (.notPermitted, []) ∧
    shown (.op 1) (ask .setPolicy (.op 1) [0, 0] concourse) = some (.badLength, []) := by decide

theorem test_absent_operator_reads_status :
    shown (.op 1) (ask .readStatus (.op 1) [] State.reset) = some (.ok, [2, 0x06, 0x48, 0x01, 0, 0, 0, 0, 0, 0, 0, 0]) ∧
    shown (.op 1) (ask .readLink (.op 1) [0] State.reset) = some (.tenantInactive, []) := by decide

/-! ## The plan window: the example of section 10.6 -/

theorem test_window_write_wraps_the_window :
    let s := after (.setPlanWindow .vn [2, 3, 60, 62]) (inFrame State.reset .vn)
    let t := ask .writePlanEntries .vn [0x85, 0x20, 0, 0x85, 0x20, 0, 0x85, 0x20, 0, 0x85, 0x26, 0] s
    shown .vn t = some (.ok, [1, 3, 61]) ∧ t.workEntry 2 62 = { PlanEntry.reset with enabled := true, slot := 5, position := 1 } ∧
      t.workEntry 3 60 = { PlanEntry.reset with slot := 5, position := 1 } ∧
      shown .vn (ask .writePlanEntries .vn (List.replicate 9 0) t) = some (.ok, [0, 2, 61]) := by decide

theorem test_window_read_holds_a_stage :
    let s := after (.setPlanWindow .vn [5, 5, 10, 12]) (inFrame State.reset .vn)
    let t := ask .readPlanEntries .vn [4] s
    shown .vn t = some (.ok, [0xFF, 0xFF, 0, 0, 0, 5, 10, 0, 0, 0, 5, 11, 0, 0, 0, 5, 12, 0, 0, 0]) ∧
      shown .vn (ask .readPlanEntries .vn [1] t) = some (.ok, [5, 10, 0, 0, 0]) := by decide

/-! ## Slot filling: the example of section 2.11 -/

theorem test_cycle_3_of_section_2_11 :
    let t := after (.cycleStart standardOrder) spoke3
    (t.downlink.map fun d => (d.slots[3])[5]) = some (some { position := 4, operator := 2, stream := none, grant := 0 }) ∧
      t.shadow 3 9 = { count := 1, reported := true } ∧ told .vn t = [(.shadowed, some 9)] := by decide +kernel

theorem test_cycle_0_of_section_2_11 :
    let t := after (.cycleStart standardOrder) { spoke3 with superframe := 899, cycle := 63 }
    (t.downlink.map fun d => (d.slots[3])[5]) = some (some { position := 1, operator := 0, stream := some 3, grant := 1200 }) ∧
      t.shadow 3 7 = { count := 1, reported := true } ∧ t.superframe = 900 ∧ t.cycle = 0 := by decide +kernel

/-! ## The transport -/

theorem test_start_awaits_the_first_cycle_start :
    let t := ask .start .vn [] (after (.provisionZone .vn [9]) (inFrame State.reset .vn))
    t.transport = .running ∧ (t.link 9).state = .search ∧ (t.link 8).state = .idle ∧ t.firstPending = true := by
  decide +kernel

theorem test_stop_drains_and_the_boundary_ends_it :
    let t := ask .stop .vn [] { concourse with cycle := 63 }
    t.transport = .draining ∧ (after .drainEnd t).transport = .stopped ∧ (after .drainEnd t).grant 50 0 = 0 ∧
      told .vn (after .drainEnd t) = [(.zoneDark, some 2)] := by decide +kernel

theorem test_freeze_keeps_the_counts :
    let t := ask .freeze .vn [] concourse
    t.transport = .stopped ∧ t.cycle = 12 ∧ (t.link 50).state = .idle ∧ shown .vn t = some (.ok, []) := by decide +kernel

theorem test_commit_while_running_waits :
    let t := ask .commitPlan .vn [] concourse
    t.commitPending = true ∧ t.activePlan = concourse.activePlan ∧ shown .vn (ask .abortCommit .vn [] t) = some (.ok, [1]) := by
  decide +kernel

theorem test_mark_pulse_ends : (after .markPulseEnd { State.reset with mark := true }).mark = false := by decide

theorem test_stream_goes_down :
    let t := after (.streamDown 1 0) concourse
    t.grant 50 1 = 0 ∧ told .vn t = [(.streamChanged, some 0)] := by decide +kernel

/-! ## Links: the examples of sections 3.10 and 12.2 -/

theorem test_fourth_missed_word_of_sixteen :
    let t := after (.uplinkStatusWord 6 2 []) (heardLong.setLink 50
      { heardLong.link 50 with history := List.replicate 13 true ++ [false, false, false], missed := 2 })
    (t.link 50).state = .weak ∧ (t.link 50).missed = 3 ∧ told .vn t = [(.linkWeak, some 4)] := by decide +kernel

theorem test_eighth_missed_word_loses_the_link :
    let t := after (.uplinkStatusWord 6 2 []) (heardLong.setLink 50
      { heardLong.link 50 with state := .weak, history := List.replicate 9 true ++ List.replicate 7 false, missed := 7 })
    t.link 50 = { state := .lost, goodRun := 0, history := [], missed := 8, dwell := 0, loss := 4 } ∧
      t.grant 50 0 = 0 ∧ told .vn t = [(.zoneDark, some 1)] ∧
      told (.op 1) t = [(.zoneDark, some 1)] ∧ told (.op 0) t = [(.zoneDark, some 1), (.grantFull, some 0)] := by decide +kernel

theorem test_second_good_word_brings_the_link_up :
    let t := after (.uplinkStatusWord 6 2 [0x40, 0x01, 0x5C])
      (heardLong.setLink 50 { LinkRec.reset with state := .search, goodRun := 1, loss := 4 })
    (t.link 50).state = .up ∧ (t.link 50).history = [] ∧ (t.protRec 50 0).raw = false ∧ told .vn t = [(.zoneLive, some 4)] := by
  decide +kernel

theorem test_dwell_expires :
    ((after (.lostDwellExpiry 50) (heardLong.setLink 50 { LinkRec.reset with state := .lost, missed := 8, dwell := 63, loss := 4 })).link 50) =
      { LinkRec.reset with state := .search, loss := 4 } := by decide

theorem test_lost_limit_is_clamped :
    (ask .setLostLimit .vn [33] State.reset).lostLimit = 32 ∧ shown .vn (ask .setLostLimit .vn [1] State.reset) = some (.clamped, []) := by
  decide

theorem test_loss_counts_are_reset :
    ((ask .resetLossCount .vn [0xFF] heardLong).link 50).loss = 0 ∧
      shown .vn (ask .resetLossCount .vn [64] heardLong) = some (.outOfRange, []) := by decide +kernel

theorem test_read_link_of_an_operator :
    shown (.op 0) (ask .readLink (.op 0) [50] heardLong) = some (.ok, [2, 0, 3]) := by decide +kernel

/-! ## Protection: the examples of sections 4.11 and 4.12 -/

theorem test_temp_warn_rises :
    let t := after (.uplinkStatusWord 4 5 [0xA0, 0x01, 0x1F]) stand
    t.protRec 37 0 = { raw := true, state := .active, latched := true } ∧ derate t 37 = 192 ∧ muted t 37 = false ∧
      told (.op 0) t = [(.alarmRaised, some 0), (.derateChanged, some 192)] ∧ told (.op 3) t = [] := by decide +kernel

theorem test_optic_low_rises_as_supply_high_falls :
    let s := (stand.setProt 37 4 { raw := true, state := .active, latched := true })
    let t := after (.uplinkStatusWord 4 5 [0xA0, 0x20, 0xF8]) s
    t.protRec 37 4 = { raw := false, state := .held, latched := true } ∧ (t.protRec 37 5).state = .active ∧ muted t 37 = true ∧
      told .vn t = [(.alarmRaised, some 4)] := by decide +kernel

theorem test_retry_done_unmutes :
    let t := after (.retryExpiry 37 1) (stand.setProt 37 1 { raw := false, state := .recovering 1, latched := true })
    t.protRec 37 1 = { raw := false, state := .idle, latched := true } ∧
      told .vn t = [(.alarmCleared, some 2), (.zoneUnmuted, some 256)] := by decide +kernel

theorem test_partial_clear :
    let s := (stand.setProt 37 4 { raw := false, state := .held, latched := true }).setProt 37 5
      { raw := true, state := .active, latched := true }
    let t := ask .faultClear .vn [37] s
    shown .vn t = some (.stillActive, [0, 1]) ∧ (t.protRec 37 4).latched = false ∧ (t.protRec 37 5).latched = true ∧
      told .vn t = [(.alarmCleared, some 3), (.zoneUnmuted, some 256)] := by decide +kernel

theorem test_class_mode_outside_its_table :
    shown .vn (ask .setClassMode .vn [1, 0] State.reset) = some (.badMode, []) ∧
      shown .vn (ask .setClassMode .vn [6, 0] State.reset) = some (.outOfRange, []) ∧
      (ask .setClassMode .vn [0, 4] State.reset).mode 0 = .report := by decide +kernel

theorem test_derate_level_of_other_class :
    shown .vn (ask .setDerateLevel .vn [1, 9] State.reset) = some (.badMode, []) ∧
      (ask .setDerateLevel .vn [2, 9] State.reset).reflectLevel = 9 := by decide +kernel

theorem test_venue_summary :
    let s := (stand.setProt 37 0 { raw := true, state := .active, latched := true }).setProt 3 5
      { raw := false, state := .idle, latched := true }
    shown .vn (ask .readAlarmSummary .vn [] s) = some (.ok, [1, 32, 0, 1]) ∧
      shown (.op 3) (ask .readAlarmSummary (.op 3) [] s) = some (.ok, [0, 0, 0]) := by decide +kernel

/-! ## Load cells and spreading: the example of section 12.1 -/

theorem test_activity_block_updates_the_carrying_lane :
    let s := ({ concourse with cycle := 0 }.setCell 50 0 6400).setCell 50 2 7
    let t := after (.uplinkStatusWord 6 2 [0x50, 0x00, 0x2D, 0x00, 0x0F, 0xFC, 0x05, 0xB2])
      (s.setOper 2 { s.oper 2 with tenancy := .suspended })
    t.cell 50 0 = 6480 ∧ t.cell 50 2 = 7 := by decide +kernel

theorem test_sector_loads :
    sectorLoad gates 0 0 = 15700 ∧ sectorLoad gates 0 1 = 3500 := by decide +kernel

theorem test_evaluation_proposes_zone_2 :
    let t := after (.evaluation 0) gates
    t.spreadRec 0 = { evalCount := 0, lastClosed := none, nextId := 8, outcome := .proposed,
                      proposal := some { proposal7 with remaining := 125 } } ∧
      told (.op 0) t = [(.proposal, some 125)] := by decide +kernel

theorem test_accept_writes_the_working_map :
    let t := ask .accept (.op 0) [7] proposed
    t.working 2 0 = some 1 ∧ t.active 2 0 = some 0 ∧ t.latchPending = true ∧ shown (.op 0) t = some (.ok, [2, 1]) ∧
      told .vn t = [(.proposalAnswered, some 1)] := by decide

theorem test_second_accept_is_late :
    shown (.op 0) (ask .accept (.op 0) [7] (proposed.setSpread 0 { SpreadRec.reset with lastClosed := some 7 })) = some (.late, []) ∧
      shown (.op 0) (ask .accept (.op 0) [6] proposed) = some (.unknownProposal, []) := by decide

theorem test_latch_of_the_accepted_move :
    let t := after (.cycleStart standardOrder) (ask .accept (.op 0) [7] proposed)
    t.active 2 0 = some 1 ∧ t.settleCount 2 0 = 3750 ∧ t.grant 2 0 = 1000 ∧ t.mark = true ∧ t.latchPending = false := by
  decide +kernel

theorem test_decline_holds_off :
    let t := ask .decline (.op 0) [7] proposed
    t.settleCount 2 0 = 18750 ∧ t.working 2 0 = some 0 ∧ (t.spreadRec 0).lastClosed = some 7 := by decide

theorem test_proposal_expires_under_drop :
    let t := after (.proposalExpiry 0) (proposed.setSpread 0
      { proposed.spreadRec 0 with proposal := some { proposal7 with remaining := 1 } })
    t.settleCount 2 0 = 3750 ∧ (t.spreadRec 0).proposal = none ∧ told (.op 0) t = [(.proposalExpired, some 2)] := by decide +kernel

theorem test_thresholds_in_order :
    shown (.op 0) (ask .setThresholds (.op 0) [0, 0, 0, 5, 0, 0, 0, 5] staffed) = some (.thresholdOrder, []) ∧
      ((ask .setThresholds (.op 0) [0, 0x3F, 0xF0, 0, 0, 0, 0, 0] staffed).oper 0).high = 4190208 ∧
      shown (.op 0) (ask .setThresholds (.op 0) [0, 0x3F, 0xF0, 1, 0, 0, 0, 0] staffed) = some (.outOfRange, []) := by decide

theorem test_policy_change_withdraws :
    let t := ask .setPolicy (.op 0) [2] proposed
    (t.oper 0).policy = .fixed ∧ (t.spreadRec 0).proposal = none ∧ told .vn t = [(.proposalWithdrawn, some 5)] := by decide

/-! ## Power sharing: the examples of sections 7.13, 12.3 and 12.4 -/

theorem test_derate_clips_in_proportion :
    let t := after (.uplinkStatusWord 6 2 [0x40, 0x01, 0x5C]) concourse
    t.grants[50] = #v[712, 150, 487, 150] ∧ t.short[50] = #v[true, true, true, true] ∧
      told (.op 1) t = [(.alarmRaised, some 0), (.derateChanged, some 192), (.grantShort, some 150)] ∧ t.realloc = [] := by
  decide +kernel

/-- Section 12.3 after its first event: TEMP_WARN is ACTIVE and the allocation runs. -/
theorem test_budget_cut_while_the_allocation_runs :
    let s := concourse.setProt 50 0 { raw := true, state := .active, latched := true }
    let s := { s with
      grants := s.grants.set 50 #v[712, 150, 487, 150], short := s.short.set 50 #v[true, true, true, true]
      flight := some { kind := .reallocation, zone := 50, snapshot := snapshotOf s 50 } }
    let t := ask .setBudget .vn [50, 0x04, 0xB0] s
    t.grants[50] = #v[427, 90, 292, 90] ∧ t.realloc = [50] ∧ told (.op 1) t = [] := by decide +kernel

theorem test_stale_result_is_discarded :
    let s := { concourse with
      realloc := [50], flight := some { kind := .reallocation, zone := 50, snapshot := snapshotOf concourse 50 } }
    let t := after .reallocationCompletion s
    t.stale = 1 ∧ t.grants[50] = #v[950, 200, 650, 200] ∧ t.realloc = [] ∧ t.flight.isSome = true := by decide +kernel

theorem test_result_is_written :
    let s := concourse.setProt 50 0 { raw := true, state := .active, latched := true }
    let s := { s with
      grants := s.grants.set 50 #v[712, 150, 487, 150], short := s.short.set 50 #v[true, true, true, true]
      flight := some { kind := .reallocation, zone := 50, snapshot := snapshotOf s 50 } }
    let t := after .reallocationCompletion s
    t.grants[50] = #v[708, 200, 504, 86] ∧ t.short[50] = #v[true, false, true, true] ∧ told (.op 1) t = [(.grantFull, some 200)] ∧
      t.flight = none := by decide +kernel

theorem test_preview_of_a_power_raise :
    let t := ask .preview (.op 3) [50, 0x03, 0xE8] concourse
    shown (.op 3) t = some (.ok, []) ∧ t.flight.map Computation.snapshot =
      some { budget := 2000, requests := #v[1100, 200, 700, 1000], shares := #v[400, 300, 300, 0] } ∧
      told (.op 3) (after .previewCompletion t) = [(.previewResult, some 285)] := by decide +kernel

theorem test_occupied_slot_is_busy :
    let s := concourse.setPreview (.op 3) (some { zone := 50, operator := 3, request := 9, running := true, cancelled := false })
    shown (.op 3) (ask .preview (.op 3) [51, 0x03, 0xE8] s) = some (.previewBusy, []) := by decide +kernel

theorem test_sector_power_is_clamped :
    let t := ask .setSectorPower (.op 3) [5, 0x1F, 0x41] concourse
    (t.sector 3 5).request = 8000 ∧ shown (.op 3) t = some (.clamped, []) ∧ t.grants[50] = #v[950, 200, 650, 200] := by
  decide +kernel

theorem test_share_sum_is_limited :
    shown .vn (ask .setShare .vn [3, 0, 1] concourse) = some (.shareExceeded, []) ∧
      shown .vn (ask .setShare .vn [0, 0, 200] concourse) = some (.ok, [0x03, 0x20]) := by decide +kernel

theorem test_four_reallocations_let_a_preview_in :
    let s := { concourse with realloc := [1, 2], consecutive := 4, lastPort := .op 0 }.setPreview .vn
      (some { zone := 1, operator := 0, request := 9, running := false, cancelled := false })
    (arbitrate s).realloc = [1, 2] ∧ (arbitrate s).lastPort = .vn ∧ (arbitrate s).consecutive = 0 ∧
      (arbitrate { s with consecutive := 3 }).realloc = [2] := by decide +kernel

/-! ## Zones, tenancy and notices -/

theorem test_neighbour_lists :
    ((ask .setNeighbours .vn [5, 6, 7, 8, 63] State.reset).zone 5).neighbours = [6, 7, 8, 63] ∧
      shown .vn (ask .setNeighbours .vn [5, 6, 5] State.reset) = some (.badList, []) ∧
      shown .vn (ask .setNeighbours .vn [5, 6, 6] State.reset) = some (.badList, []) := by decide

theorem test_pin_of_an_unprovisioned_zone :
    shown .vn (ask .pinZone .vn [5, 1] State.reset) = some (.badState, []) ∧
      shown .vn (ask .pinZone .vn [5, 0] State.reset) = some (.ok, []) := by decide

theorem test_move_in_stopped_is_latched_at_once :
    let t := ask .moveZone .vn [50, 1, 6] { concourse with transport := .stopped }
    t.active 50 1 = some 6 ∧ t.latchPending = false ∧ t.settleCount 50 1 = 3750 ∧ t.mark = false := by decide +kernel

theorem test_retire_zone :
    let t := ask .retireZone .vn [50] concourse
    (t.zone 50).provisioned = false ∧ t.active 50 0 = none ∧ t.grants[50] = #v[0, 0, 0, 0] ∧ (t.zone 50).budget = 2000 ∧
      told .vn t = [(.zoneDark, some 3)] := by decide +kernel

theorem test_suspend_clips_to_0 :
    let t := ask .suspendOperator .vn [2] concourse
    (t.oper 2).tenancy = .suspended ∧ t.grants[50] = #v[950, 200, 0, 200] ∧
      told (.op 2) t = [(.tenancyChanged, some 2), (.grantFull, some 0)] := by decide +kernel

theorem test_release_keeps_stream_presence :
    let t := ask .releaseOperator .vn [3] concourse
    (t.oper 3).tenancy = .absent ∧ t.sector 3 5 = { enabled := false, request := 0, streamUp := true } ∧
      told (.op 3) t = [(.tenancyChanged, some 0)] ∧ t.working 50 3 = none ∧ t.active 50 3 = some 5 := by decide +kernel

theorem test_read_notices_empties_the_queue :
    let s := concourse.setNotices .vn { records := List.replicate 3 (notice concourse .shadowed), overrun := true }
    let t := ask .readNotices .vn [2] s
    (t.noticeQueue .vn).records.length = 1 ∧ (t.noticeQueue .vn).overrun = false ∧
      (shown .vn t).map (fun r => (r.2.take 2, r.2.length, r.2.getLast?)) = some ([1, 2], 29, some 1) := by decide +kernel

theorem test_full_queue_loses_its_oldest :
    let n := notice State.reset .shadowed
    let q := appendNotice { records := { n with value := some 1 } :: List.replicate 31 n, overrun := false } { n with value := some 2 }
    q.records.length = 32 ∧ q.overrun = true ∧ q.records.head? = some n := by decide +kernel

theorem test_reset_from_any_state : after .rstn { concourse with pending := [.rstn] } = { State.reset with pending := [.rstn] } := by
  decide +kernel

theorem test_empty_queue_idles : step concourse = .next concourse := by rfl

/-! ## Witnesses: for each statement with hypotheses, states and operands that meet them, clause by clause -/

theorem frameIn (s : State) (p : Port) : FrameIn (inFrame s p) p := by simp [FrameIn, inFrame]

theorem tenant_staffed (p : Port) (o : OpNo) : Tenant (inFrame staffed p) o := by
  simp [Tenant, inFrame, staffed, State.oper]

theorem witness_StepRunsFrontCommand :
    ({ State.reset with pending := [.rstn, .markPulseEnd] } : State).pending = .rstn :: [.markPulseEnd] := rfl

theorem witness_FramesDecodeOrFailTheirCheck :
    let f := encodeFrame .setNeighbours (List.replicate 30 0xFF)
    (List.replicate 30 (0xFF : Byte)).length ≤ Config.maxPayload ∧ (0 < f.length ∧ f[0]? ≠ some 0) ∧ 32 < f.length ∧ f[32]? ≠ some 0 := by
  decide +kernel

theorem portNumber_portOf (n : Fin 5) : portNumber (portOf n) = n := by revert n; decide

/-- An IDLE port, no header byte under way, and a header byte with one bit placed, with six and with seven, on the port clocked next. -/
theorem witness_StatusByteShown :
    (State.reset.port (.op 3)).frame = .idle ∧
    (State.reset.pending = [] ∧ ∀ q, (State.reset.port q).frame ≠ .receiving false) ∧
    ∀ n ∈ [1, 6, 7], let p := portOf (Config.clockedPort 0)
      let s := State.reset.setPort p { PortRec.reset with frame := .receiving false, placed := n }
      s.pending = [] ∧ (s.port p).frame = .receiving false ∧ portNumber p = Config.clockedPort s.edges ∧ (s.port p).placed < 8 := by
  refine ⟨by decide, ⟨rfl, fun q => ?_⟩, fun n hn => ⟨rfl, by simp, portNumber_portOf _, ?_⟩⟩
  · cases q with
    | vn => decide
    | op o => revert o; decide
  · simp only [List.mem_cons, List.not_mem_nil, or_false] at hn
    simp only [State.setPort_port]
    omega

theorem witness_FrameEventsReachNoOwner :
    ((State.reset.setPort .vn { PortRec.reset with frame := .waiting }).port .vn).frame = .waiting ∧
    ((State.reset.setPort .vn { PortRec.reset with frame := .replying }).port .vn).frame = .replying ∧
    FrameIn (inFrame State.reset .vn) .vn := ⟨by decide, by decide, frameIn ..⟩

theorem witness_TestsBeforeOwnerInOrder :
    (FrameIn (inFrame State.reset (.op 0)) (.op 0) ∧ formLengths .start (.op 0) = none) ∧
    (FrameIn (inFrame State.reset (.op 1)) (.op 1) ∧ formLengths .readZone (.op 1) = some [1] ∧
      ¬ Tenant (inFrame State.reset (.op 1)) 1 ∧ Req.readZone ≠ .readStatus ∧ Req.readZone ≠ .readNotices) ∧
    FrameIn (inFrame staffed (.op 1)) (.op 1) ∧ (∀ o, Port.op 1 = .op o → Tenant (inFrame staffed (.op 1)) o) ∧
      ([] : List Byte).length ∉ [1] ∧ (List.replicate 30 (0 : Byte)).length ∉ [1] :=
  ⟨⟨frameIn .., rfl⟩, ⟨frameIn .., rfl, by unfold Tenant; decide, by decide, by decide⟩, frameIn ..,
    fun o _ => tenant_staffed _ o, by decide, by decide⟩

theorem witness_RefusalChangesNothing : FrameIn (inFrame State.reset (.op 3)) (.op 3) := frameIn ..

theorem witness_ReadStatusReply : FrameIn (inFrame State.reset .vn) .vn ∧ FrameIn (inFrame staffed (.op 3)) (.op 3) :=
  ⟨frameIn .., frameIn ..⟩

theorem witness_VenueReadsReply :
    FrameIn (inFrame State.reset .vn) .vn ∧ FrameIn (inFrame staffed (.op 3)) (.op 3) ∧
      Req.readShares ∈ [Req.readTransport, .readClassSettings, .readShares, .readQueueLengths] :=
  ⟨frameIn .., frameIn .., by decide⟩

/-- The first and the last runs in range, and the first ones outside it. -/
theorem witness_RunReadsReply :
    (FrameIn (inFrame staffed (.op 3)) (.op 3) ∧ Tenant (inFrame staffed (.op 3)) 3) ∧ FrameIn (inFrame State.reset .vn) .vn ∧
    (∀ x ∈ [(0, 1), (48, 16), (63, 1)], x.1 ≤ 63 ∧ 1 ≤ x.2 ∧ x.2 ≤ 16 ∧ x.1 + x.2 ≤ 64) ∧
    ∀ x ∈ [(0, 0), (0, 17), (64, 1), (49, 16)], ¬ (x.1 ≤ 63 ∧ 1 ≤ x.2 ∧ x.2 ≤ 16 ∧ x.1 + x.2 ≤ 64) :=
  ⟨⟨frameIn .., tenant_staffed ..⟩, frameIn .., by decide, by decide⟩

theorem witness_ZoneReadsReply :
    FrameIn (inFrame State.reset .vn) .vn ∧ FrameIn (inFrame staffed (.op 3)) (.op 3) ∧ Tenant (inFrame staffed (.op 3)) 3 :=
  ⟨frameIn .., frameIn .., tenant_staffed ..⟩

theorem witness_OperatorReadsReply :
    FrameIn (inFrame State.reset .vn) .vn ∧ FrameIn (inFrame staffed (.op 0)) (.op 0) ∧ Tenant (inFrame staffed (.op 0)) 0 :=
  ⟨frameIn .., frameIn .., tenant_staffed ..⟩

theorem witness_AlarmSummaryReply :
    FrameIn (inFrame stand .vn) .vn ∧ FrameIn (inFrame staffed (.op 2)) (.op 2) ∧ Tenant (inFrame staffed (.op 2)) 2 :=
  ⟨frameIn .., frameIn .., tenant_staffed ..⟩

theorem witness_ReadEngineReply :
    FrameIn (inFrame State.reset .vn) .vn ∧ FrameIn (inFrame staffed (.op 1)) (.op 1) ∧ Tenant (inFrame staffed (.op 1)) 1 :=
  ⟨frameIn .., frameIn .., tenant_staffed ..⟩

/-- The last bounds that are legal, and for each bound the first that is not. -/
theorem witness_PlanWindowSet :
    FrameIn (inFrame State.reset .vn) .vn ∧
    ((7 : Byte).toNat = (7 : SpokeNo).val ∧ (63 : Byte).toNat = (63 : EntryNo).val ∧ (7 : SpokeNo) ≤ 7 ∧ (63 : EntryNo) ≤ 63) ∧
    (7 < (8 : Byte).toNat ∧ 63 < (64 : Byte).toNat ∧ (6 : Byte).toNat < (7 : Byte).toNat) :=
  ⟨frameIn .., by decide, by decide⟩

theorem witness_PlanEntriesWritten :
    FrameIn (inFrame State.reset .vn) .vn ∧ (List.replicate 3 (0 : Byte)).length ∈ [3, 6, 9, 12, 15] ∧
      (List.replicate 15 (0 : Byte)).length ∈ [3, 6, 9, 12, 15] := ⟨frameIn .., by decide, by decide⟩

theorem witness_PlanEntriesRead :
    FrameIn (inFrame State.reset .vn) .vn ∧ (1 ≤ (1 : Byte).toNat ∧ (5 : Byte).toNat ≤ 5) ∧
      (0 : Byte).toNat = 0 ∧ 6 < (7 : Byte).toNat := ⟨frameIn .., by decide, by decide, by decide⟩

theorem witness_ProvisionZoneProvisions :
    (FrameIn (inFrame concourse .vn) .vn ∧ ((inFrame concourse .vn).zone 50).provisioned = true) ∧
      ((inFrame concourse .vn).zone 63).provisioned = false := ⟨⟨frameIn .., by decide⟩, by decide⟩

theorem witness_RetireZoneTakesZoneOut :
    FrameIn (inFrame concourse .vn) .vn ∧ ((inFrame concourse .vn).zone 0).provisioned = false ∧
      ((inFrame concourse .vn).zone 50).provisioned = true ∧ live (inFrame concourse .vn) 50 = true ∧
      ((inFrame gates .vn).zone 2).provisioned = true :=
  ⟨frameIn .., by decide, by decide, by decide, by decide⟩

theorem witness_BudgetStoredAndClipped :
    FrameIn (inFrame concourse .vn) .vn ∧ 65535 ≤ 65535 ∧ ((inFrame concourse .vn).zone 50).budget = 2000 ∧
      1999 * derate (inFrame concourse .vn) 50 / 256 < 2000 * derate (inFrame concourse .vn) 50 / 256 :=
  ⟨frameIn .., Nat.le_refl _, by decide, by decide +kernel⟩

theorem witness_NeighboursAndPinStored :
    FrameIn (inFrame concourse .vn) .vn ∧
    (([6, 7, 8, 63] : List Byte) = ([6, 7, 8, 63] : List ZoneNo).map (fun n => BitVec.ofNat 8 n.val) ∧
      ([6, 7, 8, 63] : List ZoneNo).Nodup ∧ (5 : ZoneNo) ∉ [6, 7, 8, 63]) ∧
    (¬ ∃ l : List ZoneNo, ([64] : List Byte) = l.map (fun n => BitVec.ofNat 8 n.val) ∧ l.length ≤ 4 ∧ l.Nodup ∧ (5 : ZoneNo) ∉ l) ∧
    ((inFrame concourse .vn).zone 5).provisioned = false ∧ ((inFrame concourse .vn).zone 50).provisioned = true ∧
      ((inFrame concourse .vn).zone 50).pinned = false := by
  refine ⟨frameIn .., by decide, ?_, by decide, by decide, by decide⟩
  rintro ⟨l, h, -⟩
  match l with
  | [] => cases h
  | [n] =>
    have h64 := congrArg BitVec.toNat (List.cons.inj h).1
    rw [BitVec.toNat_ofNat] at h64
    have e : (64 : Byte).toNat = 64 := rfl
    omega
  | _ :: _ :: _ => simp at h

theorem witness_MoveZoneWritesWorkingMap :
    FrameIn (inFrame concourse .vn) .vn ∧ ((inFrame concourse .vn).zone 5).provisioned = false ∧
      (((inFrame concourse .vn).zone 50).provisioned = true ∧ ((inFrame concourse .vn).oper 3).tenancy ≠ .absent) ∧
      (inFrame concourse .vn).transport ≠ .stopped ∧ (State.reset.oper 3).tenancy = .absent ∧
      (inFrame { concourse with transport := .stopped } .vn).transport = .stopped :=
  ⟨frameIn .., by decide, by decide, by decide, by decide, by decide⟩

theorem witness_TenancyAdmittedAndSuspended :
    FrameIn (inFrame State.reset .vn) .vn ∧ ¬ Tenant (inFrame State.reset .vn) 3 ∧ FrameIn (inFrame staffed .vn) .vn ∧
      Tenant (inFrame staffed .vn) 0 := ⟨frameIn .., by unfold Tenant; decide, frameIn .., tenant_staffed ..⟩

theorem witness_ReleaseReturnsOperatorToDefaults :
    FrameIn (inFrame concourse .vn) .vn ∧ ((inFrame concourse .vn).oper 0).share ≠ 0 ∧ Tenant (inFrame staffed .vn) 3 :=
  ⟨frameIn .., by decide, tenant_staffed ..⟩

theorem witness_SectorTableStored :
    FrameIn (inFrame concourse (.op 3)) (.op 3) ∧ Tenant (inFrame concourse (.op 3)) 3 ∧
      ((inFrame concourse (.op 3)).sector 3 5).enabled = true ∧ ((inFrame concourse (.op 3)).sector 3 7).enabled = false ∧
      (inFrame concourse (.op 3)).active 50 3 = some 5 ∧ carrying (inFrame concourse (.op 3)) 50 3 = true ∧
      ((inFrame concourse (.op 3)).sector 3 5).request ≠ 8000 :=
  ⟨frameIn .., by unfold Tenant; decide, by decide, by decide, by decide, by decide +kernel, by decide⟩

/-- The first number above each range. -/
theorem witness_NumbersAboveTheirRangeRefused :
    (FrameIn (inFrame State.reset .vn) .vn ∧ (∀ o, Port.vn = .op o → Tenant (inFrame State.reset .vn) o) ∧
      (formLengths .setBudget .vn = some [3] ∧ 63 < (64 : Byte).toNat) ∧
      (formLengths .faultClear .vn = some [1] ∧ (254 : Byte) ≠ 0xFF ∧ 63 < (254 : Byte).toNat) ∧
      (formLengths .setShare .vn = some [3] ∧ 3 < (4 : Byte).toNat) ∧ formLengths .readOperator .vn = some [1] ∧
      (formLengths .readShadowCounts .vn = some [3] ∧ 7 < (8 : Byte).toNat) ∧
      formLengths .setClassMode .vn = some [2] ∧ 5 < (6 : Byte).toNat) ∧
    FrameIn (inFrame staffed (.op 1)) (.op 1) ∧ (∀ o, Port.op 1 = .op o → Tenant (inFrame staffed (.op 1)) o) ∧
      formLengths .setSectorPower (.op 1) = some [3] :=
  ⟨⟨frameIn .., fun _ h => (by cases h), by decide, by decide, by decide, by decide, by decide, by decide, by decide⟩, frameIn ..,
    fun o _ => tenant_staffed _ o, by decide⟩

theorem witness_TransportStartedAndStopped :
    FrameIn (inFrame State.reset .vn) .vn ∧ (inFrame State.reset .vn).transport = .stopped ∧
      FrameIn (inFrame concourse .vn) .vn ∧ (inFrame concourse .vn).transport ≠ .stopped :=
  ⟨frameIn .., by decide, frameIn .., by decide⟩

theorem witness_PlanCommittedOrWithdrawn :
    FrameIn (inFrame State.reset .vn) .vn ∧ (inFrame State.reset .vn).transport = .stopped ∧
      FrameIn (inFrame concourse .vn) .vn ∧ (inFrame concourse .vn).transport ≠ .stopped :=
  ⟨frameIn .., by decide, frameIn .., by decide⟩

theorem witness_TransportEntersStopped :
    (FrameIn (inFrame concourse .vn) .vn ∧ (inFrame concourse .vn).transport ≠ .stopped) ∧
    (({ concourse with transport := .draining, cycle := 63 } : State).transport = .draining ∧
      63 ≤ ({ concourse with transport := .draining, cycle := 63 } : State).cycle) ∧
    ({ concourse with transport := .draining, firstPending := true } : State).firstPending = true :=
  ⟨⟨frameIn .., by decide⟩, by decide, by decide⟩

/-- RUNNING at the last stamp, whose counts both wrap, with a latch and a commit waiting; and DRAINING before its boundary. -/
theorem witness_CycleStartAdvancesCounts :
    let s : State := { concourse with cycle := 63, superframe := 65535, latchPending := true, commitPending := true }
    let t : State := { concourse with transport := .draining, cycle := 62 }
    (s.transport ≠ .stopped ∧ s.transport = .running ∧ s.firstPending = false ∧ ¬ s.cycle < 63 ∧ ¬ s.superframe < 65535) ∧
      t.transport ≠ .stopped ∧ t.firstPending = false ∧ t.cycle < 63 := by decide

/-- Entry 7 of spoke 3 takes slot 5 in the cycle after cycle 62, where entry 9 matches as well; and a lane that carries before
and after a superframe start with a commit. -/
theorem witness_SlotsFilledFromActivePlan :
    let s : State := { spoke3 with cycle := 62 }
    let u : State := { concourse with cycle := 63, commitPending := true }
    (u.transport = .running ∧ u.transport ≠ .stopped ∧ ¬ u.cycle < 63 ∧ u.commitPending = true ∧ carrying u 50 3 = true) ∧
    s.transport ≠ .stopped ∧ s.transport = .running ∧ s.firstPending = false ∧ s.cycle < 63 ∧ s.latchPending = false ∧
      ((s.activeEntry 3 7).enabled = true ∧ (s.activeEntry 3 7).slot = 5 ∧
        (s.cycle + 1) % 2 ^ (s.activeEntry 3 7).periodCode.val = (s.activeEntry 3 7).phase.val) ∧
      (s.activeEntry 3 9).enabled = true ∧ (s.activeEntry 3 9).slot = 5 ∧
        (s.cycle + 1) % 2 ^ (s.activeEntry 3 9).periodCode.val = (s.activeEntry 3 9).phase.val := by decide

/-- Before a superframe start: a retry timer and a window at their last counts, under DROP, an evaluation at its period, a lane
with equal bindings that no proposal names, and an ABSENT operator; and DRAINING before its boundary. -/
theorem witness_CycleStartCountsDown :
    let t : State := { concourse with transport := .draining, cycle := 62 }
    let s := (gates.setProt 0 1 { raw := false, state := .recovering 1, latched := true }).setSpread 0
      { gates.spreadRec 0 with proposal := some { proposal7 with remaining := 1 } }
    s.transport = .running ∧ ((s.oper 0).tenancy = .active ∧ (s.oper 0).policy ≠ .fixed ∧ ¬ (s.spreadRec 0).evalCount + 1 < (s.oper 0).period) ∧
      (s.protRec 0 1).state = .recovering 1 ∧ (s.spreadRec 0).proposal = some { proposal7 with remaining := 1 } ∧
      (s.oper 0).silence = .drop ∧ (s.working 1 0 = s.active 1 0 ∧ (1 : ZoneNo) ≠ proposal7.zone ∧ (s.oper 0).policy ≠ .auto) ∧
      (State.reset.oper 0).tenancy = .absent ∧
      t.transport ≠ .stopped ∧ t.firstPending = false ∧ t.cycle < 63 := by decide

/-- In the cycle before a superframe start and in the last one before that, with the latch before the Spread Engine and after
it, and with nothing that the Spread Engine would move. -/
theorem witness_LatchTakenAtCycleStart :
    let s : State := { workingWrite concourse 50 3 none with cycle := 62 }
    let t : State := { s with cycle := 63 }
    let late : List Reaction := [.spread, .commit, .fill, .dwell, .protect, .latch]
    s.transport ≠ .stopped ∧ s.firstPending = false ∧ s.cycle < 63 ∧ s.latchPending = true ∧ s.working 50 3 ≠ s.active 50 3 ∧
      (t.transport ≠ .stopped ∧ t.transport = .running ∧ t.latchPending = true ∧ t.working 50 3 ≠ t.active 50 3) ∧
      (t.oper 3).tenancy ≠ .absent ∧ (t.spreadRec 3).proposal = none ∧
      ((effectiveOrder []).idxOf .latch < (effectiveOrder []).idxOf .spread ∧
        ¬ (effectiveOrder late).idxOf .latch < (effectiveOrder late).idxOf .spread) ∧
      ∀ o : OpNo, (t.oper o).policy ≠ .auto ∧ (t.spreadRec o).proposal = none := by decide

theorem witness_StreamPresenceFollowsFramer :
    (concourse.sector 3 5).streamUp ≠ false ∧ (concourse.sector 3 7).streamUp ≠ true ∧ (concourse.sector 3 5).streamUp = true ∧
      concourse.active 50 3 = some 5 ∧ (concourse.spreadRec 3).proposal = none ∧ (concourse.oper 3).tenancy ≠ .absent ∧
      (State.reset.sector 0 0).streamUp ≠ true ∧ (State.reset.oper 0).tenancy = .absent := by decide

theorem witness_EventsOutOfPlaceChangeNothing :
    ¬ FrameIn State.reset .vn ∧ State.reset.transport = .stopped ∧
      (concourse.transport ≠ .stopped ∧ (concourse.zone 50).provisioned = true ∧
        ((concourse.setLink 50 { LinkRec.reset with state := .lost }).link (zoneAt 6 2)).state = .lost ∧
        ((concourse.setLink 50 LinkRec.reset).link (zoneAt 6 2)).state = .idle) ∧ (concourse.zone (zoneAt 0 0)).provisioned = false ∧
      (concourse.firstPending = false ∧ ({ concourse with cycle := 62 } : State).cycle < 63) ∧ State.reset.flight = none ∧
      ((concourse.link 50).state ≠ .lost ∧ (concourse.link 50).dwell < 63) ∧ (concourse.protRec 50 0).state = .idle ∧
      (concourse.spreadRec 0).proposal = none ∧ ¬ Tenant State.reset 0 ∧ (staffed.oper 0).policy = .fixed ∧
      (gates.setSpread 0 { SpreadRec.reset with evalCount := 623 }).spreadRec 0 = { SpreadRec.reset with evalCount := 623 } := by
  unfold FrameIn Tenant; decide

/-- A word of position 2, good and missed, in SEARCH before the run, within it, and with the missed count at its limit. -/
theorem witness_SearchWordsBringLinkUp :
    let s (r : LinkRec) := concourse.setLink 50 { r with state := .search }
    (zoneAt 6 2 = 50 ∧ concourse.transport ≠ .stopped ∧ (concourse.zone 50).provisioned = true) ∧
      ((s LinkRec.reset).link 50).state = .search ∧ judgeWord 2 [] = none ∧ judgeWord 2 [0x40, 0x01, 0x5C] ≠ none ∧
      ((s LinkRec.reset).link 50).goodRun = 0 ∧ ((s { LinkRec.reset with goodRun := 1 }).link 50).goodRun ≠ 0 ∧
      ¬ ((s { LinkRec.reset with missed := 255 }).link 50).missed < 255 := by decide +kernel

/-- The word that loses the link, one that makes it WEAK, and one of a WEAK link that restores it. -/
theorem witness_HeardWordsKeepHistory :
    let lost : LinkRec := { LinkRec.reset with state := .up, missed := 7 }
    (concourse.transport ≠ .stopped ∧ (concourse.zone (zoneAt 6 2)).provisioned = true) ∧
      (((concourse.setLink 50 lost).link 50).state = .up ∧ (judgeWord 2 []).isSome = false ∧ concourse.lostLimit ≤ 7 + 1) ∧
      ((heardLong.link 50).state = .up ∧ ¬ (heardLong.link 50).history.length < 16 ∧ ¬ heardLong.lostLimit ≤ 1) ∧
      ((concourse.setLink 50 { lost with state := .weak }).link 50).state = .weak ∧ (judgeWord 2 [0x40, 0x01, 0x5C]).isSome = true := by
  decide +kernel

/-- Each edge of each kind of record: rising from IDLE, RECOVERING and HELD and under IGNORE, falling from ACTIVE, IDLE and
HELD, and no edge. -/
theorem witness_AlarmVectorTaken :
    let s (m : ClassMode) (r : ProtRec) := { stand.setProt 37 0 r with modes := stand.modes.set 0 m }
    (zoneAt 4 5 = 37 ∧ stand.transport ≠ .stopped ∧ live stand 37 = true ∧ (judgeWord 5 [0xA0, 0x01, 0x1F]).isSome = true ∧
      (judgeWord 5 [0xA0, 0x00, 0x18]).isSome = true) ∧
      (((s .ignore ProtRec.reset).protRec 37 0).raw = false ∧ (s .ignore ProtRec.reset).mode 0 = .ignore) ∧
      ((s .derate { ProtRec.reset with state := .recovering 1 }).protRec 37 0).state = .recovering 1 ∧
      ((s .latch { ProtRec.reset with state := .held }).protRec 37 0).state = .held ∧
      ∀ m : List ClassMode, m = [.derate, .latch, .retrySlow, .retryFast, .report] → ∀ x ∈ m,
        ((s x { raw := true, state := .active, latched := true }).protRec 37 0).raw = true ∧
          (s x { raw := true, state := .active, latched := true }).mode 0 = x := by
  refine ⟨by decide +kernel, by decide, by decide, by decide, ?_⟩
  rintro m rfl
  decide

theorem witness_ClassSettingsTaken :
    FrameIn (inFrame stand .vn) .vn ∧ ((0 : Byte).toNat = ClassMode.derate.code ∧ (inFrame stand .vn).mode 0 = .derate) ∧
      ((4 : Byte).toNat = ClassMode.report.code ∧ (inFrame stand .vn).mode 0 ≠ .report) ∧
      (∀ m : List ClassMode, m = [.derate, .latch, .retrySlow, .retryFast, .report, .ignore] → ∀ x ∈ m, (6 : Byte).toNat ≠ x.code) ∧
      ((1 : ClassNo) ≠ 0 ∧ (1 : ClassNo) ≠ 2) ∧ (255 : Byte) ≠ 0 :=
  ⟨frameIn .., by decide, by decide, (by rintro m rfl; decide), by decide, by decide⟩

theorem witness_FaultClearReleases :
    FrameIn (inFrame stand .vn) .vn ∧ (0xFF : Byte) = 0xFF ∧ (63 : Byte).toNat = (63 : ZoneNo).val ∧
      (stand.setProt 37 0 { raw := true, state := .active, latched := true }).protRec 37 0 =
        { raw := true, state := .active, latched := true } ∧ (stand.protRec 37 1).raw = false :=
  ⟨frameIn .., rfl, rfl, by decide, by decide⟩

theorem witness_CountsExpire :
    let s := (gates.setLink 0 { LinkRec.reset with state := .lost, dwell := 63 }).setProt 1 1
      { raw := false, state := .recovering 1, latched := true }
    let t := s.setSpread 0 { s.spreadRec 0 with proposal := some { proposal7 with remaining := 1 } }
    t.transport ≠ .stopped ∧ ((t.link 0).state = .lost ∧ 63 ≤ (t.link 0).dwell) ∧ (t.protRec 1 1).state = .recovering 1 ∧
      (t.spreadRec 0).proposal = some { proposal7 with remaining := 1 } ∧ (t.oper 0).silence = .drop ∧
      (t.setOper 0 { t.oper 0 with silence := .apply }).oper 0 = { t.oper 0 with silence := .apply } := by decide

theorem witness_CellMovesTowardSample : (1 ≤ 1 ∧ 65472 ≤ 65472 ∧ 0 ≤ 1023) ∧ 1 ≤ 4096 ∧ 4096 ≤ 4096 ∧ 0 ≤ 65472 ∧ 1023 ≤ 1023 := by
  decide

theorem witness_ActivityBlockUpdatesCarryingLanes :
    let s : State := { concourse with cycle := 0 }
    (zoneAt 6 2 = 50 ∧ s.transport ≠ .stopped ∧ live s 50 = true ∧ s.cycle = 0 ∧
      (judgeWord 2 [0x50, 0x00, 0x2D, 0x00, 0x0F, 0xFC, 0x05, 0xB2]).bind UplinkWord.activity = some #v[180, 0, 1023, 5]) ∧
      State.reset.transport = .stopped ∧ live s 49 = false ∧ concourse.cycle ≠ 0 ∧ judgeWord 2 [] = none := by decide +kernel

theorem witness_ParametersStored :
    FrameIn (inFrame State.reset .vn) .vn ∧ ((0xFF : Byte) = 0xFF ∧ (63 : Byte).toNat = (63 : ZoneNo).val) ∧
      (FrameIn (inFrame staffed (.op 3)) (.op 3) ∧ Tenant (inFrame staffed (.op 3)) 3) ∧ 1 < (2 : Byte).toNat ∧
      (4190208 < 2 ^ 32 ∧ 4190207 < 2 ^ 32) := ⟨frameIn .., by decide, ⟨frameIn .., tenant_staffed ..⟩, by decide, by decide⟩

theorem witness_ProposalsAnswered :
    let s := inFrame proposed (.op 0)
    FrameIn s (.op 0) ∧ Tenant s 0 ∧ ((1 : Byte).toNat = Policy.consult.code ∧ (s.oper 0).policy = .consult) ∧
      ((2 : Byte).toNat = Policy.fixed.code ∧ (s.oper 0).policy ≠ .fixed) ∧ 2 < (3 : Byte).toNat ∧
      ((s.spreadRec 0).proposal = some proposal7 ∧ proposal7.id = (7 : Byte).toNat) ∧ s.transport ≠ .stopped ∧
      proposal7.id ≠ (8 : Byte).toNat := by
  refine ⟨frameIn .., by unfold Tenant; decide, by decide, by decide, by decide, by decide, by decide, by decide⟩

/-- The evaluation of section 12.1, which falls due, has sector 0 loaded above H, and has a pair that R109 chooses: sector 1 and
zone 2. -/
theorem witness_EvaluationDecides :
    (gates.transport ≠ .stopped ∧ (gates.oper 0).tenancy = .active ∧ (gates.oper 0).policy = .consult ∧
      (gates.oper 0).period ≤ (gates.spreadRec 0).evalCount + 1 ∧ (gates.spreadRec 0).proposal = none ∧
      gates.latchPending = false) ∧
    LoadedSector gates 0 0 ∧ (gates.oper 0).high < sectorLoad gates 0 0 ∧ Candidate gates 0 0 1 2 ∧
    ((proposed.spreadRec 0).proposal ≠ none ∧ ({ gates with latchPending := true } : State).latchPending = true) ∧
    sectorLoad (gates.setOper 0 { gates.oper 0 with high := 15700 }) 0 0 ≤ 15700 := by
  refine ⟨by decide, by unfold LoadedSector; decide +kernel, by decide +kernel, ?_, by decide, by decide +kernel⟩
  refine ⟨by decide +kernel, by decide +kernel, ⟨3, by decide, by decide, by decide⟩, by decide +kernel, ⟨0, by decide, by decide, by decide⟩⟩

/-- Shares of a sum of 1000, with requests that fit and that do not. -/
theorem witness_AllocationFollowsFormula :
    400 + 300 + 300 + 0 ≤ 1000 ∧ 1100 + 200 + 700 + 400 ≤ 2400 ∧ 2399 < 1100 + 200 + 700 + 400 ∧
      0 < 1100 - min 1100 (2399 * 400 / 1000) := by decide

theorem witness_ShareStoredAndZonesQueued :
    FrameIn (inFrame concourse .vn) .vn ∧ 1001 ≤ 65535 ∧ 1000 < 1001 ∧
      (1000 < ((inFrame concourse .vn).oper 0).share + ((inFrame concourse .vn).oper 1).share +
        ((inFrame concourse .vn).oper 2).share + 1) ∧
      ((inFrame concourse .vn).oper 0).share + ((inFrame concourse .vn).oper 1).share + 300 + 0 ≤ 1000 ∧
      299 ≠ ((inFrame concourse .vn).oper 2).share :=
  ⟨frameIn .., by decide, by decide, by decide, by decide, by decide⟩

theorem witness_PreviewFillsItsSlot :
    let full : State := (inFrame concourse .vn).setPreview .vn
      (some { zone := 50, operator := 3, request := 9, running := false, cancelled := false })
    (FrameIn (inFrame concourse (.op 3)) (.op 3) ∧ Tenant (inFrame concourse (.op 3)) 3) ∧ FrameIn (inFrame concourse .vn) .vn ∧
      8001 ≤ 65535 ∧ full.previewSlot .vn ≠ none ∧
      ({ concourse with flight := some { kind := .reallocation, zone := 1, snapshot := snapshotOf concourse 1 } } : State).flight ≠ none ∧
      (inFrame concourse .vn).flight = none ∧ (inFrame concourse .vn).realloc = [] ∧
      (∀ l : List Port, l = allPorts → ∀ x ∈ l, (inFrame concourse .vn).previewSlot x = none) ∧ carrying concourse 50 3 = true :=
  ⟨⟨frameIn .., by unfold Tenant; decide⟩, frameIn .., by decide, by decide, by decide, by decide, by decide,
    (by rintro l rfl; decide), by decide +kernel⟩

/-- A reallocation and a preview in flight, and WAITING previews before a queue that holds a zone after three and after four
reallocations. -/
theorem witness_CompletionsEndInArbitration :
    let n := snapshotOf concourse 50
    let s : State := { concourse with flight := some { kind := .reallocation, zone := 50, snapshot := n } }
    let e : PreviewSlot := { zone := 50, operator := 3, request := 1000, running := true, cancelled := false }
    let t : State := { concourse.setPreview .vn (some e) with flight := some { kind := .preview .vn 3 1000 (some 5), zone := 50, snapshot := n } }
    let w : State := { concourse.setPreview .vn (some { e with running := false }) with realloc := [51], consecutive := 4 }
    (s.flight = some { kind := .reallocation, zone := 50, snapshot := n } ∧ 50 ∉ s.realloc ∧
      (50 : ZoneNo) ∈ ({ s with realloc := [50] } : State).realloc) ∧
    (t.flight = some { kind := .preview .vn 3 1000 (some 5), zone := 50, snapshot := n } ∧ t.previewSlot .vn = some e) ∧
    (w.realloc = 51 :: [] ∧ 4 ≤ w.consecutive ∧ ({ w with consecutive := 3 } : State).consecutive < 4) ∧
      w.previewSlot .vn = some { e with running := false } ∧ State.reset.realloc = [] := by
  refine ⟨⟨rfl, by decide, by decide⟩, ⟨rfl, rfl⟩, ⟨rfl, by decide, by decide⟩, rfl, rfl⟩

theorem witness_NoticesReadAndFiled :
    FrameIn (inFrame State.reset (.op 3)) (.op 3) ∧ (1 ≤ (1 : Byte).toNat ∧ (8 : Byte).toNat ≤ 8 ∧ 8 < (9 : Byte).toNat) ∧
      [Port.op 0, .vn].Nodup ∧ NoticeLaw State.reset ∧
      ((State.reset.setNotices .vn { records := List.replicate 32 (notice State.reset .shadowed), overrun := false }).noticeQueue
        .vn).records.length = 32 ∧ (State.reset.noticeQueue .vn).records.length < 32 := by
  refine ⟨frameIn .., by decide, by decide, fun p => ?_, by decide, by decide⟩
  cases p with
  | vn => decide
  | op o => revert o; decide

theorem witness_OnlyAllocationRaisesGrants : Instr.previewCompletion ≠ .reallocationCompletion := by decide

theorem witness_OperatorPortReachesItsOwnOperator :
    Req.preview ≠ .accept ∧ (inFrame proposed (.op 0)).transport ≠ .stopped := by decide

/-- The state of section 12.3 keeps the laws, with its budget used to the last milliwatt, and it takes a step. -/
theorem witness_StepKeepsPowerLaws :
    let s : State := { concourse with pending := [.markPulseEnd] }
    PowerInv s ∧ step s = .next (after .markPulseEnd concourse) := by
  refine ⟨⟨by unfold BudgetLaw; decide +kernel, by unfold RequestLaw; decide +kernel, by unfold ShareLaw; decide, by unfold QueueLaw; decide,
    trivial, by unfold IdleLaw; decide +kernel⟩, rfl⟩

/-- Whether a record is good is decidable. -/
def decideGood (m : ClassMode) (r : ProtRec) : Decidable (goodRecord m r) := by
  unfold goodRecord
  split <;> infer_instance

/-- One record is ACTIVE, one RECOVERING at its last count, and one HELD. -/
theorem witness_StepKeepsProtectionRecords :
    let s := ((stand.setProt 37 0 { raw := true, state := .active, latched := true }).setProt 37 1
      { raw := false, state := .recovering 1, latched := true }).setProt 5 4 { raw := false, state := .held, latched := true }
    ProtectionInv { s with pending := [.markPulseEnd] } ∧ step { s with pending := [.markPulseEnd] } = .next (after .markPulseEnd s) := by
  refine ⟨⟨by unfold LatchedLaw; decide +kernel, ?_, by unfold ModesLaw; decide, by unfold DarkLaw; decide +kernel⟩, rfl⟩
  refine fun z c => @of_decide_eq_true _ (decideGood _ _) ?_
  revert z c
  decide +kernel

/-- A proposal stands and a working binding differs from its active one. -/
theorem witness_StepKeepsZoneMapAndStopped :
    let s := workingWrite proposed 0 0 none
    MapInv { s with pending := [.markPulseEnd] } ∧ StoppedInv { s with pending := [.markPulseEnd] } ∧
      step { s with pending := [.markPulseEnd] } = .next (after .markPulseEnd s) := by
  refine ⟨⟨by unfold unprovisionedZone; decide +kernel, by decide +kernel, fun h => absurd h (by decide), fun o p h => ?_⟩,
    fun h => absurd h (by decide), rfl⟩
  have h0 : ∀ q : OpNo, q ≠ 0 → (proposed.spreadRec q).proposal = none := by decide
  by_cases ho : o = 0
  · subst ho
    obtain rfl : proposal7 = p := Option.some.inj h
    exact ⟨by decide, by decide, by decide, by decide⟩
  · exact absurd ((h0 o ho).symm.trans h) (by simp)

/-- A preview runs, another waits behind it, and a port holds a reply. -/
theorem witness_StepKeepsEngineQueuesAndPorts :
    let e : PreviewSlot := { zone := 50, operator := 3, request := 1000, running := true, cancelled := false }
    let s : State := { (concourse.setPreview .vn (some e)).setPreview (.op 1) (some { e with running := false }) with
      flight := some { kind := .preview .vn 3 1000 (some 5), zone := 50, snapshot := snapshotOf concourse 50 }
      pending := [.markPulseEnd] }
    let t := answer s .vn (replyOf .ok)
    (EngineInv t ∧ NoticeLaw t ∧ PortInv t) ∧ step t = .next (after .markPulseEnd { t with pending := [] }) := by
  refine ⟨⟨⟨fun h => by simp [answer] at h, ?_, ⟨false, ?_⟩, by decide⟩, ?_, ?_⟩, rfl⟩
  · intro p e h
    match p, h with
    | .vn, h =>
      obtain rfl : ({ zone := 50, operator := 3, request := 1000, running := true, cancelled := false } : PreviewSlot) = e :=
        Option.some.inj h
      exact ⟨fun h => (by cases h), ⟨fun _ => ⟨_, _, _, _, _, rfl⟩, fun _ => rfl⟩⟩
    | .op 1, h =>
      obtain rfl : ({ zone := 50, operator := 3, request := 1000, running := false, cancelled := false } : PreviewSlot) = e :=
        Option.some.inj h
      exact ⟨fun _ => rfl, ⟨fun h => (by cases h), fun ⟨_, _, _, _, _, h⟩ => (by cases h)⟩⟩
    | .op 0, h => cases h
    | .op 2, h => cases h
    | .op 3, h => cases h
  · rfl
  · intro p
    match p with
    | .vn => decide
    | .op o => revert o; decide
  · intro p
    match p with
    | .vn => decide
    | .op o => revert o; decide

/-- The state of section 12.3, with every share, request and budget it has. -/
theorem witness_StepKeepsRanges :
    RangesInv { concourse with pending := [.markPulseEnd] } ∧
      step { concourse with pending := [.markPulseEnd] } = .next (after .markPulseEnd concourse) := by
  refine ⟨⟨by decide, by unfold goodLink; decide +kernel, fun o => ⟨?_, ?_⟩, by decide +kernel, by decide, ?_, by decide, by decide,
    by decide⟩, rfl⟩
  · revert o; unfold goodOperator; decide +kernel
  · have h : ∀ o : OpNo, concourse.spreadRec o = SpreadRec.reset := by decide
    show goodSpread (concourse.spreadRec o)
    rw [h o]
    exact ⟨by decide, by decide, fun _ h => (by cases h), fun _ h => (by cases h)⟩
  · unfold goodEntry; decide +kernel

end Sys2Proof.Tests
end

section
/-! The reads of the management port: a taken read is its reply, and a form that is not offered is refused. Then the
payloads of the venue reads without an operand, field by field, and O9. -/

namespace Sys2Proof.Machine

open Sys2Proof

/-! ## Reads and forms that are not offered -/

/-- A taken request whose owner only replies, such as a read, answers its port and changes nothing else. -/
theorem exec_of_owner_replies {r : Req} {p : Port} {payload : List Byte} {s : State} {rep : Reply} (h : FrameIn s p)
    (ht : testsBeforeOwner s p r payload.length = none) (ho : ownerOf r p payload s = (s, rep)) :
    exec (r.toInstr p payload) s = .next (answer s p rep) := by
  rw [exec_toInstr, serve_taken h ht, ho, endEvent_self]

/-- A request of no operand in its venue form, whose owner only replies. -/
theorem exec_vn_of_owner_replies {r : Req} {s : State} {rep : Reply} (h : FrameIn s .vn)
    (hl : venueLengths r = some [0]) (ho : ownerOf r .vn [] s = (s, rep)) :
    exec (r.toInstr .vn []) s = .next (answer s .vn rep) :=
  exec_of_owner_replies h (tests_vn hl rfl) ho

/-- Test 3 of R173: a port does not take a request that has no form for it, whatever the payload. -/
theorem exec_of_formLengths_none {r : Req} {p : Port} {s : State} (h : FrameIn s p) (hf : formLengths r p = none)
    (payload : List Byte) : exec (r.toInstr p payload) s = .next (answer s p (replyOf .notPermitted)) := by
  have ht : testsBeforeOwner s p r payload.length = some .notPermitted := by simp [testsBeforeOwner, hf]
  rw [exec_toInstr, serve_refused h ht]

/-! ## The payloads of the venue reads -/

/-- With no commit since RSTn the flag and the stamp of R47 are 0. -/
theorem commitStampBytes_none {s : State} (h : s.lastCommit = none) : commitStampBytes s = [0, 0, 0, 0] := by
  simp only [commitStampBytes, h]
  rfl

/-- After a commit its flag is 1, and its superframe and cycle follow (R47). -/
theorem commitStampBytes_some {s : State} {t : Stamp} (h : s.lastCommit = some t) :
    commitStampBytes s = [1] ++ u16 t.superframe ++ u8 t.cycle := by
  simp only [commitStampBytes, h]
  rfl

/-- The payload of READ CLASS SETTINGS: the six modes in class order, then the two derate levels (R81). -/
theorem settingsPayload_eq (s : State) :
    settingsPayload s = u8 (s.mode 0).code ++ u8 (s.mode 1).code ++ u8 (s.mode 2).code ++ u8 (s.mode 3).code ++
      u8 (s.mode 4).code ++ u8 (s.mode 5).code ++ u8 s.tempLevel ++ u8 s.reflectLevel := rfl

/-- The sum of the shares is that of the four operators' records (Law 1). -/
theorem sum4_shares (s : State) :
    sum4 (shares s) = (s.oper 0).share + (s.oper 1).share + (s.oper 2).share + (s.oper 3).share := rfl

/-- The payload of READ SHARES: the four shares in operator order, then their sum (R139). -/
theorem sharesPayload_eq (s : State) :
    sharesPayload s = u16 (s.oper 0).share ++ u16 (s.oper 1).share ++ u16 (s.oper 2).share ++ u16 (s.oper 3).share ++
      u16 ((s.oper 0).share + (s.oper 1).share + (s.oper 2).share + (s.oper 3).share) := by
  rw [← sum4_shares]
  rfl

theorem flagByte_eq (b : Bool) : flagByte b = [if b then 1 else 0] := by
  cases b <;> rfl

theorem allPorts_eq : allPorts = [.vn, .op 0, .op 1, .op 2, .op 3] := rfl

/-- The payload of READ QUEUE LENGTHS: of every port in port order its length and its overrun flag (R160). -/
theorem lengthsPayload_eq (s : State) :
    lengthsPayload s = [Port.vn, .op 0, .op 1, .op 2, .op 3].flatMap fun p =>
      [BitVec.ofNat 8 (s.noticeQueue p).records.length, if (s.noticeQueue p).overrun then 1 else 0] := by
  simp only [lengthsPayload, allPorts_eq, u8, flagByte_eq, List.singleton_append]

/-! ## The statement -/

/-- An operator port has no form of any of the four venue reads (R47, R81, R139, R160). -/
theorem operatorLengths_venueRead :
    ∀ r ∈ [Req.readTransport, .readClassSettings, .readShares, .readQueueLengths], operatorLengths r = none := by
  decide

/-- Settles O9: on VN each of the four reads answers with its payload and changes nothing else, and on an operator port
test 3 of R173 refuses it. -/
theorem venueReadsReply : Obligations.VenueReadsReply := by
  intro s
  refine ⟨fun hf => ⟨?transport, ?settings, ?shares, ?lengths⟩, fun o payload hf r hr => ?refused⟩
  case transport =>
    have taken : exec (.readTransport .vn []) s = .next (answer s .vn (replyWith (transportPayload s))) :=
      exec_vn_of_owner_replies (r := .readTransport) hf rfl rfl
    rw [taken, transportPayload]
    cases h : s.lastCommit with
    | none => rw [commitStampBytes_none h]
    | some t => rw [commitStampBytes_some h]
  case settings => exact exec_vn_of_owner_replies (r := .readClassSettings) hf rfl (by rw [← settingsPayload_eq]; rfl)
  case shares => exact exec_vn_of_owner_replies (r := .readShares) hf rfl (by rw [← sharesPayload_eq]; rfl)
  case lengths => exact exec_vn_of_owner_replies (r := .readQueueLengths) hf rfl (by rw [← lengthsPayload_eq]; rfl)
  case refused => exact exec_of_formLengths_none hf (operatorLengths_venueRead r hr) payload

end Sys2Proof.Machine
end

section
/-! The alarm summary of the Protection Unit: the set of class bits as a byte, what each bit and each count says, and O13. -/

namespace Sys2Proof.Machine

open Sys2Proof

/-- A request of no operand in its operator form, on an ACTIVE operator's port, whose owner only replies. -/
theorem exec_op_of_owner_replies {r : Req} {s : State} {o : OpNo} {rep : Reply} (h : FrameIn s (.op o)) (ha : Tenant s o)
    (hl : operatorLengths r = some [0]) (ho : ownerOf r (.op o) [] s = (s, rep)) :
    exec (r.toInstr (.op o) []) s = .next (answer s (.op o) rep) :=
  exec_of_owner_replies h (tests_op hl ha rfl) ho

/-! ## Sets of class bits -/

/-- The byte that a set of class bits takes: the number whose binary digits, the least first, are the six bits. -/
def classByte (f : ClassNo → Bool) : Byte := BitVec.ofNat 8 (Nat.ofBits f)

/-- The six weights of `classBits` are those of the binary digits. -/
theorem classBits_eq (f : ClassNo → Bool) : classBits f = [classByte f] := by
  have weights : ∀ b : Bool, ∀ w : Nat, (if b then w else 0) = w * b.toNat := by
    rintro (_ | _) w <;> simp
  have horner : Nat.ofBits f =
      2 * (2 * (2 * (2 * (2 * (f 5).toNat + (f 4).toNat) + (f 3).toNat) + (f 2).toNat) + (f 1).toNat) + (f 0).toNat := by
    simp only [Nat.ofBits_succ, Nat.ofBits_zero, Nat.mul_zero, Nat.zero_add]
    rfl
  have digits : Nat.ofBits f = (f 0).toNat + 2 * (f 1).toNat + 4 * (f 2).toNat + 8 * (f 3).toNat + 16 * (f 4).toNat +
      32 * (f 5).toNat := by
    omega
  simp only [classBits, u8, classByte, digits, weights, Nat.one_mul]

/-- Bits 7 and 6 of a set of class bits are 0. -/
theorem classByte_lt (f : ClassNo → Bool) : (classByte f).toNat < 64 := by
  have hlt : Nat.ofBits f < 2 ^ 6 := Nat.ofBits_lt_two_pow f
  simp only [classByte, BitVec.toNat_ofNat]
  omega

/-- Bit n of a set of class bits is that of class n. -/
theorem classByte_getLsbD (f : ClassNo → Bool) (c : ClassNo) : (classByte f).getLsbD c.val = f c := by
  have hc : c.val < 8 := by omega
  rw [classByte, BitVec.getLsbD_ofNat, Nat.testBit_ofBits_lt f c.val c.isLt, decide_eq_true hc, Bool.true_and]

/-! ## The summary over the zones that a test names -/

/-- Class c is latched somewhere in the set that the test names just where a zone of it has its latched bit set. -/
theorem latchedAt_iff {s : State} {here : ZoneNo → Bool} {c : ClassNo} :
    latchedAt s here c = true ↔ ∃ z, here z = true ∧ (s.protRec z c).latched = true := by
  simp [latchedAt, allZones]

/-- Class c's bit of the summary is set just where c is latched at a zone that the test names. -/
theorem classByte_latchedAt_iff {s : State} {here : ZoneNo → Bool} {c : ClassNo} :
    (classByte (latchedAt s here)).getLsbD c.val = true ↔ ∃ z, here z = true ∧ (s.protRec z c).latched = true := by
  rw [classByte_getLsbD, latchedAt_iff]

/-- Each count of the summary is the size of the set of zones that it counts. -/
theorem outputCounts_eq (s : State) (here : ZoneNo → Bool) :
    outputCounts s here = u8 ((List.finRange 64).filter fun z => here z && muted s z).length ++
      u8 ((List.finRange 64).filter fun z => here z && decide (derate s z < 256)).length := by
  simp only [outputCounts, allZones, List.countP_eq_length_filter]
  rfl

/-- The payload on VN: the provisioned zones' set, the others' set, then the provisioned zones' counts (R78). -/
theorem summaryPayload_vn (s : State) :
    summaryPayload s .vn = [classByte (latchedAt s fun z => (s.zone z).provisioned),
        classByte (latchedAt s fun z => !(s.zone z).provisioned)] ++ outputCounts s fun z => (s.zone z).provisioned := by
  simp only [summaryPayload, classBits_eq, List.singleton_append]

/-- The payload on an operator port: one set and the counts, of the zones where the operator is bound (R79). -/
theorem summaryPayload_op (s : State) (o : OpNo) :
    summaryPayload s (.op o) =
      [classByte (latchedAt s fun z => (s.active z o).isSome)] ++ outputCounts s fun z => (s.active z o).isSome := by
  simp only [summaryPayload, classBits_eq]

/-- Settles O13: the reply is the port's payload, whose bytes of class bits are those of `latchedAt`. -/
theorem alarmSummaryReply : Obligations.AlarmSummaryReply := by
  intro s
  refine ⟨fun hf => ?venue, fun o hf ha => ?operator⟩
  case venue =>
    refine ⟨classByte (latchedAt s fun z => (s.zone z).provisioned),
      classByte (latchedAt s fun z => !(s.zone z).provisioned), ?reply, classByte_lt _, classByte_lt _,
      fun c => ⟨classByte_latchedAt_iff, ?others⟩⟩
    case reply =>
      have taken : exec (.readAlarmSummary .vn []) s = .next (answer s .vn (replyWith (summaryPayload s .vn))) :=
        exec_vn_of_owner_replies (r := .readAlarmSummary) hf rfl rfl
      rw [taken, summaryPayload_vn, outputCounts_eq, List.append_assoc]
    case others => simp only [classByte_latchedAt_iff, Bool.not_eq_true']
  case operator =>
    refine ⟨classByte (latchedAt s fun z => (s.active z o).isSome), ?reply, classByte_lt _, fun c => ?bound⟩
    case reply =>
      have taken : exec (.readAlarmSummary (.op o) []) s =
          .next (answer s (.op o) (replyWith (summaryPayload s (.op o)))) :=
        exec_op_of_owner_replies (r := .readAlarmSummary) hf ha rfl rfl
      rw [taken, summaryPayload_op, outputCounts_eq, List.append_assoc]
    case bound => simp only [classByte_latchedAt_iff, Option.isSome_iff_ne_none]

end Sys2Proof.Machine
end

section
/-! SET POLICY, ACCEPT and DECLINE: what a served request leaves once its owner has acted, what each owner does to the state,
and O46. -/

namespace Sys2Proof.Machine

open Sys2Proof

/-! ## A request on an ACTIVE operator's port -/

/-- A request in its operator form whose owner brings the Allocation Engine no work: the owner's state, with the port
answered. -/
theorem exec_op_of_owner_quiet {r : Req} {s u : State} {o : OpNo} {payload : List Byte} {rep : Reply}
    (h : FrameIn s (.op o)) (ha : Tenant s o) (hl : operatorLengths r = some [payload.length])
    (ho : ownerOf r (.op o) payload s = (u, rep)) (hq : u.realloc = s.realloc) (hp : u.previews = s.previews) :
    exec (r.toInstr (.op o) payload) s = .next (answer u (.op o) rep) := by
  have passes : testsBeforeOwner s (.op o) r payload.length = none := tests_op hl ha (by simp)
  rw [exec_toInstr, serve_quiet h passes (by rw [ho]; exact hq) (by rw [ho]; exact hp), ho]

/-- A request in its operator form whose owner ends with a notice, and brings no work before it. -/
theorem exec_op_of_owner_files {r : Req} {s u : State} {o : OpNo} {payload : List Byte} {rep : Reply} {ports : List Port}
    {n : Notice} (h : FrameIn s (.op o)) (ha : Tenant s o) (hl : operatorLengths r = some [payload.length])
    (ho : ownerOf r (.op o) payload s = (file u ports n, rep)) (hq : u.realloc = s.realloc) (hp : u.previews = s.previews) :
    exec (r.toInstr (.op o) payload) s = .next (answer (file u ports n) (.op o) rep) :=
  exec_op_of_owner_quiet h ha hl ho ((file_keeps State.realloc (fun _ _ => rfl) ..).trans hq)
    ((file_keeps State.previews (fun _ _ => rfl) ..).trans hp)

/-- A request in its operator form whose owner only replies. -/
theorem exec_op_of_owner_only_replies {r : Req} {s : State} {o : OpNo} {payload : List Byte} {rep : Reply}
    (h : FrameIn s (.op o)) (ha : Tenant s o) (hl : operatorLengths r = some [payload.length])
    (ho : ownerOf r (.op o) payload s = (s, rep)) :
    exec (r.toInstr (.op o) payload) s = .next (answer s (.op o) rep) :=
  exec_of_owner_replies h (tests_op hl ha (by simp)) ho

/-- Answering a port after an event that left the ports alone is the answer of that port, and nothing else. -/
theorem answers_answer {s u : State} {p : Port} {rep : Reply} (h : u.ports = s.ports) : Answers s (answer u p rep) p rep := by
  simp only [Answers, answer, State.setPort, State.port, h]

/-! ## SET POLICY (R98) -/

/-- The code of a policy is decoded to it. -/
theorem policyOfCode_of_code {b : Byte} {m : Policy} (h : b.toNat = m.code) : policyOfCode b = some m := by
  cases m <;> simp only [policyOfCode, h, Policy.code]

/-- A byte above the three codes names no policy. -/
theorem policyOfCode_of_above {b : Byte} (h : 2 < b.toNat) : policyOfCode b = none := by
  unfold policyOfCode
  split
  case h_4 => rfl
  all_goals omega

/-- A withdrawal writes the Spread Engine's state of its operator alone (R116). -/
theorem withdraw_spread (s : State) (o : OpNo) (why : WithdrawCause) :
    (withdraw s o why).spread = s.spread.set o ((withdraw s o why).spreadRec o) := by
  obtain ⟨-, others⟩ := withdraw_spreadRec s o why
  refine Vector.ext fun i hi => ?_
  by_cases hio : i = o.val
  · subst hio
    rw [Vector.getElem_set_self]
    rfl
  · rw [Vector.getElem_set_ne _ _ (Ne.symm hio)]
    exact others ⟨i, hi⟩ (Fin.ne_of_val_ne hio)

/-- A withdrawal leaves its operator's state as `closedWhere` gives it. -/
theorem closedWhere_own (s : State) (o : OpNo) (why : WithdrawCause) :
    (closedWhere s fun q _ => decide (q = o))[o] = (withdraw s o why).spreadRec o := by
  rw [(withdraw_spreadRec s o why).1, closedWhere, vec4_getElem]
  cases (s.spreadRec o).proposal with
  | none => rfl
  | some p => exact if_pos (decide_eq_true rfl)

/-- A new policy writes the operator's policy and its Spread Engine state, with the open proposal closed and the counter and
the outcome returned, and files notices; nothing else (R98). -/
theorem changePolicy_eq (s : State) (o : OpNo) (m : Policy) :
    changePolicy s o m = { s.setOper o { s.oper o with policy := m } with
      spread := s.spread.set o { (closedWhere s fun q _ => decide (q = o))[o] with evalCount := 0, outcome := .notRun }
      notices := (changePolicy s o m).notices } := by
  let u := s.setOper o { s.oper o with policy := m }
  let w := withdraw u o .policyChanged
  have frame : w = { u with spread := w.spread, notices := w.notices } :=
    withdraw_keeps (fun t : State => { t with spread := w.spread, notices := w.notices }) (fun _ _ => rfl) (fun _ _ => rfl) u o _
  have record : w.spreadRec o = (closedWhere s fun q _ => decide (q = o))[o] := (closedWhere_own u o _).symm
  have spread : w.spread.set o { w.spreadRec o with evalCount := 0, outcome := .notRun } =
      s.spread.set o { w.spreadRec o with evalCount := 0, outcome := .notRun } := by
    rw [show w.spread = s.spread.set o (w.spreadRec o) from withdraw_spread u o _, Vector.set_set]
  rw [← record, ← spread]
  exact congrArg (fun t : State => t.setSpread o { w.spreadRec o with evalCount := 0, outcome := .notRun }) frame

/-- SET POLICY on an operator port, for a byte that is a policy's code. -/
theorem ownSetPolicy_of_code {s : State} {o : OpNo} {b : Byte} {m : Policy} (h : b.toNat = m.code) :
    ownSetPolicy o [b] s = (if (s.oper o).policy = m then s else changePolicy s o m, replyOf .ok) := by
  simp only [ownSetPolicy, policyOfCode_of_code h]

/-- SET POLICY refuses a byte above the three codes. -/
theorem ownSetPolicy_of_above {s : State} {o : OpNo} {b : Byte} (h : 2 < b.toNat) :
    ownSetPolicy o [b] s = (s, replyOf .badMode) := by
  simp only [ownSetPolicy, policyOfCode_of_above h, refuse]

/-! ## ACCEPT and DECLINE (R113 to R115) -/

/-- An id names the open proposal that bears it. -/
theorem openWithId_of_open {s : State} {o : OpNo} {id : Nat} {p : Proposal} (h : (s.spreadRec o).proposal = some p)
    (hid : p.id = id) : openWithId s o id = some p := by
  simp only [openWithId, h, hid, if_true]

/-- An id that no open proposal bears names none. -/
theorem openWithId_of_none {s : State} {o : OpNo} {id : Nat}
    (h : ∀ p : Proposal, (s.spreadRec o).proposal = some p → p.id ≠ id) : openWithId s o id = none := by
  unfold openWithId
  split
  case h_1 p hp => exact if_neg (h p hp)
  case h_2 => rfl

/-- The map latch waits for the next cycle start unless the transport is STOPPED (R16). -/
theorem latchIfStopped_of_running {s : State} (h : s.transport ≠ .stopped) : latchIfStopped s = s :=
  if_neg fun stopped => h stopped.1

/-- While the transport runs, an acceptance ends with VN's notice: no latch follows (R16, R113). -/
theorem acceptProposal_of_running {s : State} {o : OpNo} {p : Proposal} (h : s.transport ≠ .stopped) :
    acceptProposal s o p =
      let t := closeProposal (workingWrite s p.zone o (some p.toSector)) o p
      file t [.vn] (proposalNotice t .proposalAnswered o p 1) := by
  have kept (t : State) (n : Notice) : (file t [.vn] n).transport = t.transport := file_keeps State.transport (fun _ _ => rfl) ..
  exact latchIfStopped_of_running (by rw [kept]; exact h)

/-- ACCEPT and DECLINE of an id that names no open proposal change nothing (R115). -/
theorem ownAccept_ownDecline_of_no_open {s : State} {o : OpNo} {b : Byte}
    (h : ∀ p : Proposal, (s.spreadRec o).proposal = some p → p.id ≠ b.toNat) :
    ownAccept o [b] s = (s, replyOf (lateOrUnknown s o b.toNat)) ∧
      ownDecline o [b] s = (s, replyOf (lateOrUnknown s o b.toNat)) := by
  simp only [ownAccept, ownDecline, openWithId_of_none h, refuse, and_self]

/-- ACCEPT and DECLINE of the open proposal (R113, R114). -/
theorem ownAccept_ownDecline_of_open {s : State} {o : OpNo} {b : Byte} {p : Proposal} (h : (s.spreadRec o).proposal = some p)
    (hid : p.id = b.toNat) :
    ownAccept o [b] s = (acceptProposal s o p, replyWith (u8 p.zone.val ++ u8 p.toSector.val)) ∧
      ownDecline o [b] s = (declineProposal s o p, replyOf .ok) := by
  simp only [ownAccept, ownDecline, openWithId_of_open h hid, and_self]

/-! ## The statement -/

/-- Settles O46: each request is its owner served, and no owner brings the Allocation Engine work. -/
theorem proposalsAnswered : Obligations.ProposalsAnswered := by
  intro s o b hf ha
  refine ⟨fun m hm => ⟨fun same => ?same, fun new => ?new⟩, fun above => ?badMode, fun p hp hid => ?isOpen,
    fun other => ?noOpen⟩
  case same =>
    have owner : ownSetPolicy o [b] s = (s, replyOf .ok) := by rw [ownSetPolicy_of_code hm, if_pos same]
    exact exec_op_of_owner_only_replies (r := .setPolicy) hf ha rfl owner
  case new =>
    have owner : ownSetPolicy o [b] s = (changePolicy s o m, replyOf .ok) := by rw [ownSetPolicy_of_code hm, if_neg new]
    have frame := changePolicy_eq s o m
    let answered := answer (changePolicy s o m) (.op o) (replyOf .ok)
    refine ⟨answered, ?_, answers_answer (by rw [frame]; rfl), ?_⟩
    · exact exec_op_of_owner_quiet (r := .setPolicy) hf ha rfl owner (by rw [frame]; rfl) (by rw [frame]; rfl)
    · exact congrArg (fun t : State => { t with ports := answered.ports }) frame
  case badMode => exact exec_op_of_owner_only_replies (r := .setPolicy) hf ha rfl (ownSetPolicy_of_above above)
  case isOpen =>
    obtain ⟨accepted, declined⟩ := ownAccept_ownDecline_of_open hp hid
    refine ⟨fun running => ?_, exec_op_of_owner_files (r := .decline) hf ha rfl declined rfl rfl⟩
    rw [acceptProposal_of_running running] at accepted
    exact exec_op_of_owner_files (r := .accept) hf ha rfl accepted rfl rfl
  case noOpen =>
    obtain ⟨accepted, declined⟩ := ownAccept_ownDecline_of_no_open other
    exact ⟨exec_op_of_owner_only_replies (r := .accept) hf ha rfl accepted,
      exec_op_of_owner_only_replies (r := .decline) hf ha rfl declined⟩

end Sys2Proof.Machine
end

section
/-! The allocation formula: the two passes of R124 by name, how much the floors of a division into parts can lose, what the
first pass leaves under Law 3, and O48. -/

namespace Sys2Proof.Machine

open Sys2Proof

/-! ## The passes of the formula (R124) -/

/-- The first-pass grants A of R124: the smaller of each request and its share grant. -/
def firstPass (n : Snapshot) : Vector Nat 4 := vec4 fun o => min n.requests[o] (shareGrant n.budget n.shares[o])

/-- The leftover L of R124: what the first pass leaves of the budget. -/
def firstLeftover (n : Snapshot) : Nat := n.budget - sum4 (firstPass n)

/-- The remainders R of R124: what each request still lacks after the first pass. -/
def unmetRequests (n : Snapshot) : Vector Nat 4 := vec4 fun o => n.requests[o] - (firstPass n)[o]

/-- A request's part of the leftover in step 3 of R124. -/
def leftoverPart (n : Snapshot) (o : OpNo) : Nat := firstLeftover n * (unmetRequests n)[o] / sum4 (unmetRequests n)

/-- Step 1 of R124. -/
theorem allocate_of_fits {n : Snapshot} (fits : sum4 n.requests ≤ n.budget) : allocate n = n.requests := if_pos fits

/-- Steps 2 and 3 of R124. -/
theorem allocate_of_not_fits {n : Snapshot} (exceeds : n.budget < sum4 n.requests) :
    allocate n = vec4 fun o => (firstPass n)[o] + leftoverPart n o := if_neg (Nat.not_le.mpr exceeds)

theorem allocate_getElem_of_not_fits {n : Snapshot} (exceeds : n.budget < sum4 n.requests) (o : OpNo) :
    (allocate n)[o] = (firstPass n)[o] + leftoverPart n o := by
  rw [allocate_of_not_fits exceeds, vec4_getElem]

theorem firstPass_getElem (n : Snapshot) (o : OpNo) :
    (firstPass n)[o] = min n.requests[o] (shareGrant n.budget n.shares[o]) := vec4_getElem ..

theorem unmetRequests_getElem (n : Snapshot) (o : OpNo) :
    (unmetRequests n)[o] = n.requests[o] - (firstPass n)[o] := vec4_getElem ..

theorem firstPass_le_request (n : Snapshot) (o : OpNo) : (firstPass n)[o] ≤ n.requests[o] := by
  rw [firstPass_getElem]
  exact Nat.min_le_left ..

theorem firstPass_le_shareGrant (n : Snapshot) (o : OpNo) : (firstPass n)[o] ≤ shareGrant n.budget n.shares[o] := by
  rw [firstPass_getElem]
  exact Nat.min_le_right ..

theorem firstPass_add_unmet (n : Snapshot) (o : OpNo) : (firstPass n)[o] + (unmetRequests n)[o] = n.requests[o] := by
  rw [unmetRequests_getElem]
  exact Nat.add_sub_cancel' (firstPass_le_request n o)

/-! ## Sums over the four lanes -/

theorem sum4_eq (v : Vector Nat 4) : sum4 v = v[(0 : OpNo)] + v[(1 : OpNo)] + v[(2 : OpNo)] + v[(3 : OpNo)] := rfl

theorem sum4_vec4 (f : OpNo → Nat) : sum4 (vec4 f) = f 0 + f 1 + f 2 + f 3 := rfl

theorem sum4_le_sum4 {v w : Vector Nat 4} (h : ∀ o : OpNo, v[o] ≤ w[o]) : sum4 v ≤ sum4 w := by
  rw [sum4_eq, sum4_eq]
  exact Nat.add_le_add (Nat.add_le_add (Nat.add_le_add (h 0) (h 1)) (h 2)) (h 3)

theorem sum4_vec4_add (f g : OpNo → Nat) : sum4 (vec4 fun o => f o + g o) = sum4 (vec4 f) + sum4 (vec4 g) := by
  rw [sum4_vec4, sum4_vec4, sum4_vec4]
  omega

/-- The floors of a division into parts sum to at most the floor of the whole. -/
theorem sum4_parts_le (k d : Nat) (v : Vector Nat 4) : sum4 (vec4 fun o => k * v[o] / d) ≤ k * sum4 v / d := by
  rw [sum4_vec4, sum4_eq, Nat.mul_add, Nat.mul_add, Nat.mul_add]
  calc k * v[(0 : OpNo)] / d + k * v[(1 : OpNo)] / d + k * v[(2 : OpNo)] / d + k * v[(3 : OpNo)] / d
      ≤ (k * v[(0 : OpNo)] + k * v[(1 : OpNo)]) / d + k * v[(2 : OpNo)] / d + k * v[(3 : OpNo)] / d := by
        gcongr
        exact Nat.div_add_div_le_add_div
    _ ≤ (k * v[(0 : OpNo)] + k * v[(1 : OpNo)] + k * v[(2 : OpNo)]) / d + k * v[(3 : OpNo)] / d := by
        gcongr
        exact Nat.div_add_div_le_add_div
    _ ≤ _ := Nat.div_add_div_le_add_div

/-! ## What the first pass leaves -/

/-- Every mW of the total request Q is in the first pass or unmet after it. -/
theorem sum4_firstPass_add_sum4_unmet (n : Snapshot) : sum4 (firstPass n) + sum4 (unmetRequests n) = sum4 n.requests := by
  rw [sum4_eq, sum4_eq, sum4_eq, ← firstPass_add_unmet n 0, ← firstPass_add_unmet n 1, ← firstPass_add_unmet n 2,
    ← firstPass_add_unmet n 3]
  omega

/-- Under Law 3 the share grants, and so the first pass, stay within the budget. -/
theorem sum4_firstPass_le_budget {n : Snapshot} (law : sum4 n.shares ≤ 1000) : sum4 (firstPass n) ≤ n.budget :=
  calc sum4 (firstPass n)
      ≤ sum4 (vec4 fun o => n.budget * n.shares[o] / 1000) := sum4_le_sum4 fun o => by
        rw [vec4_getElem]
        exact firstPass_le_shareGrant n o
    _ ≤ n.budget * sum4 n.shares / 1000 := sum4_parts_le ..
    _ ≤ n.budget * 1000 / 1000 := by gcongr
    _ = n.budget := Nat.mul_div_cancel _ (by decide)

/-- Where the requests do not fit, the leftover is below the sum of the remainders: Q = A + R is above E = A + L. -/
theorem firstLeftover_lt_sum4_unmet {n : Snapshot} (law : sum4 n.shares ≤ 1000) (exceeds : n.budget < sum4 n.requests) :
    firstLeftover n < sum4 (unmetRequests n) := by
  have within := sum4_firstPass_le_budget law
  have total := sum4_firstPass_add_sum4_unmet n
  unfold firstLeftover
  omega

/-! ## The second pass -/

/-- A leftover below the sum of the remainders gives each unmet request less than it lacks. -/
theorem leftoverPart_lt {n : Snapshot} {o : OpNo} (short : firstLeftover n < sum4 (unmetRequests n))
    (lacks : 0 < (unmetRequests n)[o]) : leftoverPart n o < (unmetRequests n)[o] :=
  Nat.div_lt_of_lt_mul (Nat.mul_lt_mul_of_pos_right short lacks)

theorem leftoverPart_le {n : Snapshot} (short : firstLeftover n < sum4 (unmetRequests n)) (o : OpNo) :
    leftoverPart n o ≤ (unmetRequests n)[o] :=
  Nat.div_le_of_le_mul (Nat.mul_le_mul_right _ short.le)

/-- The floors of step 3 sum to at most the leftover. -/
theorem sum4_leftoverPart_le (n : Snapshot) : sum4 (vec4 (leftoverPart n)) ≤ firstLeftover n :=
  calc sum4 (vec4 (leftoverPart n))
      ≤ firstLeftover n * sum4 (unmetRequests n) / sum4 (unmetRequests n) := sum4_parts_le ..
    _ ≤ firstLeftover n := Nat.div_le_of_le_mul (Nat.mul_comm ..).le

/-! ## The three properties of R124 -/

theorem allocate_le_request {n : Snapshot} (law : sum4 n.shares ≤ 1000) (o : OpNo) :
    (allocate n)[o] ≤ n.requests[o] := by
  rcases Nat.lt_or_ge n.budget (sum4 n.requests) with exceeds | fits
  · rw [allocate_getElem_of_not_fits exceeds, ← firstPass_add_unmet n o]
    exact Nat.add_le_add_left (leftoverPart_le (firstLeftover_lt_sum4_unmet law exceeds) o) _
  · rw [allocate_of_fits fits]

theorem allocate_lt_request {n : Snapshot} {o : OpNo} (law : sum4 n.shares ≤ 1000)
    (exceeds : n.budget < sum4 n.requests) (lacks : 0 < (unmetRequests n)[o]) : (allocate n)[o] < n.requests[o] := by
  rw [allocate_getElem_of_not_fits exceeds, ← firstPass_add_unmet n o]
  exact Nat.add_lt_add_left (leftoverPart_lt (firstLeftover_lt_sum4_unmet law exceeds) lacks) _

theorem sum4_allocate_le_budget {n : Snapshot} (law : sum4 n.shares ≤ 1000) : sum4 (allocate n) ≤ n.budget := by
  rcases Nat.lt_or_ge n.budget (sum4 n.requests) with exceeds | fits
  · have split : sum4 (allocate n) = sum4 (firstPass n) + sum4 (vec4 (leftoverPart n)) := by
      rw [allocate_of_not_fits exceeds, sum4_vec4_add]
      rfl
    calc sum4 (allocate n)
        ≤ sum4 (firstPass n) + firstLeftover n := split.trans_le (Nat.add_le_add_left (sum4_leftoverPart_le n) _)
      _ = n.budget := Nat.add_sub_cancel' (sum4_firstPass_le_budget law)
  · rwa [allocate_of_fits fits]

/-! ## The statement -/

/-- Settles O48: the formula is the model's two passes, and Law 3 keeps the first pass within the budget, which leaves less
than the requests still lack. -/
theorem allocationFollowsFormula : Obligations.AllocationFollowsFormula := by
  intro n
  refine ⟨fun fits o => ?inFull, fun exceeds o => ?twoPasses, fun law =>
    ⟨fun o => ⟨?le, fun exceeds lacks => ?lt, fun zero => ?zero⟩, ?sum, fun exceeds => ?unmet⟩⟩
  case inFull => rw [allocate_of_fits fits]
  case twoPasses =>
    rw [allocate_getElem_of_not_fits exceeds, leftoverPart, unmetRequests_getElem, firstPass_getElem]
    rfl
  case le => exact allocate_le_request law o
  case lt =>
    refine allocate_lt_request law exceeds ?_
    rwa [unmetRequests_getElem, firstPass_getElem]
  case zero => exact Nat.eq_zero_of_le_zero (zero ▸ allocate_le_request law o)
  case sum => exact sum4_allocate_le_budget law
  case unmet =>
    have short := firstLeftover_lt_sum4_unmet law exceeds
    exact ⟨sum4_firstPass_le_budget law, Nat.zero_lt_of_lt short, short⟩

end Sys2Proof.Machine
end

section
/-! The Allocation Engine: the rotation of the ports and the port it reaches first, the arbitration of R143 case by case, what
the writing of four grants does to the grants and to the short flags, the two completions, and O51. -/

namespace Sys2Proof.Machine

open Sys2Proof

/-! ## The rotation (R143 step 4) -/

/-- How far a port is from the first port of the rotation after `last`, which is the port after `last`. -/
def rotationDistance (last p : Port) : Nat := ((portNumber p).val + 4 - (portNumber last).val) % 5

theorem mem_allPorts (p : Port) : p ∈ allPorts := by
  cases p <;> simp [allPorts, allOps]

/-- The rotation passes every port. -/
theorem mem_rotationAfter (last p : Port) : p ∈ rotationAfter last := by
  rw [rotationAfter, List.mem_append, or_comm, ← List.mem_append, List.take_append_drop]
  exact mem_allPorts p

/-- The rotation passes the ports in the order of their distance. -/
theorem rotationAfter_pairwise (last : Port) :
    (rotationAfter last).Pairwise fun x y => rotationDistance last x < rotationDistance last y := by
  cases last with
  | vn => decide
  | op o => revert o; decide

/-- A port ahead of another one in the rotation is nearer. -/
theorem rotationDistance_lt_of_ahead {last p x : Port} {ahead behind : List Port}
    (h : rotationAfter last = ahead ++ p :: behind) (hx : x ∈ ahead) :
    rotationDistance last x < rotationDistance last p := by
  have ordered := rotationAfter_pairwise last
  rw [h] at ordered
  obtain ⟨-, -, across⟩ := List.pairwise_append.mp ordered
  exact across x hx p List.mem_cons_self

/-! ## The next preview (R143 step 4) -/

/-- A port has a WAITING preview just where its slot holds one that is not running. -/
theorem waitingPreview_eq_some_iff {s : State} {p : Port} {e : PreviewSlot} :
    waitingPreview s p = some e ↔ s.previewSlot p = some e ∧ e.running = false := by
  unfold waitingPreview
  cases hslot : s.previewSlot p with
  | none => simp
  | some x =>
    by_cases h : x = e
    · subst h; simp
    · simp [h]

/-- There is no next preview just where no slot is WAITING. -/
theorem nextPreview_eq_none_iff {s : State} :
    nextPreview s = none ↔ ∀ p e, ¬ (s.previewSlot p = some e ∧ e.running = false) := by
  simp only [← waitingPreview_eq_some_iff, ← ne_eq, ← Option.eq_none_iff_forall_ne_some]
  simp [nextPreview, mem_rotationAfter]

/-- The next preview is that of a port whose slot is WAITING and to which no port with a WAITING slot is ahead. -/
theorem nextPreview_eq_some {s : State} {p : Port} {e : PreviewSlot} (waits : waitingPreview s p = some e)
    (nearest : ∀ x y, waitingPreview s x = some y → rotationDistance s.lastPort p ≤ rotationDistance s.lastPort x) :
    nextPreview s = some (p, e) := by
  obtain ⟨ahead, behind, parts⟩ := List.append_of_mem (mem_rotationAfter s.lastPort p)
  have none_ahead : ∀ x ∈ ahead, waitingPreview s x = none := fun x hx =>
    Option.eq_none_iff_forall_ne_some.mpr fun y hy =>
      Nat.not_lt.mpr (nearest x y hy) (rotationDistance_lt_of_ahead parts hx)
  refine List.findSome?_eq_some_iff.mpr ⟨ahead, p, behind, parts, ?_, fun x hx => ?_⟩
  · rw [waits]; rfl
  · rw [none_ahead x hx]; rfl

/-! ## The arbitration, case by case (R143) -/

/-- With nothing queued and no slot WAITING the engine stays FREE (R143 step 1). -/
theorem arbitrate_of_no_work {s : State} (empty : s.realloc = []) (none_waits : nextPreview s = none) :
    arbitrate s = { s with consecutive := 0 } := by
  rcases arbitrate_cases s with ⟨-, -, idle⟩ | ⟨z, rest, queued, -, -⟩ | ⟨p, e, chosen, -, -⟩
  · exact idle
  · simp [empty] at queued
  · simp [none_waits] at chosen

/-- The head of the queue goes first where no slot is WAITING or fewer than four reallocations came in a row (R143 steps 2
and 3). -/
theorem arbitrate_of_reallocation {s : State} {z : ZoneNo} {rest : List ZoneNo} (queued : s.realloc = z :: rest)
    (turn : nextPreview s = none ∨ s.consecutive < Config.maxConsecutive) :
    arbitrate s = startReallocation s z rest := by
  rcases arbitrate_cases s with ⟨empty, -, -⟩ | ⟨y, others, head, -, started⟩ | ⟨p, e, chosen, many, -⟩
  · simp [queued] at empty
  · obtain ⟨rfl, rfl⟩ := List.cons.inj (queued.symm.trans head)
    exact started
  · have few : s.consecutive < Config.maxConsecutive := turn.resolve_left (by simp [chosen])
    exact absurd few (Nat.not_lt.mpr (many.resolve_left (by simp [queued])))

/-- The next preview goes first where the queue is empty or four reallocations came in a row (R143 steps 1, 3 and 4). -/
theorem arbitrate_of_preview {s : State} {p : Port} {e : PreviewSlot} (chosen : nextPreview s = some (p, e))
    (turn : s.realloc = [] ∨ Config.maxConsecutive ≤ s.consecutive) : arbitrate s = startPreview s p e := by
  rcases arbitrate_cases s with ⟨-, none_waits, -⟩ | ⟨z, rest, queued, few, -⟩ | ⟨x, y, found, -, started⟩
  · simp [chosen] at none_waits
  · have many : Config.maxConsecutive ≤ s.consecutive := turn.resolve_left (by simp [queued])
    exact absurd (few.resolve_left (by simp [chosen])) (Nat.not_lt.mpr many)
  · obtain ⟨rfl, rfl⟩ := Prod.mk.inj (Option.some.inj (chosen.symm.trans found))
    exact started

/-- A saturating increment, by cases. -/
theorem saturate_succ (limit n : Nat) : saturate limit (n + 1) = if n < limit then n + 1 else limit := by
  unfold saturate
  split <;> omega

/-- A preview's snapshot is its zone's, with the previewed lane's request in place of its own where the lane carries (R148). -/
theorem previewSnapshot_eq (s : State) (e : PreviewSlot) :
    previewSnapshot s e = { snapshotOf s e.zone with
      requests := if carrying s e.zone e.operator then (snapshotOf s e.zone).requests.set e.operator e.request
        else (snapshotOf s e.zone).requests } := by
  unfold previewSnapshot
  split <;> rfl

/-! ## The writing of a completed reallocation (R135, R145) -/

/-- A judgement leaves the state as it is, or writes the lane's short flag and files a notice about its grant (R135). -/
theorem judgeShort_cases (s : State) (z : ZoneNo) (o : OpNo) (q : Nat) :
    judgeShort s z o q = s ∨ ∃ b k, judgeShort s z o q = fileGrant (s.setShort z o b) z o k := by
  unfold judgeShort
  split
  · exact .inr ⟨_, _, rfl⟩
  · split
    · exact .inr ⟨_, _, rfl⟩
    · exact .inl rfl

/-- A judgement leaves the short flag of every other lane. -/
theorem judgeShort_isShort_of_ne (s : State) {z y : ZoneNo} {o p : OpNo} (q : Nat) (h : y ≠ z ∨ p ≠ o) :
    (judgeShort s z o q).isShort y p = s.isShort y p := by
  rcases judgeShort_cases s z o q with same | ⟨b, k, judged⟩
  · rw [same]
  · rw [judged, fileGrant, file_isShort]
    exact laneGet_laneSet_of_ne _ b h

@[simp] theorem judgeShort_grant (s : State) (z y : ZoneNo) (o p : OpNo) (q : Nat) :
    (judgeShort s z o q).grant y p = s.grant y p :=
  judgeShort_keeps (fun s => s.grant y p) (fun _ _ => rfl) (fun _ _ => rfl) ..

/-- A notice about a grant goes to the lane's operator alone, so not to VN (R136). -/
theorem fileGrant_noticeQueue_vn (s : State) (z : ZoneNo) (o : OpNo) (k : NoticeKind) :
    (fileGrant s z o k).noticeQueue .vn = s.noticeQueue .vn := by
  refine file_noticeQueue_of_notMem _ _ ?_
  unfold unlessAbsent
  split <;> simp

theorem judgeShort_noticeQueue_vn (s : State) (z : ZoneNo) (o : OpNo) (q : Nat) :
    (judgeShort s z o q).noticeQueue .vn = s.noticeQueue .vn := by
  rcases judgeShort_cases s z o q with same | ⟨b, k, judged⟩
  · rw [same]
  · rw [judged, fileGrant_noticeQueue_vn, State.setShort_noticeQueue]

/-- Judging some lanes of zone z leaves the short flag of a lane that is not one of them. -/
theorem foldl_judgeShort_isShort_of_ne (q : OpNo → Nat) {z y : ZoneNo} {p : OpNo} {l : List OpNo} (s : State)
    (h : y ≠ z ∨ p ∉ l) : (l.foldl (fun t o => judgeShort t z o (q o)) s).isShort y p = s.isShort y p := by
  induction l generalizing s with
  | nil => rfl
  | cons o l ih =>
    rw [List.mem_cons, not_or] at h
    rw [List.foldl_cons, ih _ (h.imp_right And.right), judgeShort_isShort_of_ne s (q o) (h.imp_right And.left)]

/-- Judging some lanes of zone z, each once, judges each of them by its grant as it stood. -/
theorem foldl_judgeShort_isShort (q : OpNo → Nat) {z : ZoneNo} {p : OpNo} {l : List OpNo} (s : State) (once : l.Nodup)
    (hp : p ∈ l) : (l.foldl (fun t o => judgeShort t z o (q o)) s).isShort z p =
      if s.grant z p < q p then true else if s.grant z p = q p then false else s.isShort z p := by
  induction l generalizing s with
  | nil => cases hp
  | cons o l ih =>
    rw [List.nodup_cons] at once
    rw [List.foldl_cons]
    rcases List.mem_cons.mp hp with rfl | hl
    · rw [foldl_judgeShort_isShort_of_ne q _ (.inr once.1), judgeShort_isShort]
    · have hne : p ≠ o := fun e => once.1 (e ▸ hl)
      rw [ih _ once.2 hl, judgeShort_grant, judgeShort_isShort_of_ne s (q o) (.inr hne)]

theorem setGrants_grant (s : State) (z y : ZoneNo) (g : Vector Nat 4) (o : OpNo) :
    (setGrants s z g).grant y o = if y = z then g[o] else s.grant y o := by
  by_cases h : y = z
  · subst h; simp [setGrants, State.grant, laneGet]
  · simp [setGrants, State.grant, laneGet, h, Fin.val_ne_of_ne (Ne.symm h)]

/-- The zone's four grants are those written, and every other stays. -/
theorem writeGrants_grant (s : State) (z y : ZoneNo) (g : Vector Nat 4) (o : OpNo) :
    (writeGrants s z g).grant y o = if y = z then g[o] else s.grant y o := by
  unfold writeGrants
  rw [foldl_keeps (fun s => s.grant y o) _ fun _ _ => judgeShort_grant .., setGrants_grant]

/-- The zone's four short flags are judged by the new grants against the effective requests, and every other stays (R135). -/
theorem writeGrants_isShort (s : State) (z y : ZoneNo) (g : Vector Nat 4) (o : OpNo) :
    (writeGrants s z g).isShort y o =
      if y = z ∧ (writeGrants s z g).grant y o < effRequest s y o then true
      else if y = z ∧ (writeGrants s z g).grant y o = effRequest s y o then false else s.isShort y o := by
  by_cases h : y = z
  · subst h
    have judged := foldl_judgeShort_isShort (effRequest s y) (z := y) (setGrants s y g) (List.nodup_finRange 4)
      (List.mem_finRange o)
    rw [setGrants_grant, if_pos rfl] at judged
    simp only [writeGrants_grant, if_true, true_and]
    exact judged
  · simp only [h, false_and, if_false]
    exact foldl_judgeShort_isShort_of_ne (effRequest s z) (setGrants s z g) (.inl h)

theorem writeGrants_noticeQueue_vn (s : State) (z : ZoneNo) (g : Vector Nat 4) :
    (writeGrants s z g).noticeQueue .vn = s.noticeQueue .vn :=
  foldl_keeps (fun s => s.noticeQueue .vn) _ (fun _ _ => judgeShort_noticeQueue_vn ..) allOps (setGrants s z g)

theorem writeGrants_stale (s : State) (z : ZoneNo) (g : Vector Nat 4) : (writeGrants s z g).stale = s.stale :=
  writeGrants_keeps State.stale (fun _ _ => rfl) (fun _ _ => rfl) (fun _ _ => rfl) ..

/-! ## The completions (R145, R146, R149) -/

theorem reallocationCompletes_of_flight {s : State} {z : ZoneNo} {n : Snapshot}
    (h : s.flight = some { kind := .reallocation, zone := z, snapshot := n }) :
    reallocationCompletes s = arbitrate { completeReallocation s z n with flight := none } := by
  simp only [reallocationCompletes, h, finishComputation]

theorem previewCompletes_of_flight {s : State} {p : Port} {o : OpNo} {q : Nat} {sec : Option SectorNo} {z : ZoneNo}
    {n : Snapshot} (h : s.flight = some { kind := .preview p o q sec, zone := z, snapshot := n }) :
    previewCompletes s = arbitrate { completePreview s p o sec z n with flight := none } := by
  simp only [previewCompletes, h, finishComputation]

/-- A completed reallocation writes grants, short flags, notices and the stale count, and nothing else. -/
theorem completeReallocation_frame (s : State) (z : ZoneNo) (n : Snapshot) :
    completeReallocation s z n = { s with
      grants := (completeReallocation s z n).grants, short := (completeReallocation s z n).short
      notices := (completeReallocation s z n).notices, stale := (completeReallocation s z n).stale } :=
  completeReallocation_keeps (fun t : State => { t with
      grants := (completeReallocation s z n).grants, short := (completeReallocation s z n).short
      notices := (completeReallocation s z n).notices, stale := (completeReallocation s z n).stale })
    (fun _ _ => rfl) (fun _ _ => rfl) (fun _ _ => rfl) (fun _ _ => rfl) s z n

/-- A reallocation of a queued zone is discarded and counted (R146). -/
theorem completeReallocation_of_queued {s : State} {z : ZoneNo} (h : z ∈ s.realloc) (n : Snapshot) :
    completeReallocation s z n = { s with stale := if s.stale < 65535 then s.stale + 1 else 65535 } := by
  rw [completeReallocation, if_pos h, saturate_succ]
  rfl

/-- A reallocation of a zone that is not queued writes the grants of R124 for its snapshot (R145). -/
theorem completeReallocation_of_not_queued {s : State} {z : ZoneNo} (h : z ∉ s.realloc) (n : Snapshot) :
    completeReallocation s z n = writeGrants s z (allocate n) := if_neg h

/-- A completed preview empties its slot, and tells its port the previewed grant unless it was cancelled (R149). -/
theorem completePreview_of_slot {s : State} {p : Port} {e : PreviewSlot} (h : s.previewSlot p = some e) (o : OpNo)
    (sec : Option SectorNo) (z : ZoneNo) (n : Snapshot) :
    completePreview s p o sec z n = if e.cancelled then s.setPreview p none else
      (file s [p] { notice s .previewResult with
        zone := some z, operator := some o, toSector := sec, value := some (allocate n)[o] }).setPreview p none := by
  simp only [completePreview, h]
  split <;> rfl

/-! ## The statement -/

/-- Settles O51: each completion ends in an arbitration, and the nearest WAITING slot is the one that the rotation finds. -/
theorem completionsEndInArbitration : Obligations.CompletionsEndInArbitration := by
  refine ⟨fun s z n hf => ?reallocation, fun s p o q sec z n e hf hslot => ?preview,
    fun s => ⟨fun empty none_waits => ?idle, fun z rest queued turn => ?head, fun turn p e waits nearest => ?rotation⟩⟩
  case reallocation =>
    refine ⟨{ completeReallocation s z n with flight := none }, congrArg _ (reallocationCompletes_of_flight hf),
      congrArg (fun t : State => { t with flight := none }) (completeReallocation_frame s z n), fun queued => ?stale,
      fun fresh => ?written⟩
    case stale => rw [completeReallocation_of_queued queued]
    case written =>
      rw [completeReallocation_of_not_queued fresh]
      exact ⟨writeGrants_stale .., writeGrants_noticeQueue_vn .., fun y o =>
        ⟨writeGrants_grant s z y (allocate n) o, writeGrants_isShort s z y (allocate n) o⟩⟩
  case preview =>
    have completed : exec .previewCompletion s = .next (arbitrate { completePreview s p o sec z n with flight := none }) :=
      congrArg _ (previewCompletes_of_flight hf)
    rw [completed, completePreview_of_slot hslot]
    dsimp only
    split <;> rfl
  case idle => exact arbitrate_of_no_work empty (nextPreview_eq_none_iff.mpr none_waits)
  case head =>
    rw [arbitrate_of_reallocation queued (turn.imp_left nextPreview_eq_none_iff.mpr), startReallocation, saturate_succ]
    rfl
  case rotation =>
    have found : nextPreview s = some (p, e) := nextPreview_eq_some (waitingPreview_eq_some_iff.mpr waits)
      fun x y h => nearest x y (waitingPreview_eq_some_iff.mp h)
    rw [arbitrate_of_preview found turn, startPreview, previewSnapshot_eq]
    rfl

end Sys2Proof.Machine
end

section
/-! The Notice Unit: READ NOTICES, which every port takes in every tenancy state, what a notice filed to a queue with room and
to a full queue leaves, and O52. -/

namespace Sys2Proof.Machine

open Sys2Proof

/-! ## The taking of READ NOTICES -/

/-- A request that operator ports take in every tenancy state passes tests 3 to 5 on every port whose form takes the payload's
length (R175). -/
theorem tests_of_takenUntenanted {s : State} {p : Port} {r : Req} {lens : List Nat} {n : Nat}
    (hl : formLengths r p = some lens) (hr : takenUntenanted r = true) (hn : lens.contains n = true) :
    testsBeforeOwner s p r n = none := by
  simp only [testsBeforeOwner, hl, tenancyPasses, hr, Bool.or_true, if_true, hn]

/-- READ NOTICES takes its count, one byte, on VN and on every operator port (R158). -/
theorem formLengths_readNotices (p : Port) : formLengths .readNotices p = some [1] := by
  cases p <;> rfl

theorem tests_readNotices (s : State) (p : Port) (b : Byte) :
    testsBeforeOwner s p .readNotices [b].length = none :=
  tests_of_takenUntenanted (formLengths_readNotices p) rfl rfl

/-- A taken request whose owner brings the Allocation Engine no work: the owner's state, with the port answered. -/
theorem exec_of_owner_quiet {r : Req} {s u : State} {p : Port} {payload : List Byte} {rep : Reply} (h : FrameIn s p)
    (ht : testsBeforeOwner s p r payload.length = none) (ho : ownerOf r p payload s = (u, rep))
    (hq : u.realloc = s.realloc) (hp : u.previews = s.previews) :
    exec (r.toInstr p payload) s = .next (answer u p rep) := by
  rw [exec_toInstr, serve_quiet h ht (by rw [ho]; exact hq) (by rw [ho]; exact hp), ho]

/-! ## The records that READ NOTICES removes (R158) -/

/-- The payload of READ NOTICES field by field: the overrun flag, the number of records removed, their bytes, and the number
that remain. -/
theorem noticesPayload_eq (q : NoticeQueue) (count : Nat) :
    noticesPayload q count = flagByte q.overrun ++ u8 (q.records.take count).length ++
      (q.records.take count).flatMap Notice.bytes ++ u8 (q.records.drop count).length := by
  simp only [noticesPayload, listBytes, List.length_map, List.flatMap_def, List.append_assoc]

/-- A count of 1 to 8 splits the port's queue: the head is in the reply, the rest stays, and the flag is cleared. -/
theorem ownReadNotices_of_count {s : State} {p : Port} {b : Byte} (positive : 1 ≤ b.toNat) (atMost : b.toNat ≤ 8) :
    ownReadNotices p [b] s =
      (s.setNotices p { records := (s.noticeQueue p).records.drop b.toNat, overrun := false },
        { result := .ok, payload := noticesPayload (s.noticeQueue p) b.toNat,
          removed := !(s.noticeQueue p).records.isEmpty }) :=
  if_pos ⟨positive, atMost⟩

/-- READ NOTICES refuses a count of 0 and every count above 8. -/
theorem ownReadNotices_of_bad_count {s : State} {p : Port} {b : Byte} (h : b = 0 ∨ 8 < b.toNat) :
    ownReadNotices p [b] s = (s, replyOf .outOfRange) := by
  refine if_neg fun ⟨positive, atMost⟩ => ?_
  rcases h with rfl | above
  · exact Nat.lt_irrefl 0 positive
  · exact Nat.not_lt.mpr atMost above

/-- A positive count removes a record just where the queue holds one. -/
theorem isEmpty_take_of_pos {α : Type} {l : List α} {n : Nat} (h : 1 ≤ n) : (l.take n).isEmpty = l.isEmpty := by
  cases l with
  | nil => rw [List.take_nil]
  | cons x l => obtain ⟨m, rfl⟩ := Nat.exists_eq_add_of_le' h; rfl

/-! ## The filing of a notice (R157) -/

/-- A queue with room takes a notice at its tail and keeps its flag. -/
theorem appendNotice_of_room {q : NoticeQueue} (n : Notice) (room : q.records.length < 32) :
    appendNotice q n = { records := q.records ++ [n], overrun := q.overrun } := if_pos room

/-- A full queue loses its head and sets its flag. -/
theorem appendNotice_of_full {q : NoticeQueue} (n : Notice) (full : q.records.length = 32) :
    appendNotice q n = { records := q.records.tail ++ [n], overrun := true } := by
  rw [← List.drop_one]
  exact if_neg full.not_lt

/-- Filing writes the notice queues alone. -/
theorem file_frame (s : State) (ports : List Port) (n : Notice) :
    file s ports n = { s with notices := (file s ports n).notices } :=
  file_keeps (fun t : State => { t with notices := (file s ports n).notices }) (fun _ _ => rfl) s ports n

/-! ## The statement -/

/-- Settles O52: a legal count splits the queue into what `take` and `drop` of it give, and a filing is one `appendNotice` on
each port of the set. -/
theorem noticesReadAndFiled : Obligations.NoticesReadAndFiled := by
  refine ⟨fun s p b hf => ⟨fun positive atMost => ?read, fun bad => ?refused⟩, fun s ports n distinct law => ?filed⟩
  case read =>
    let l := (s.noticeQueue p).records
    refine ⟨l.take b.toNat, l.drop b.toNat, (List.take_append_drop ..).symm, List.length_take, ?_⟩
    rw [isEmpty_take_of_pos positive, ← noticesPayload_eq]
    exact exec_of_owner_quiet (r := .readNotices) hf (tests_readNotices s p b) (ownReadNotices_of_count positive atMost)
      rfl rfl
  case refused =>
    exact exec_of_owner_replies (r := .readNotices) hf (tests_readNotices s p b) (ownReadNotices_of_bad_count bad)
  case filed =>
    refine ⟨file s ports n, rfl, file_frame s ports n, file_noticeLaw ports n law,
      fun p outside => file_noticeQueue_of_notMem s n outside, fun p inside => ?_⟩
    rw [file_noticeQueue_of_mem s n distinct inside]
    exact ⟨appendNotice_of_room n, appendNotice_of_full n⟩

end Sys2Proof.Machine
end

section
/-! READ STATUS: its form, which every port takes in every tenancy state, its payload with the codes of section 11.3 as bytes,
and O8. -/

namespace Sys2Proof.Machine

open Sys2Proof

/-! ## The taking of READ STATUS -/

/-- READ STATUS has no operand, on VN and on every operator port (R176). -/
theorem formLengths_readStatus (p : Port) : formLengths .readStatus p = some [0] := by
  cases p <;> rfl

theorem tests_readStatus (s : State) (p : Port) :
    testsBeforeOwner s p .readStatus ([] : List Byte).length = none :=
  tests_of_takenUntenanted (formLengths_readStatus p) rfl rfl

/-! ## The codes of section 11.3 as bytes -/

theorem u8_tenancyCode (t : Tenancy) :
    u8 t.code = if t = .absent then [0] else if t = .active then [1] else [2] := by
  cases t <;> rfl

theorem u8_transportCode (t : Transport) :
    u8 t.code = if t = .stopped then [0] else if t = .running then [1] else [2] := by
  cases t <;> rfl

/-- A preview slot that is filled is WAITING or RUNNING. -/
theorem u8_slotCode_some (e : PreviewSlot) : u8 (slotCode (some e)) = if e.running then [2] else [1] := by
  rw [slotCode, apply_ite u8]
  rfl

/-! ## The reply -/

/-- The payload of READ STATUS: the port, the part's identity and revision in three bytes, then the fields of R176. -/
theorem statusPayload_eq (s : State) (p : Port) :
    statusPayload s p = u8 (portNumber p).val ++ [0x06, 0x48, 0x01] ++ u8 (shownTenancy s p).code ++
      (if s.transport = .stopped then [0] else if s.transport = .running then [1] else [2]) ++ u16 s.superframe ++
      u8 s.cycle ++ u8 (s.noticeQueue p).records.length ++ flagByte (s.noticeQueue p).overrun ++
      u8 (slotCode (s.previewSlot p)) := by
  rw [← u8_transportCode]
  rfl

/-- READ STATUS answers its port with the payload of R176 and changes nothing else, whatever the tenancy and the transport
state. The two bytes that depend on the kind of port and on its preview slot are given by what they are equal to. -/
theorem exec_readStatus {s : State} {p : Port} {tenancy slot : List Byte} (hf : FrameIn s p)
    (shown : u8 (shownTenancy s p).code = tenancy) (preview : u8 (slotCode (s.previewSlot p)) = slot) :
    exec (.readStatus p []) s = .next (answer s p (replyWith (
      u8 (portNumber p).val ++ [0x06, 0x48, 0x01] ++ tenancy ++
        (if s.transport = .stopped then [0] else if s.transport = .running then [1] else [2]) ++ u16 s.superframe ++
        u8 s.cycle ++ u8 (s.noticeQueue p).records.length ++ flagByte (s.noticeQueue p).overrun ++ slot))) := by
  rw [← shown, ← preview, ← statusPayload_eq]
  exact exec_of_owner_replies (r := .readStatus) hf (tests_readStatus s p) rfl

/-- Settles O8: every port passes the tests before the owner, and the reply's bytes follow by the kind of port and by what
stands in its preview slot. -/
theorem readStatusReply : Obligations.ReadStatusReply := by
  intro s p hf
  refine exec_readStatus hf ?shown ?preview
  case shown =>
    cases p with
    | vn => rfl
    | op o => exact u8_tenancyCode (s.oper o).tenancy
  case preview =>
    cases s.previewSlot p with
    | none => rfl
    | some e => exact u8_slotCode_some e

end Sys2Proof.Machine
end

section
/-! The state without the Power Share Unit's, the Allocation Engine's and the ports' fields, on which every derived
condition depends: what leaves it as it is, and what agrees with it. -/

namespace Sys2Proof.Machine

open Sys2Proof

/-! ## The bare state -/

/-- The state with the fields that `State.leaving` leaves open at their values after RSTn: what is left is what the
conditions of R18 to R20, R73, R74, R121 and R122 are derived from. -/
def State.bare (s : State) : State := s.leaving State.reset

/-- A function of the bare state takes the same value on two states that share it. -/
theorem State.congr_bare {β : Type} (g : State → β) {t u : State} (h : t.bare = u.bare)
    (hg : ∀ s : State, g s.bare = g s) : g t = g u := by
  rw [← hg t, h, hg u]

/-- A state agrees with u in every field outside the Power Share Unit, the Allocation Engine, the queues and the ports just
where the two have the same bare state. -/
theorem eq_leaving_iff {t u : State} : t = u.leaving t ↔ t.bare = u.bare := by
  have back (x : State) : x.bare.leaving t = x.leaving t := rfl
  have own : t.leaving t = t := rfl
  constructor
  · intro h
    rw [h]
    rfl
  · intro h
    rw [← back u, ← h, back, own]

/-! ## Writing one field

Each is an update of one field, named so that an operation's effect is a short term. -/

def State.withZones (s : State) (v : Vector ZoneRec 64) : State := { s with zones := v }
def State.withLatch (s : State) (b : Bool) : State := { s with latchPending := b }
def State.withLinks (s : State) (v : Vector LinkRec 64) : State := { s with links := v }
def State.withProt (s : State) (v : Vector (Vector ProtRec 6) 64) : State := { s with prot := v }
def State.withModes (s : State) (v : Vector ClassMode 6) : State := { s with modes := v }
def State.withCells (s : State) (v : Vector (Vector Nat 4) 64) : State := { s with cells := v }
def State.withSpread (s : State) (v : Vector SpreadRec 4) : State := { s with spread := v }
def State.withSettle (s : State) (v : Vector (Vector Nat 4) 64) : State := { s with settle := v }

/-- An operation that leaves everything but the fields that `put` writes, as an equation for its bare state. -/
theorem bare_eq_of_keeps {s t : State} (put : State → State → State) (self : ∀ x, put x x = x.bare)
    (keeps : ∀ y, put t y = put s y) : t.bare = put s t := (self t).symm.trans (keeps t)

/-! ## What is derived from the bare state -/

theorem slotted_congr {t u : State} (h : t.bare = u.bare) (z : ZoneNo) (o : OpNo) : slotted t z o = slotted u z o :=
  State.congr_bare (slotted · z o) h (fun _ => rfl)
theorem carrying_congr {t u : State} (h : t.bare = u.bare) (z : ZoneNo) (o : OpNo) : carrying t z o = carrying u z o :=
  State.congr_bare (carrying · z o) h (fun _ => rfl)
theorem effBudget_congr {t u : State} (h : t.bare = u.bare) (z : ZoneNo) : effBudget t z = effBudget u z :=
  State.congr_bare (effBudget · z) h (fun _ => rfl)
theorem effRequest_congr {t u : State} (h : t.bare = u.bare) (z : ZoneNo) (o : OpNo) : effRequest t z o = effRequest u z o :=
  State.congr_bare (effRequest · z o) h (fun _ => rfl)
theorem snapshotOf_congr {t u : State} (h : t.bare = u.bare) (z : ZoneNo) : snapshotOf t z = snapshotOf u z :=
  State.congr_bare (snapshotOf · z) h (fun _ => rfl)
theorem outputsChanged_congr {s t u : State} (h : t.bare = u.bare) (z : ZoneNo) :
    outputsChanged s t z = outputsChanged s u z := State.congr_bare (outputsChanged s · z) h (fun _ => rfl)

/-! ## What leaves the bare state -/

@[simp] theorem file_bare (s : State) (ps : List Port) (n : Notice) : (file s ps n).bare = s.bare :=
  file_keeps State.bare (fun _ _ => rfl) ..
@[simp] theorem fileZone_bare (s : State) (z : ZoneNo) (k : NoticeKind) (v : Nat) : (fileZone s z k v).bare = s.bare :=
  file_bare ..
@[simp] theorem fileAlarm_bare (s : State) (z : ZoneNo) (c : ClassNo) (k : NoticeKind) (v : Nat) :
    (fileAlarm s z c k v).bare = s.bare := file_bare ..
@[simp] theorem fileTenancy_bare (s : State) (o : OpNo) : (fileTenancy s o).bare = s.bare := file_bare ..
@[simp] theorem fileLink_bare (s : State) (z : ZoneNo) (k : NoticeKind) : (fileLink s z k).bare = s.bare := file_bare ..
@[simp] theorem inputChange_bare (old s : State) (z : ZoneNo) : (inputChange old s z).bare = s.bare :=
  inputChange_keeps State.bare (fun _ _ => rfl) (fun _ _ => rfl) (fun _ _ => rfl) (fun _ _ => rfl) ..
@[simp] theorem inputChanges_bare (old s : State) (also : ZoneNo → Bool) : (inputChanges old s also).bare = s.bare :=
  inputChanges_keeps State.bare (fun _ _ => rfl) (fun _ _ => rfl) (fun _ _ => rfl) (fun _ _ => rfl) ..
@[simp] theorem shareChange_bare (s : State) : (shareChange s).bare = s.bare :=
  shareChange_keeps State.bare (fun _ _ => rfl) ..
@[simp] theorem outputNotices_bare (old s : State) (z : ZoneNo) : (outputNotices old s z).bare = s.bare :=
  outputNotices_keeps State.bare (fun _ _ => rfl) ..
@[simp] theorem takeOutputs_bare (old s : State) (z : ZoneNo) : (takeOutputs old s z).bare = s.bare :=
  takeOutputs_keeps State.bare (fun _ _ => rfl) (fun _ _ => rfl) (fun _ _ => rfl) (fun _ _ => rfl) ..
@[simp] theorem arbitrate_bare (s : State) : (arbitrate s).bare = s.bare :=
  arbitrate_keeps State.bare (fun _ _ => rfl) (fun _ _ => rfl) (fun _ _ => rfl) (fun _ _ => rfl) (fun _ _ => rfl) ..
@[simp] theorem endEvent_bare (old s : State) : (endEvent old s).bare = s.bare :=
  endEvent_keeps State.bare (fun _ _ => rfl) (fun _ _ => rfl) (fun _ _ => rfl) (fun _ _ => rfl) (fun _ _ => rfl) ..
@[simp] theorem writeGrants_bare (s : State) (z : ZoneNo) (g : Vector Nat 4) : (writeGrants s z g).bare = s.bare :=
  writeGrants_keeps State.bare (fun _ _ => rfl) (fun _ _ => rfl) (fun _ _ => rfl) ..
@[simp] theorem completePreview_bare (s : State) (p : Port) (o : OpNo) (sec : Option SectorNo) (z : ZoneNo) (n : Snapshot) :
    (completePreview s p o sec z n).bare = s.bare :=
  completePreview_keeps State.bare (fun _ _ => rfl) (fun _ _ => rfl) ..
@[simp] theorem finishComputation_bare (s : State) : (finishComputation s).bare = s.bare :=
  finishComputation_keeps State.bare (fun _ _ => rfl) (fun _ _ => rfl) (fun _ _ => rfl) (fun _ _ => rfl) (fun _ _ => rfl) ..
@[simp] theorem answer_bare (s : State) (p : Port) (rep : Reply) : (answer s p rep).bare = s.bare := rfl

/-! ## Proposals that are closed (R116) -/

/-- The state of an operator in `closedWhere`. -/
theorem closedWhere_getElem (s : State) (test : OpNo → Proposal → Bool) (o : OpNo) :
    (closedWhere s test)[o] = match (s.spreadRec o).proposal with
      | some p => if test o p then (s.spreadRec o).closed p else s.spreadRec o
      | none => s.spreadRec o := vec4_getElem _ o

theorem spread_ext {v w : Vector SpreadRec 4} (h : ∀ o : OpNo, v[o] = w[o]) : v = w :=
  Vector.ext fun i hi => h ⟨i, hi⟩

/-- With no proposal that passes the test, none is closed. -/
theorem closedWhere_eq_self {s : State} {test : OpNo → Proposal → Bool}
    (h : ∀ o p, (s.spreadRec o).proposal = some p → test o p = false) : closedWhere s test = s.spread := by
  refine spread_ext fun o => ?_
  rw [closedWhere_getElem]
  cases hp : (s.spreadRec o).proposal with
  | none => rfl
  | some p => simp only [h o p hp, Bool.false_eq_true, if_false]; rfl

theorem closedWhere_congr {t u : State} (h : t.bare = u.bare) (test : OpNo → Proposal → Bool) :
    closedWhere t test = closedWhere u test := State.congr_bare (closedWhere · test) h (fun _ => rfl)

@[simp] theorem closedWhere_withProt (s : State) (v : Vector (Vector ProtRec 6) 64) (test : OpNo → Proposal → Bool) :
    closedWhere (s.withProt v) test = closedWhere s test := rfl

/-- An operator's own withdrawal under a test. -/
theorem withdrawIf_spread (s : State) (o : OpNo) (test : Proposal → Bool) (why : WithdrawCause) :
    (withdrawIf s o test why).spread = closedWhere s fun q p => decide (q = o) && test p := by
  obtain ⟨own, others⟩ := withdrawIf_spreadRec s o test why
  refine spread_ext fun q => ?_
  rw [closedWhere_getElem]
  by_cases hq : q = o
  · subst hq
    simp only [decide_true, Bool.true_and]
    exact own
  · refine (others q hq).trans ?_
    cases (s.spreadRec q).proposal <;> simp [hq]

theorem withdraw_eq_withdrawIf (s : State) (o : OpNo) (why : WithdrawCause) :
    withdraw s o why = withdrawIf s o (fun _ => true) why := by
  unfold withdrawIf
  cases h : (s.spreadRec o).proposal with
  | none => simp only [withdraw, h]
  | some p => rfl

/-- A withdrawal writes the Spread Engine's states and the notice queues alone. -/
theorem withdrawIf_bare (s : State) (o : OpNo) (test : Proposal → Bool) (why : WithdrawCause) :
    (withdrawIf s o test why).bare = s.bare.withSpread (closedWhere s fun q p => decide (q = o) && test p) := by
  rw [← withdrawIf_spread s o test why]
  exact bare_eq_of_keeps (fun x y => x.bare.withSpread y.spread) (fun _ => rfl)
    fun y => withdrawIf_keeps (fun x => x.bare.withSpread y.spread) (fun _ _ => rfl) (fun _ _ => rfl) s o test why

theorem withdraw_bare (s : State) (o : OpNo) (why : WithdrawCause) :
    (withdraw s o why).bare = s.bare.withSpread (closedWhere s fun q _ => decide (q = o)) := by
  simp only [withdraw_eq_withdrawIf, withdrawIf_bare, Bool.and_true]

/-- Closing under one test and then under another closes what either names. -/
theorem closedWhere_closedWhere (s : State) (test test' : OpNo → Proposal → Bool) :
    closedWhere (s.withSpread (closedWhere s test)) test' = closedWhere s fun o p => test o p || test' o p := by
  refine spread_ext fun o => ?_
  have record : (s.withSpread (closedWhere s test)).spreadRec o = (closedWhere s test)[o] := rfl
  rw [closedWhere_getElem, closedWhere_getElem, record, closedWhere_getElem]
  cases hp : (s.spreadRec o).proposal with
  | none => simp only [hp]
  | some p => by_cases ht : test o p <;> simp [ht, hp, SpreadRec.closed]

@[simp] theorem withProt_bare (s : State) (v : Vector (Vector ProtRec 6) 64) : (s.withProt v).bare = s.bare.withProt v := rfl
@[simp] theorem withSpread_withSpread (s : State) (v w : Vector SpreadRec 4) : (s.withSpread v).withSpread w = s.withSpread w :=
  rfl

/-- Withdrawals by several operators under one test. -/
theorem foldl_withdrawIf_bare (l : List OpNo) (s : State) (test : Proposal → Bool) (why : WithdrawCause) :
    (l.foldl (fun t o => withdrawIf t o test why) s).bare =
      s.bare.withSpread (closedWhere s fun q p => decide (q ∈ l) && test p) := by
  induction l generalizing s with
  | nil => rw [closedWhere_eq_self (by simp)]; rfl
  | cons o l ih =>
    have first : (withdrawIf s o test why).bare =
        (s.withSpread (closedWhere s fun q p => decide (q = o) && test p)).bare := withdrawIf_bare s o test why
    rw [List.foldl_cons, ih, withdrawIf_bare, withSpread_withSpread, closedWhere_congr first, closedWhere_closedWhere]
    congr 2
    funext q p
    by_cases hq : q = o <;> cases test p <;> simp [hq]

/-- The withdrawals on a zone close the proposals on it (R6, R58). -/
theorem withdrawOnZone_bare (s : State) (z : ZoneNo) (why : WithdrawCause) :
    (withdrawOnZone s z why).bare = s.bare.withSpread (closedWhere s fun _ p => decide (p.zone = z)) := by
  refine (foldl_withdrawIf_bare allOps s _ why).trans ?_
  simp [allOps]

/-- The withdrawal of every proposal (R29). -/
theorem withdrawAll_bare (s : State) (why : WithdrawCause) :
    (withdrawAll s why).bare = s.bare.withSpread (closedWhere s fun _ _ => true) := by
  unfold withdrawAll
  simp only [withdraw_eq_withdrawIf]
  refine (foldl_withdrawIf_bare allOps s _ why).trans ?_
  simp [allOps]

/-! ## Alarm edges (R68 to R70) -/

/-- The record of a class after its edge, by the tables of R69 and R70; an equal bit is no edge. -/
def edgeRecord (m : ClassMode) (r : ProtRec) (bit : Bool) : ProtRec :=
  if r.raw = bit then r else if bit then (risingEdge m r).1 else (fallingEdge m r).1

theorem edgeRecord_raw (m : ClassMode) (r : ProtRec) (bit : Bool) : (edgeRecord m r bit).raw = bit := by
  unfold edgeRecord risingEdge fallingEdge
  cases bit with
  | true => cases hs : r.state <;> cases hr : r.raw <;> cases m <;> simp_all
  | false => cases hs : r.state <;> cases hr : r.raw <;> cases m <;> simp_all

/-- A falling edge keeps the latched bit (R70). -/
theorem edgeRecord_latched_of_falling (m : ClassMode) (r : ProtRec) : (edgeRecord m r false).latched = r.latched := by
  unfold edgeRecord fallingEdge
  cases hs : r.state <;> cases hr : r.raw <;> cases m <;> simp

theorem takeEdge_protRec_eq (s : State) (z : ZoneNo) (c : ClassNo) (bit : Bool) (y : ZoneNo) (d : ClassNo) :
    (takeEdge s z c bit).protRec y d =
      if y = z ∧ d = c then edgeRecord (s.mode c) (s.protRec z c) bit else s.protRec y d := by
  by_cases h : y = z ∧ d = c
  · obtain ⟨rfl, rfl⟩ := h
    simp only [and_self, if_true]
    exact takeEdge_protRec s y d bit
  · rw [if_neg h]
    exact takeEdge_protRec_of_ne s bit (by tauto)

@[simp] theorem takeEdge_mode (s : State) (z : ZoneNo) (c d : ClassNo) (bit : Bool) :
    (takeEdge s z c bit).mode d = s.mode d := takeEdge_keeps (State.mode · d) (fun _ _ => rfl) (fun _ _ => rfl) ..

theorem foldl_takeEdge_protRec (z : ZoneNo) (bits : Vector Bool 6) {l : List ClassNo} (once : l.Nodup) (s : State)
    (y : ZoneNo) (d : ClassNo) :
    (l.foldl (fun s c => takeEdge s z c bits[c]) s).protRec y d =
      if y = z ∧ d ∈ l then edgeRecord (s.mode d) (s.protRec z d) bits[d] else s.protRec y d := by
  induction l generalizing s with
  | nil => simp
  | cons c l ih =>
    obtain ⟨hc, hl⟩ := List.nodup_cons.mp once
    rw [List.foldl_cons, ih hl, takeEdge_mode, takeEdge_protRec_eq, takeEdge_protRec_eq]
    by_cases hy : y = z <;> by_cases hd : d = c <;> simp [hy, hd, hc]

/-- A whole vector moves each record of its zone by its own edge, and no other zone's (R68). -/
theorem takeEdges_protRec (s : State) (z : ZoneNo) (bits : Vector Bool 6) (y : ZoneNo) (c : ClassNo) :
    (takeEdges s z bits).protRec y c =
      if y = z then edgeRecord (s.mode c) (s.protRec z c) bits[c] else s.protRec y c := by
  have edges := foldl_takeEdge_protRec z bits (List.nodup_finRange 6) s y c
  simp only [List.mem_finRange, and_true] at edges
  exact edges

/-- A vector's edges write the protection records and the notice queues alone. -/
theorem takeEdges_bare (s : State) (z : ZoneNo) (bits : Vector Bool 6) :
    (takeEdges s z bits).bare = s.bare.withProt (takeEdges s z bits).prot :=
  bare_eq_of_keeps (fun x y => x.bare.withProt y.prot) (fun _ => rfl)
    fun y => takeEdges_keeps (fun x => x.bare.withProt y.prot) (fun _ _ => rfl) (fun _ _ => rfl) s z bits

/-! ## Going dark (R58, R59, R72) -/

/-- The protection records of a state whose bare state is known. -/
theorem prot_of_bare {w u : State} {v : Vector (Vector ProtRec 6) 64} {c : Vector SpreadRec 4}
    (h : w.bare = (u.withProt v).withSpread c) : w.prot = v := congrArg State.prot h

/-- A zone that goes dark has its raw bits fall and the proposals on it closed. -/
theorem goDark_bare (old s : State) (z : ZoneNo) (cause : DarkCause) (why : WithdrawCause) :
    (goDark old s z cause why).bare =
      (s.bare.withProt (goDark old s z cause why).prot).withSpread (closedWhere s fun _ p => decide (p.zone = z)) := by
  obtain ⟨u, hu⟩ : ∃ u, u = takeEdges (fileZone s z .zoneDark cause.code) z (Vector.replicate 6 false) := ⟨_, rfl⟩
  have edges : u.bare = (s.withProt u.prot).bare := by
    rw [withProt_bare, ← fileZone_bare s z .zoneDark cause.code, hu]
    exact takeEdges_bare ..
  have dark : (outputNotices old u z).bare = (s.withProt u.prot).bare := (outputNotices_bare old u z).trans edges
  have whole : (goDark old s z cause why).bare =
      (s.bare.withProt u.prot).withSpread (closedWhere s fun _ p => decide (p.zone = z)) := by
    rw [goDark, ← hu, withdrawOnZone_bare, closedWhere_congr dark, closedWhere_withProt, dark, withProt_bare]
  rw [prot_of_bare whole]
  exact whole

theorem goDark_protRec (old s : State) (z : ZoneNo) (cause : DarkCause) (why : WithdrawCause) (y : ZoneNo) (c : ClassNo) :
    (goDark old s z cause why).protRec y c =
      if y = z then edgeRecord (s.mode c) (s.protRec z c) false else s.protRec y c := by
  let u := fileZone s z .zoneDark cause.code
  have edges := takeEdges_protRec u z (Vector.replicate 6 false) y c
  have same : u.bare = s.bare := fileZone_bare ..
  have bit : (Vector.replicate 6 false)[c] = false := by simp
  rw [bit, show u.mode c = s.mode c from State.congr_bare (State.mode · c) same (fun _ => rfl),
    show u.protRec z c = s.protRec z c from State.congr_bare (State.protRec · z c) same (fun _ => rfl),
    show u.protRec y c = s.protRec y c from State.congr_bare (State.protRec · y c) same (fun _ => rfl)] at edges
  rw [← edges]
  refine (withdrawOnZone_keeps (State.protRec · y c) (fun _ _ => rfl) (fun _ _ => rfl) _ z why).trans ?_
  exact outputNotices_keeps (State.protRec · y c) (fun _ _ => rfl) ..

end Sys2Proof.Machine
end

section
/-! What a command can do to the state, said once: the owner of a request, and every command and the passing of time. -/

namespace Sys2Proof.Machine

open Sys2Proof

/-! ## The owner of a request -/

/-- PROVISION ZONE of a zone that is not provisioned (R2). -/
def provision (s : State) (z : ZoneNo) : State :=
  let t := clearZoneCells (s.setZone z { s.zone z with provisioned := true }) z
  if s.transport = .running ∧ (s.link z).state = .idle then t.setLink z (s.link z).toSearch else t

/-- What the owner of a request that VN alone takes can do (section 11.2). -/
inductive VenueMove (s : State) : State → Prop
  | start (stopped : s.transport = .stopped) : VenueMove s (ownStart s).1
  | drain (running : s.transport = .running) : VenueMove s { s with transport := .draining }
  | freeze (runs : s.transport ≠ .stopped) : VenueMove s (enterStopped s)
  | commit (stopped : s.transport = .stopped) : VenueMove s (takeCommit s)
  | awaitCommit (runs : s.transport ≠ .stopped) : VenueMove s { s with commitPending := true }
  | abortCommit : VenueMove s { s with commitPending := false }
  | window (w : PlanWindow) : VenueMove s { s with window := w }
  | writeEntries (l : List RawEntry) : VenueMove s (l.foldl writeEntry s)
  | readEntries (n : Nat) : VenueMove s (readSteps n s).1
  | provision (z : ZoneNo) (absent : (s.zone z).provisioned = false) : VenueMove s (provision s z)
  | retire (z : ZoneNo) (present : (s.zone z).provisioned = true) : VenueMove s (retire s z)
  | budget (z : ZoneNo) (b : Nat) (range : b ≤ 65535) : VenueMove s (storeBudget s z b)
  | neighbours (z : ZoneNo) (l : List ZoneNo) (good : goodNeighbours z l = true) :
      VenueMove s (s.setZone z { s.zone z with neighbours := l })
  | pin (z : ZoneNo) (b : Bool) (present : (s.zone z).provisioned = true) : VenueMove s (setPin s z b)
  | move (z : ZoneNo) (o : OpNo) (b : Option SectorNo) (present : (s.zone z).provisioned = true)
      (tenant : (s.oper o).tenancy ≠ .absent) : VenueMove s (manualMove s z o b)
  | admits (o : OpNo) (other : (s.oper o).tenancy ≠ .active) : VenueMove s (admission s o)
  | suspend (o : OpNo) (active : (s.oper o).tenancy = .active) : VenueMove s (suspension s o)
  | release (o : OpNo) : VenueMove s (releaseAll s o)
  | lostLimit (n : Nat) (low : Config.minLostLimit ≤ n) (high : n ≤ Config.maxLostLimit) : VenueMove s { s with lostLimit := n }
  | clearLosses (zones : List ZoneNo) : VenueMove s (zones.foldl clearLoss s)
  | mode (c : ClassNo) (m : ClassMode) (permitted : permits c m = true) (new : s.mode c ≠ m) : VenueMove s (changeMode s c m)
  | level (c : ClassNo) (n : Nat) (low : 1 ≤ n) (high : n ≤ Config.max8) :
      VenueMove s (allZones.foldl (takeOutputs s) (storeLevel s c n))
  | clearFaults (zones : List ZoneNo) : VenueMove s (zones.foldl clearZone s)
  | spreadTimes (a b : Nat) (first : a ≤ 65535) (second : b ≤ 65535) : VenueMove s { s with settleTime := a, holdOff := b }
  | share (o : OpNo) (n : Nat) (range : n ≤ Config.maxShare) (law : shareSumWith s o n ≤ Config.maxShare) :
      VenueMove s (storeShare s o n)
  | clearStale : VenueMove s { s with stale := 0 }

/-- An operator record whose own parameters alone were stored (R88, R99 to R102). -/
def OpRec.reparametered (r r' : OpRec) : Prop :=
  r' = { r with silence := r'.silence, high := r'.high, low := r'.low, period := r'.period, window := r'.window,
                weight := r'.weight }

/-- What the owner of a request that the operators' ports alone take can do on the port of o (section 11.2). -/
inductive TenantMove (req : Req) (o : OpNo) (s : State) : State → Prop
  | enable (sec : SectorNo) (on : Bool) : TenantMove req o s (storeEnable s o sec on)
  | power (sec : SectorNo) (n : Nat) (range : n ≤ Config.maxRequest) : TenantMove req o s (storePower s o sec n)
  | parameter (r : OpRec) (same : (s.oper o).reparametered r) (good : goodOperator (s.oper o) → goodOperator r) :
      TenantMove req o s (s.setOper o r)
  | policy (m : Policy) : TenantMove req o s (changePolicy s o m)
  | accept (p : Proposal) (stands : (s.spreadRec o).proposal = some p) (asked : req = .accept) :
      TenantMove req o s (acceptProposal s o p)
  | decline (p : Proposal) (stands : (s.spreadRec o).proposal = some p) : TenantMove req o s (declineProposal s o p)

/-- What the owner of a request that is taken on port p can do. -/
inductive OwnerMove (req : Req) (p : Port) (s : State) : State → Prop
  | stays : OwnerMove req p s s
  | readNotices (n : Nat) : OwnerMove req p s (s.setNotices p { records := (s.noticeQueue p).records.drop n, overrun := false })
  | preview (z : ZoneNo) (o : OpNo) (n : Nat) (own : ∀ q, p = .op q → o = q) (empty : s.previewSlot p = none) :
      OwnerMove req p s (s.setPreview p (some { zone := z, operator := o, request := n, running := false, cancelled := false }))
  | venue {t : State} (port : p = .vn) (moved : VenueMove s t) : OwnerMove req p s t
  | tenant {t : State} (o : OpNo) (port : p = .op o) (moved : TenantMove req o s t) : OwnerMove req p s t

/-- An owner refuses, with an empty payload and nothing changed, or makes a move and answers with no refusal (R173). -/
inductive OwnerOutcome (req : Req) (p : Port) (s : State) : State × Reply → Prop
  | refused (x : Result) : OwnerOutcome req p s (refuse s x)
  | taken {t : State} {rep : Reply} (moved : OwnerMove req p s t) (accepted : rep.result.refuses = false) :
      OwnerOutcome req p s (t, rep)

variable {req : Req}

theorem venue_of_tests {s : State} {p : Port} {r : Req} {n : Nat} (passes : testsBeforeOwner s p r n = none)
    (none : operatorLengths r = none) : p = .vn := by
  cases p with
  | vn => rfl
  | op o => simp [testsBeforeOwner, formLengths, none] at passes

theorem operator_of_tests {s : State} {p : Port} {r : Req} {n : Nat} (passes : testsBeforeOwner s p r n = none)
    (none : venueLengths r = none) : ∃ o, p = .op o := by
  cases p with
  | vn => simp [testsBeforeOwner, formLengths, none] at passes
  | op o => exact ⟨o, rfl⟩

theorem num16_le (a b : Byte) : num16 a b ≤ 65535 := by
  have := a.isLt
  have := b.isLt
  unfold num16
  omega

theorem clampTo_range (lo hi n : Nat) (h : lo ≤ hi) : lo ≤ clampTo lo hi n ∧ clampTo lo hi n ≤ hi := by
  unfold clampTo
  omega

theorem okOrClamped_accepts (a b : Nat) : (okOrClamped a b).result.refuses = false := by
  unfold okOrClamped
  split <;> rfl

/-- An owner that only replies. -/
theorem OwnerOutcome.replies {p : Port} {s : State} {rep : Reply} (h : rep.result.refuses = false) :
    OwnerOutcome req p s (s, rep) := .taken .stays h

theorem numBelow_val {n : Nat} {b : Byte} {k : Fin n} (h : numBelow n b = some k) : b.toNat = k.val := by
  unfold numBelow at h
  split at h
  · exact congrArg Fin.val (Option.some.inj h)
  · cases h

/-! ## Each owner -/

theorem ownStart_outcome (s : State) : OwnerOutcome req .vn s (ownStart s) := by
  by_cases h : s.transport = .stopped
  · rw [show ownStart s = ((ownStart s).1, replyOf .ok) by simp [ownStart, h]]
    exact .taken (.venue rfl (.start h)) rfl
  · rw [ownStart, if_neg h]
    exact .refused _

theorem ownStop_outcome (s : State) : OwnerOutcome req .vn s (ownStop s) := by
  unfold ownStop
  split
  · next h => exact .taken (.venue rfl (.drain h)) rfl
  · exact .replies rfl

theorem ownFreeze_outcome (s : State) : OwnerOutcome req .vn s (ownFreeze s) := by
  unfold ownFreeze
  split
  · exact .replies rfl
  · next h => exact .taken (.venue rfl (.freeze h)) rfl

theorem ownCommitPlan_outcome (s : State) : OwnerOutcome req .vn s (ownCommitPlan s) := by
  unfold ownCommitPlan
  split
  · next h => exact .taken (.venue rfl (.commit h)) rfl
  · next h => exact .taken (.venue rfl (.awaitCommit h)) rfl

theorem ownReadShadowCounts_outcome (p : Port) (payload : List Byte) (s : State) :
    OwnerOutcome req p s (ownReadShadowCounts payload s) := by
  unfold ownReadShadowCounts
  split
  · split
    · exact .replies rfl
    · exact .refused _
  · exact .refused _

theorem ownSetPlanWindow_outcome (payload : List Byte) (s : State) : OwnerOutcome req .vn s (ownSetPlanWindow payload s) := by
  unfold ownSetPlanWindow
  split
  · split
    · split
      · exact .taken (.venue rfl (.window _)) rfl
      · exact .refused _
    · exact .refused _
  · exact .refused _

theorem ownWritePlanEntries_outcome (payload : List Byte) (s : State) :
    OwnerOutcome req .vn s (ownWritePlanEntries payload s) := by
  unfold ownWritePlanEntries
  split
  · exact .taken (.venue rfl (.writeEntries _)) rfl
  · exact .refused _

theorem ownReadPlanEntries_outcome (payload : List Byte) (s : State) : OwnerOutcome req .vn s (ownReadPlanEntries payload s) := by
  unfold ownReadPlanEntries
  split
  · split
    · exact .taken (.venue rfl (.readEntries _)) rfl
    · exact .refused _
  · exact .refused _

theorem ownProvisionZone_outcome (payload : List Byte) (s : State) : OwnerOutcome req .vn s (ownProvisionZone payload s) := by
  unfold ownProvisionZone
  split
  · exact .refused _
  · next z _ =>
    split
    · exact .refused _
    · next h => exact .taken (.venue rfl (.provision z (by simpa using h))) rfl

theorem ownRetireZone_outcome (payload : List Byte) (s : State) : OwnerOutcome req .vn s (ownRetireZone payload s) := by
  unfold ownRetireZone
  split
  · exact .refused _
  · split
    · next h => exact .taken (.venue rfl (.retire _ h)) rfl
    · exact .refused _

theorem ownSetBudget_outcome (payload : List Byte) (s : State) : OwnerOutcome req .vn s (ownSetBudget payload s) := by
  unfold ownSetBudget
  split
  · split
    · exact .refused _
    · exact .taken (.venue rfl (.budget _ _ (num16_le ..))) rfl
  · exact .refused _

theorem ownSetNeighbours_outcome (payload : List Byte) (s : State) : OwnerOutcome req .vn s (ownSetNeighbours payload s) := by
  unfold ownSetNeighbours
  split
  · split
    · exact .refused _
    · split
      · exact .refused _
      · split
        · next good => exact .taken (.venue rfl (.neighbours _ _ good)) rfl
        · exact .refused _
  · exact .refused _

theorem ownPinZone_outcome (payload : List Byte) (s : State) : OwnerOutcome req .vn s (ownPinZone payload s) := by
  unfold ownPinZone
  split
  · split
    · split
      · next h => exact .taken (.venue rfl (.pin _ _ h)) rfl
      · split
        · exact .refused _
        · exact .replies rfl
    · exact .refused _
  · exact .refused _

theorem ownMoveZone_outcome (payload : List Byte) (s : State) : OwnerOutcome req .vn s (ownMoveZone payload s) := by
  unfold ownMoveZone
  split
  · split
    · split
      · exact .refused _
      · next h =>
        rw [not_or, Bool.not_eq_false] at h
        exact .taken (.venue rfl (.move _ _ _ h.1 h.2)) rfl
    · exact .refused _
  · exact .refused _

theorem ownAdmit_outcome (payload : List Byte) (s : State) : OwnerOutcome req .vn s (ownAdmit payload s) := by
  unfold ownAdmit
  split
  · exact .refused _
  · split
    · exact .refused _
    · next h => exact .taken (.venue rfl (.admits _ h)) rfl

theorem ownSuspend_outcome (payload : List Byte) (s : State) : OwnerOutcome req .vn s (ownSuspend payload s) := by
  unfold ownSuspend
  split
  · exact .refused _
  · split
    · next h => exact .taken (.venue rfl (.suspend _ h)) rfl
    · exact .refused _

theorem ownRelease_outcome (payload : List Byte) (s : State) : OwnerOutcome req .vn s (ownRelease payload s) := by
  unfold ownRelease
  split
  · exact .refused _
  · exact .taken (.venue rfl (.release _)) rfl

theorem ownSetLostLimit_outcome (payload : List Byte) (s : State) : OwnerOutcome req .vn s (ownSetLostLimit payload s) := by
  unfold ownSetLostLimit
  split
  · next n =>
    obtain ⟨low, high⟩ := clampTo_range Config.minLostLimit Config.maxLostLimit n.toNat (by decide)
    exact .taken (.venue rfl (.lostLimit _ low high)) (okOrClamped_accepts ..)
  · exact .refused _

theorem ownResetLossCount_outcome (payload : List Byte) (s : State) : OwnerOutcome req .vn s (ownResetLossCount payload s) := by
  unfold ownResetLossCount
  split
  · split
    · exact .refused _
    · exact .taken (.venue rfl (.clearLosses _)) rfl
  · exact .refused _

theorem ownSetClassMode_outcome (payload : List Byte) (s : State) : OwnerOutcome req .vn s (ownSetClassMode payload s) := by
  unfold ownSetClassMode
  split
  · split
    · exact .refused _
    · split
      · exact .refused _
      · split
        · next permitted =>
          split
          · exact .replies rfl
          · next new => exact .taken (.venue rfl (.mode _ _ permitted new)) rfl
        · exact .refused _
  · exact .refused _

theorem ownSetDerateLevel_outcome (payload : List Byte) (s : State) : OwnerOutcome req .vn s (ownSetDerateLevel payload s) := by
  unfold ownSetDerateLevel
  split
  · next b =>
    split
    · exact .refused _
    · split
      · split
        · exact .refused _
        · next h =>
          have low : 1 ≤ b.toNat := Nat.pos_of_ne_zero fun zero => h (BitVec.eq_of_toNat_eq (by simpa using zero))
          have high : b.toNat ≤ Config.max8 := Nat.le_of_lt_succ b.isLt
          exact .taken (.venue rfl (.level _ _ low high)) rfl
      · exact .refused _
  · exact .refused _

theorem ownFaultClear_outcome (payload : List Byte) (s : State) : OwnerOutcome req .vn s (ownFaultClear payload s) := by
  unfold ownFaultClear
  split
  · split
    · exact .refused _
    · refine .taken (.venue rfl (.clearFaults _)) ?_
      unfold clearReply
      split <;> rfl
  · exact .refused _

theorem ownSetSpreadTimes_outcome (payload : List Byte) (s : State) : OwnerOutcome req .vn s (ownSetSpreadTimes payload s) := by
  unfold ownSetSpreadTimes
  split
  · exact .taken (.venue rfl (.spreadTimes _ _ (num16_le ..) (num16_le ..))) rfl
  · exact .refused _

theorem ownSetShare_outcome (payload : List Byte) (s : State) : OwnerOutcome req .vn s (ownSetShare payload s) := by
  unfold ownSetShare
  split
  · split
    · exact .refused _
    · split
      · exact .refused _
      · next range =>
        split
        · exact .refused _
        · next law => exact .taken (.venue rfl (.share _ _ (Nat.not_lt.mp range) (Nat.not_lt.mp law))) rfl
  · exact .refused _

theorem ownReadNotices_outcome (p : Port) (payload : List Byte) (s : State) : OwnerOutcome req p s (ownReadNotices p payload s) := by
  unfold ownReadNotices
  split
  · split
    · exact .taken (.readNotices _) rfl
    · exact .refused _
  · exact .refused _

theorem previewLane_operator {p : Port} {payload : List Byte} {z : ZoneNo} {o : OpNo} {n : Nat}
    (h : previewLane p payload = some (z, o, n)) (q : OpNo) (port : p = .op q) : o = q := by
  subst port
  unfold previewLane at h
  split at h
  case h_1 port =>
    simp only [Option.map_eq_some_iff, Prod.mk.injEq] at h
    obtain ⟨-, -, -, rfl, -⟩ := h
    exact (Port.op.inj port).symm
  case h_2 port => cases port
  case h_3 => cases h

theorem ownPreview_outcome (p : Port) (payload : List Byte) (s : State) : OwnerOutcome req p s (ownPreview p payload s) := by
  unfold ownPreview
  split
  · exact .refused _
  · next named =>
    split
    · exact .refused _
    · next empty => exact .taken (.preview _ _ _ (previewLane_operator named) empty) (okOrClamped_accepts ..)

theorem ownReadEngine_outcome (p : Port) (payload : List Byte) (s : State) : OwnerOutcome req p s (ownReadEngine p payload s) := by
  unfold ownReadEngine
  split
  · split
    · exact .refused _
    · split
      · exact .taken (.venue rfl .clearStale) rfl
      · exact .replies rfl
  · exact .replies rfl
  · exact .refused _

theorem ownSetSectorEnable_outcome (o : OpNo) (payload : List Byte) (s : State) :
    OwnerOutcome req (.op o) s (ownSetSectorEnable o payload s) := by
  unfold ownSetSectorEnable
  split
  · split
    · exact .taken (.tenant o rfl (.enable _ _)) rfl
    · exact .refused _
  · exact .refused _

theorem ownSetSectorPower_outcome (o : OpNo) (payload : List Byte) (s : State) :
    OwnerOutcome req (.op o) s (ownSetSectorPower o payload s) := by
  unfold ownSetSectorPower
  split
  · split
    · exact .refused _
    · exact .taken (.tenant o rfl (.power _ _ (Nat.min_le_right ..))) (okOrClamped_accepts ..)
  · exact .refused _

/-- An owner that stores one parameter of its operator. -/
theorem OwnerOutcome.stores {o : OpNo} {s : State} {r : OpRec} {rep : Reply} (same : (s.oper o).reparametered r)
    (good : goodOperator (s.oper o) → goodOperator r) (accepted : rep.result.refuses = false) :
    OwnerOutcome req (.op o) s (s.setOper o r, rep) := .taken (.tenant o rfl (.parameter r same good)) accepted

theorem filterOne_range (n : Nat) : 1 ≤ clampTo 1 Config.filterOne n ∧ clampTo 1 Config.filterOne n ≤ Config.filterOne :=
  clampTo_range 1 Config.filterOne n (by decide)

theorem ownSetFilterWeight_outcome (o : OpNo) (payload : List Byte) (s : State) :
    OwnerOutcome req (.op o) s (ownSetFilterWeight o payload s) := by
  unfold ownSetFilterWeight
  split
  · refine .stores rfl ?_ (okOrClamped_accepts ..)
    exact fun ⟨high, order, period, window, _, rest⟩ => ⟨high, order, period, window, filterOne_range _, rest⟩
  · exact .refused _

theorem ownSetEvaluationPeriod_outcome (o : OpNo) (payload : List Byte) (s : State) :
    OwnerOutcome req (.op o) s (ownSetEvaluationPeriod o payload s) := by
  unfold ownSetEvaluationPeriod
  split
  · refine .stores rfl ?_ (okOrClamped_accepts ..)
    exact fun ⟨high, order, _, rest⟩ => ⟨high, order, filterOne_range _, rest⟩
  · exact .refused _

theorem ownSetProposalWindow_outcome (o : OpNo) (payload : List Byte) (s : State) :
    OwnerOutcome req (.op o) s (ownSetProposalWindow o payload s) := by
  unfold ownSetProposalWindow
  split
  · refine .stores rfl ?_ (okOrClamped_accepts ..)
    exact fun ⟨high, order, period, _, rest⟩ => ⟨high, order, period, filterOne_range _, rest⟩
  · exact .refused _

theorem ownSetSilenceRule_outcome (o : OpNo) (payload : List Byte) (s : State) :
    OwnerOutcome req (.op o) s (ownSetSilenceRule o payload s) := by
  unfold ownSetSilenceRule
  split
  · split
    · exact .refused _
    · exact .stores rfl id rfl
  · exact .refused _

theorem ownSetThresholds_outcome (o : OpNo) (payload : List Byte) (s : State) :
    OwnerOutcome req (.op o) s (ownSetThresholds o payload s) := by
  unfold ownSetThresholds
  split
  · split
    · exact .refused _
    · next range =>
      split
      · exact .refused _
      · next order =>
        rw [not_or] at range
        refine .stores rfl ?_ rfl
        exact fun ⟨_, _, rest⟩ => ⟨Nat.not_lt.mp range.1, .inl (Nat.not_le.mp order), rest⟩
  · exact .refused _

theorem ownSetPolicy_outcome (o : OpNo) (payload : List Byte) (s : State) :
    OwnerOutcome req (.op o) s (ownSetPolicy o payload s) := by
  unfold ownSetPolicy
  split
  · split
    · exact .refused _
    · split
      · exact .replies rfl
      · exact .taken (.tenant o rfl (.policy _)) rfl
  · exact .refused _

theorem openWithId_stands {s : State} {o : OpNo} {id : Nat} {p : Proposal} (h : openWithId s o id = some p) :
    (s.spreadRec o).proposal = some p := by
  unfold openWithId at h
  split at h
  · split at h
    · rwa [← h]
    · cases h
  · cases h

theorem ownAccept_outcome (o : OpNo) (payload : List Byte) (s : State) : OwnerOutcome .accept (.op o) s (ownAccept o payload s) := by
  unfold ownAccept
  split
  · split
    · next named => exact .taken (.tenant o rfl (.accept _ (openWithId_stands named) rfl)) rfl
    · exact .refused _
  · exact .refused _

theorem ownDecline_outcome (o : OpNo) (payload : List Byte) (s : State) :
    OwnerOutcome req (.op o) s (ownDecline o payload s) := by
  unfold ownDecline
  split
  · split
    · next named => exact .taken (.tenant o rfl (.decline _ (openWithId_stands named))) rfl
    · exact .refused _
  · exact .refused _

/-- Every owner of a request that passes tests 3 to 5 refuses, or makes one of the moves of its request's port. -/
theorem owner_outcome {r : Req} {p : Port} {payload : List Byte} {s : State}
    (passes : testsBeforeOwner s p r payload.length = none) : OwnerOutcome r p s (ownerOf r p payload s) := by
  have venue := venue_of_tests passes
  have operator := operator_of_tests passes
  cases r with
  | readStatus => exact .replies rfl
  | readNotices => exact ownReadNotices_outcome ..
  | readQueueLengths => exact .replies rfl
  | start => cases venue rfl; exact ownStart_outcome ..
  | stop => cases venue rfl; exact ownStop_outcome ..
  | freeze => cases venue rfl; exact ownFreeze_outcome ..
  | commitPlan => cases venue rfl; exact ownCommitPlan_outcome ..
  | abortCommit => cases venue rfl; exact .taken (.venue rfl .abortCommit) rfl
  | readTransport => exact .replies rfl
  | readShadowCounts => exact ownReadShadowCounts_outcome ..
  | setPlanWindow => cases venue rfl; exact ownSetPlanWindow_outcome ..
  | writePlanEntries => cases venue rfl; exact ownWritePlanEntries_outcome ..
  | readPlanEntries => cases venue rfl; exact ownReadPlanEntries_outcome ..
  | provisionZone => cases venue rfl; exact ownProvisionZone_outcome ..
  | retireZone => cases venue rfl; exact ownRetireZone_outcome ..
  | setBudget => cases venue rfl; exact ownSetBudget_outcome ..
  | setNeighbours => cases venue rfl; exact ownSetNeighbours_outcome ..
  | pinZone => cases venue rfl; exact ownPinZone_outcome ..
  | moveZone => cases venue rfl; exact ownMoveZone_outcome ..
  | readZone => unfold ownerOf ownReadZone; dsimp only; split; exacts [.refused _, .replies rfl]
  | admitOperator => cases venue rfl; exact ownAdmit_outcome ..
  | suspendOperator => cases venue rfl; exact ownSuspend_outcome ..
  | releaseOperator => cases venue rfl; exact ownRelease_outcome ..
  | readOperator => unfold ownerOf ownReadOperator; dsimp only; split; exacts [.refused _, .replies rfl]
  | setSectorEnable => obtain ⟨o, rfl⟩ := operator rfl; exact ownSetSectorEnable_outcome ..
  | setSectorPower => obtain ⟨o, rfl⟩ := operator rfl; exact ownSetSectorPower_outcome ..
  | setLostLimit => cases venue rfl; exact ownSetLostLimit_outcome ..
  | resetLossCount => cases venue rfl; exact ownResetLossCount_outcome ..
  | readLink => unfold ownerOf ownReadLink; dsimp only; split; exacts [.refused _, .replies rfl]
  | setClassMode => cases venue rfl; exact ownSetClassMode_outcome ..
  | setDerateLevel => cases venue rfl; exact ownSetDerateLevel_outcome ..
  | faultClear => cases venue rfl; exact ownFaultClear_outcome ..
  | readClassSettings => exact .replies rfl
  | readAlarmSummary => exact .replies rfl
  | readProtection => unfold ownerOf ownReadProtection; dsimp only; split; exacts [.refused _, .replies rfl]
  | setFilterWeight => obtain ⟨o, rfl⟩ := operator rfl; exact ownSetFilterWeight_outcome ..
  | readLoadCells => unfold ownerOf ownReadLoadCells; dsimp only; split; exacts [.refused _, .replies rfl]
  | readSectorLoads => unfold ownerOf ownReadSectorLoads; dsimp only; split; exacts [.refused _, .replies rfl]
  | setPolicy => obtain ⟨o, rfl⟩ := operator rfl; exact ownSetPolicy_outcome ..
  | setSilenceRule => obtain ⟨o, rfl⟩ := operator rfl; exact ownSetSilenceRule_outcome ..
  | setThresholds => obtain ⟨o, rfl⟩ := operator rfl; exact ownSetThresholds_outcome ..
  | setEvaluationPeriod => obtain ⟨o, rfl⟩ := operator rfl; exact ownSetEvaluationPeriod_outcome ..
  | setProposalWindow => obtain ⟨o, rfl⟩ := operator rfl; exact ownSetProposalWindow_outcome ..
  | accept => obtain ⟨o, rfl⟩ := operator rfl; exact ownAccept_outcome ..
  | decline => obtain ⟨o, rfl⟩ := operator rfl; exact ownDecline_outcome ..
  | setSpreadTimes => cases venue rfl; exact ownSetSpreadTimes_outcome ..
  | readSpreadState => unfold ownerOf ownReadSpreadState; dsimp only; split; exacts [.refused _, .replies rfl]
  | readSettleCounts => unfold ownerOf ownReadSettleCounts; dsimp only; split; exacts [.refused _, .replies rfl]
  | setShare => cases venue rfl; exact ownSetShare_outcome ..
  | readPower => unfold ownerOf ownReadPower; dsimp only; split; exacts [.refused _, .replies rfl]
  | readShares => exact .replies rfl
  | readGrants => unfold ownerOf ownReadGrants; dsimp only; split; exacts [.refused _, .replies rfl]
  | preview => exact ownPreview_outcome ..
  | readEngine => exact ownReadEngine_outcome ..

/-! ## Every command -/

/-- A reallocation in flight completes (R145). -/
def Reallocated (s t : State) : Prop :=
  ∃ (z : ZoneNo) (n : Snapshot), s.flight = some { kind := .reallocation, zone := z, snapshot := n } ∧
    t = finishComputation (completeReallocation s z n)

/-- What a command other than the completion of a reallocation can do in a state: leave it, reset it, write a port, serve a
request, or take an event at its place. -/
inductive CommandMove (s : State) : State → Prop
  | stays : CommandMove s s
  | reset : CommandMove s { State.reset with pending := s.pending, edges := s.edges }
  | selectAsserted (p : Port) : CommandMove s (assertSelect s p)
  | selectReleased (p : Port) : CommandMove s (releaseSelect s p)
  | headerCompleted (p : Port) : CommandMove s (headerDone s p)
  | lengthRefused (p : Port) : CommandMove s (lengthError s p)
  | answered (p : Port) (rep : Reply) (frame : FrameIn s p) : CommandMove s (answer s p rep)
  | replyStarted (p : Port) : CommandMove s (startReply s p)
  | replyEnded (p : Port) : CommandMove s (endReply s p)
  | served {req : Req} {p : Port} {u : State} (rep : Reply) (frame : FrameIn s p) (moved : OwnerMove req p s u) :
      CommandMove s (answer (endEvent s u) p rep)
  | stream (o : OpNo) (sec : SectorNo) (up : Bool) : CommandMove s (streamReport s o sec up)
  | word (z : ZoneNo) (w : Option UplinkWord) (runs : s.transport ≠ .stopped) (present : (s.zone z).provisioned = true)
      (samples : ∀ u x, w = some u → u.activity = some x → ∀ o : OpNo, x[o] ≤ 1023) :
      CommandMove s (endEvent s (takeWord s z w))
  | cycle (order : List Reaction) (runs : s.transport ≠ .stopped) : CommandMove s (endEvent s (cycleStart order s))
  | drained (runs : s.transport ≠ .stopped) : CommandMove s (endEvent s (enterStopped s))
  | dwelt (z : ZoneNo) : CommandMove s (dwellExpiry s z)
  | retried (z : ZoneNo) (c : ClassNo) : CommandMove s (retryExpiry s z c)
  | expired (o : OpNo) (p : Proposal) (stands : (s.spreadRec o).proposal = some p) (runs : s.transport ≠ .stopped) :
      CommandMove s (expireProposal s o p)
  | evaluated (o : OpNo) (runs : s.transport ≠ .stopped) (counts : counted s o = true) : CommandMove s (runEvaluation s o)
  | previewed (p : Port) (o : OpNo) (q : Nat) (sec : Option SectorNo) (z : ZoneNo) (n : Snapshot)
      (inFlight : s.flight = some { kind := .preview p o q sec, zone := z, snapshot := n }) :
      CommandMove s (finishComputation (completePreview s p o sec z n))
  | markEnded : CommandMove s { s with mark := false }

theorem serve_move (r : Req) (p : Port) (payload : List Byte) (s : State) :
    CommandMove s (serve r p payload (ownerOf r p payload) s) := by
  by_cases frame : (s.port p).frame = .receiving true
  case neg =>
    rw [serve_closed frame]
    exact .stays
  case pos =>
    cases tests : testsBeforeOwner s p r payload.length with
    | some x =>
      rw [serve_refused frame tests]
      exact .answered p _ frame
    | none =>
      rw [serve_taken frame tests]
      generalize ownerOf r p payload s = outcome, owner_outcome tests = h
      cases h with
      | refused x =>
        simp only [refuse, endEvent_self]
        exact .answered p _ frame
      | taken moved accepted => exact .served _ frame moved

theorem cycleBoundary_move (order : List Reaction) (s : State) : CommandMove s (cycleBoundary order s) := by
  unfold cycleBoundary
  split
  · exact .stays
  · next runs =>
    split
    · exact .drained runs
    · exact .cycle order runs

theorem endDraining_move (s : State) : CommandMove s (endDraining s) := by
  unfold endDraining
  split
  · next h => exact .drained (by rw [h.1]; decide)
  · exact .stays

theorem activitySamples_le (a b c d e : Byte) (o : OpNo) : (activitySamples a b c d e)[o] ≤ 1023 := by
  match o with
  | 0 => exact Nat.le_of_lt_succ (Nat.mod_lt _ (by decide))
  | 1 => exact Nat.le_of_lt_succ (Nat.mod_lt _ (by decide))
  | 2 => exact Nat.le_of_lt_succ (Nat.mod_lt _ (by decide))
  | 3 => exact Nat.le_of_lt_succ (Nat.mod_lt _ (by decide))

/-- An activity count has ten bits (section 11.5). -/
theorem judgeWord_samples {pos : PosNo} {word : List Byte} {u : UplinkWord} {x : Vector Nat 4} (good : judgeWord pos word = some u)
    (block : u.activity = some x) (o : OpNo) : x[o] ≤ 1023 := by
  unfold judgeWord at good
  split at good
  · split at good
    · split at good
      · split at good
        · split at good
          · cases good
            cases block
            exact activitySamples_le ..
          · cases good
        · cases good
      · split at good
        · split at good
          · cases good
            cases block
          · cases good
        · cases good
    · cases good
  · cases good

theorem uplinkSlot_move (s : State) (spoke : SpokeNo) (pos : PosNo) (word : List Byte) :
    CommandMove s (uplinkSlot s spoke pos word) := by
  unfold uplinkSlot
  dsimp only
  split
  · next h => exact .word _ _ h.1 h.2 fun _ _ good block => judgeWord_samples good block
  · exact .stays

theorem expiring_stands {s : State} {o : OpNo} {p : Proposal} (h : expiring s o = some p) :
    (s.spreadRec o).proposal = some p ∧ p.remaining ≤ 1 := by
  unfold expiring at h
  split at h
  · next q hq =>
    split at h
    · next last =>
      cases h
      exact ⟨hq, last⟩
    · cases h
  · cases h

theorem proposalExpiry_move (s : State) (o : OpNo) : CommandMove s (proposalExpiry s o) := by
  unfold proposalExpiry
  split
  · next due =>
    split
    · exact .stays
    · next runs => exact .expired o _ (expiring_stands due).1 runs
  · exact .stays

theorem evaluationDue_move (s : State) (o : OpNo) : CommandMove s (evaluationDue s o) := by
  unfold evaluationDue
  split
  · next h => exact .evaluated o h.1 h.2.1
  · exact .stays

theorem reallocationCompletes_move (s : State) :
    CommandMove s (reallocationCompletes s) ∨ Reallocated s (reallocationCompletes s) := by
  unfold reallocationCompletes
  split
  · next inFlight => exact .inr ⟨_, _, inFlight, rfl⟩
  · exact .inl .stays

theorem previewCompletes_move (s : State) : CommandMove s (previewCompletes s) := by
  unfold previewCompletes
  split
  · next inFlight => exact .previewed _ _ _ _ _ _ inFlight
  · exact .stays

theorem refuseFrame_move (s : State) (p : Port) (x : Result) : CommandMove s (refuseFrame s p x) := by
  unfold refuseFrame
  split
  · next frame => exact .answered p _ frame
  · exact .stays

/-- Every command but a request is an event; a request names its code, its port and its payload. -/
theorem exec_move {i : Instr} (other : i ≠ .reallocationCompletion) (s : State) : ∃ t, exec i s = .next t ∧ CommandMove s t := by
  have request (r : Req) (p : Port) (payload : List Byte) : ∃ t, exec (r.toInstr p payload) s = .next t ∧ CommandMove s t :=
    ⟨_, exec_toInstr r p payload s, serve_move r p payload s⟩
  cases i with
  | rstn => exact ⟨_, rfl, .reset⟩
  | chipSelectAssert p => exact ⟨_, rfl, .selectAsserted p⟩
  | chipSelectRelease p => exact ⟨_, rfl, .selectReleased p⟩
  | frameLengthError p => exact ⟨_, rfl, .lengthRefused p⟩
  | checkFailed p => exact ⟨_, rfl, refuseFrame_move ..⟩
  | unknownRequest p => exact ⟨_, rfl, refuseFrame_move ..⟩
  | replyStart p => exact ⟨_, rfl, .replyStarted p⟩
  | readStatus p payload => exact request .readStatus p payload
  | readNotices p payload => exact request .readNotices p payload
  | readQueueLengths p payload => exact request .readQueueLengths p payload
  | start p payload => exact request .start p payload
  | stop p payload => exact request .stop p payload
  | freeze p payload => exact request .freeze p payload
  | commitPlan p payload => exact request .commitPlan p payload
  | abortCommit p payload => exact request .abortCommit p payload
  | readTransport p payload => exact request .readTransport p payload
  | readShadowCounts p payload => exact request .readShadowCounts p payload
  | setPlanWindow p payload => exact request .setPlanWindow p payload
  | writePlanEntries p payload => exact request .writePlanEntries p payload
  | readPlanEntries p payload => exact request .readPlanEntries p payload
  | provisionZone p payload => exact request .provisionZone p payload
  | retireZone p payload => exact request .retireZone p payload
  | setBudget p payload => exact request .setBudget p payload
  | setNeighbours p payload => exact request .setNeighbours p payload
  | pinZone p payload => exact request .pinZone p payload
  | moveZone p payload => exact request .moveZone p payload
  | readZone p payload => exact request .readZone p payload
  | admitOperator p payload => exact request .admitOperator p payload
  | suspendOperator p payload => exact request .suspendOperator p payload
  | releaseOperator p payload => exact request .releaseOperator p payload
  | readOperator p payload => exact request .readOperator p payload
  | setSectorEnable p payload => exact request .setSectorEnable p payload
  | setSectorPower p payload => exact request .setSectorPower p payload
  | setLostLimit p payload => exact request .setLostLimit p payload
  | resetLossCount p payload => exact request .resetLossCount p payload
  | readLink p payload => exact request .readLink p payload
  | setClassMode p payload => exact request .setClassMode p payload
  | setDerateLevel p payload => exact request .setDerateLevel p payload
  | faultClear p payload => exact request .faultClear p payload
  | readClassSettings p payload => exact request .readClassSettings p payload
  | readAlarmSummary p payload => exact request .readAlarmSummary p payload
  | readProtection p payload => exact request .readProtection p payload
  | setFilterWeight p payload => exact request .setFilterWeight p payload
  | readLoadCells p payload => exact request .readLoadCells p payload
  | readSectorLoads p payload => exact request .readSectorLoads p payload
  | setPolicy p payload => exact request .setPolicy p payload
  | setSilenceRule p payload => exact request .setSilenceRule p payload
  | setThresholds p payload => exact request .setThresholds p payload
  | setEvaluationPeriod p payload => exact request .setEvaluationPeriod p payload
  | setProposalWindow p payload => exact request .setProposalWindow p payload
  | accept p payload => exact request .accept p payload
  | decline p payload => exact request .decline p payload
  | setSpreadTimes p payload => exact request .setSpreadTimes p payload
  | readSpreadState p payload => exact request .readSpreadState p payload
  | readSettleCounts p payload => exact request .readSettleCounts p payload
  | setShare p payload => exact request .setShare p payload
  | readPower p payload => exact request .readPower p payload
  | readShares p payload => exact request .readShares p payload
  | readGrants p payload => exact request .readGrants p payload
  | preview p payload => exact request .preview p payload
  | readEngine p payload => exact request .readEngine p payload
  | streamUp o sec => exact ⟨_, rfl, .stream o sec true⟩
  | streamDown o sec => exact ⟨_, rfl, .stream o sec false⟩
  | uplinkStatusWord spoke pos word => exact ⟨_, rfl, uplinkSlot_move ..⟩
  | cycleStart order => exact ⟨_, rfl, cycleBoundary_move ..⟩
  | drainEnd => exact ⟨_, rfl, endDraining_move s⟩
  | lostDwellExpiry z => exact ⟨_, rfl, .dwelt z⟩
  | retryExpiry z c => exact ⟨_, rfl, .retried z c⟩
  | proposalExpiry o => exact ⟨_, rfl, proposalExpiry_move ..⟩
  | evaluation o => exact ⟨_, rfl, evaluationDue_move ..⟩
  | reallocationCompletion => exact absurd rfl other
  | previewCompletion => exact ⟨_, rfl, previewCompletes_move s⟩
  | markPulseEnd => exact ⟨_, rfl, .markEnded⟩
  | headerByteComplete p => exact ⟨_, rfl, .headerCompleted p⟩
  | replyEnd p => exact ⟨_, rfl, .replyEnded p⟩

/-- A predicate that the passing of time and every command keep, whatever the queue of commands, is kept by a step. -/
theorem step_keeps {P : State → Prop} (queue : ∀ (s : State) (l : List Instr), P s → P { s with pending := l })
    (edge : ∀ s, P s → P (clockFalls s)) (command : ∀ s t, CommandMove s t → P s → P t)
    (completion : ∀ s t, Reallocated s t → P s → P t) : ∀ s t : State, P s → step s = .next t → P t := by
  intro s t h ht
  unfold step at ht
  split at ht
  · cases ht
    exact edge s h
  · next i rest _ =>
    have start := queue s rest h
    by_cases completes : i = .reallocationCompletion
    · subst completes
      cases ht
      rcases reallocationCompletes_move { s with pending := rest } with moved | moved
      · exact command _ _ moved start
      · exact completion _ _ moved start
    · obtain ⟨u, hu, moved⟩ := exec_move completes { s with pending := rest }
      rw [hu] at ht
      cases ht
      exact command _ _ moved start

end Sys2Proof.Machine
end

section
/-! The ports: the frame events, the tests before the owner, refusals, and the status byte of a window. -/

namespace Sys2Proof.Machine

open Sys2Proof

/-- Settles O1. -/
theorem stepRunsFrontCommand : Obligations.StepRunsFrontCommand := by
  intro i rest s h
  simp only [step, h]

/-- Settles O5: each event is the write of one port record in the frame state where it occurs. -/
theorem frameEventsReachNoOwner : Obligations.FrameEventsReachNoOwner := by
  intro s p
  refine ⟨fun waiting => ?_, fun replying => ?_, fun frame => ⟨?_, ?_, ?_⟩⟩
  · exact congrArg Host.Outcome.next (if_pos waiting)
  · exact congrArg Host.Outcome.next (if_pos replying)
  · exact congrArg Host.Outcome.next (if_pos frame)
  · exact congrArg Host.Outcome.next (if_pos frame)
  · exact congrArg Host.Outcome.next (if_pos frame)

/-! ## The tests before the owner (R173 to R175) -/

theorem tenancyPasses_iff {s : State} {p : Port} {r : Req} :
    tenancyPasses s p r = true ↔ ∀ o, p = .op o → Tenant s o ∨ r = .readStatus ∨ r = .readNotices := by
  cases p <;> simp [tenancyPasses, tenantActive, takenUntenanted, Tenant]

/-- Settles O6: a request that fails one of tests 3 to 5 is answered with the first result that `testsBeforeOwner` gives. -/
theorem testsBeforeOwnerInOrder : Obligations.TestsBeforeOwnerInOrder := by
  intro r p payload s frame
  refine ⟨fun noForm => exec_of_formLengths_none frame noForm payload, fun lens hasForm => ⟨?_, fun tenant other => ?_⟩⟩
  · rintro ⟨⟨o, rfl, notTenant⟩, notStatus, notNotices⟩
    have fails : tenancyPasses s (.op o) r = false := by
      rw [← Bool.not_eq_true, tenancyPasses_iff]
      intro passes
      rcases passes o rfl with h | h | h
      · exact notTenant h
      · exact notStatus h
      · exact notNotices h
    rw [exec_toInstr, serve_refused frame]
    simp [testsBeforeOwner, hasForm, fails]
  · have passes : tenancyPasses s p r = true := tenancyPasses_iff.mpr tenant
    rw [exec_toInstr, serve_refused frame]
    simp [testsBeforeOwner, hasForm, passes, other]

/-! ## Every request is answered (R173) -/

theorem port_answer (s : State) (p : Port) (rep : Reply) :
    (answer s p rep).port p = { s.port p with frame := .waiting, reply := some rep } := by simp [answer]

theorem port_answer_ne (s : State) {p q : Port} (rep : Reply) (h : q ≠ p) : (answer s p rep).port q = s.port q := by
  simp [answer, h]

/-- Settles O7: a request that fails its tests is answered alone; one that passes them is refused by its owner, who then
changes nothing, or is answered with no refusal. -/
theorem refusalChangesNothing : Obligations.RefusalChangesNothing := by
  intro r p payload s frame
  cases tests : testsBeforeOwner s p r payload.length with
  | some x =>
    refine ⟨answer s p (replyOf x), replyOf x, ?_, port_answer .., fun q other => port_answer_ne s _ other, rfl,
      fun _ => ⟨rfl, rfl⟩⟩
    rw [exec_toInstr, serve_refused frame tests]
  | none =>
    have ports : (ownerOf r p payload s).1.ports = s.ports := owner_ports ..
    have pending : (ownerOf r p payload s).1.pending = s.pending := owner_pending ..
    have served := exec_toInstr r p payload s
    rw [serve_taken frame tests] at served
    generalize ownerOf r p payload s = outcome, owner_outcome tests = h at served ports pending
    cases h with
    | refused x =>
      rw [refuse, endEvent_self] at served
      exact ⟨_, replyOf x, served, port_answer .., fun q other => port_answer_ne s _ other, rfl, fun _ => ⟨rfl, rfl⟩⟩
    | @taken t rep moved accepted =>
      have same (q : Port) : (endEvent s t).port q = s.port q :=
        congrArg (fun v : Vector PortRec 5 => v[portNumber q]) ((endEvent_ports s t).trans ports)
      refine ⟨_, rep, served, ?_, fun q other => ?_, ?_, fun refuses => ?_⟩
      · rw [port_answer, same]
      · rw [port_answer_ne _ _ other, same]
      · exact (endEvent_pending s t).trans pending
      · rw [accepted] at refuses
        cases refuses

/-! ## The status byte of a window (R164, R167) -/

theorem portOf_portNumber (p : Port) : portOf (portNumber p) = p := by
  cases p with
  | vn => rfl
  | op o => revert o; decide

/-- Settles O3: each event reads the fields whose first bits it places, and `unreadBits` names those still to be read. -/
theorem statusByteShown : Obligations.StatusByteShown := by
  intro s p
  refine ⟨fun idle => ?assert, fun empty noHeader => ?quiet, fun empty header clocked more => ?edge, fun header => ?complete⟩
  case assert =>
    refine ⟨_, congrArg Host.Outcome.next (if_pos idle), rfl, fun k hk => ?_⟩
    rw [BitVec.getLsbD_and, BitVec.getLsbD_not, statusByte_getLsbD s p hk, unreadBits_getLsbD 1 hk, Bool.and_comm]
    congr 1
    simp only [hk, decide_true, Bool.true_and, ← decide_not]
    exact decide_eq_decide.mpr (by omega)
  case quiet =>
    simp only [step, empty]
    rw [clockFalls_of_none noHeader]
  case edge =>
    have places : placeNext s p = s.setPort p { s.port p with
        status := readFields s p (unreadBits (s.port p).placed &&& ~~~unreadBits ((s.port p).placed + 1))
        placed := (s.port p).placed + 1 } := if_pos ⟨by simp [inHeader, header], more⟩
    refine ⟨{ s.port p with
        status := readFields s p (unreadBits (s.port p).placed &&& ~~~unreadBits ((s.port p).placed + 1))
        placed := (s.port p).placed + 1 }, ?_, rfl, fun k hk => ?_⟩
    · simp only [step, empty]
      rw [clockFalls_of_header header, ← clocked, portOf_portNumber, places]
    · rw [readFields_getLsbD s p _ hk, BitVec.getLsbD_and, BitVec.getLsbD_not, unreadBits_getLsbD _ hk,
        unreadBits_getLsbD _ hk]
      congr 1
      simp only [hk, decide_true, Bool.true_and, Bool.and_eq_true, Bool.not_eq_true', decide_eq_true_eq,
        decide_eq_false_iff_not, eq_iff_iff]
      omega
  case complete =>
    refine ⟨_, congrArg Host.Outcome.next (if_pos header), rfl, fun k hk => ?_⟩
    rw [readFields_getLsbD s p _ hk, unreadBits_getLsbD _ hk]
    simp only [decide_eq_true_eq]

/-! ## The release of the chip-select (section 10.2) -/

/-- A port record when its window closes (R168 to R172). -/
def PortRec.released (r : PortRec) : PortRec :=
  { r with
    frame := .idle
    reply := if r.frame = .idle then r.reply else none
    frameErr := r.frameErr || decide (r.frame = .receiving true)
    replyCut := r.replyCut || decide (r.frame = .waiting ∨ r.frame = .replying) }

/-- Whether the release cuts a reply of a READ NOTICES that removed records (R159, R172). -/
def PortRec.losesNotices (r : PortRec) : Bool := decide (r.frame = .waiting ∨ r.frame = .replying) && replyRemoved r

theorem setPort_self (s : State) (p : Port) : s.setPort p (s.port p) = s := by
  have same : s.ports.set (portNumber p) (s.port p) = s.ports := by
    refine Vector.ext fun i hi => ?_
    rw [Vector.getElem_set]
    split
    · next h => subst h; rfl
    · rfl
  rw [State.setPort, same]

/-- A release writes the port's record, and the overrun flag where notices are lost with the reply. -/
theorem releaseSelect_eq (s : State) (p : Port) :
    releaseSelect s p =
      let t := s.setPort p (s.port p).released
      if (s.port p).losesNotices then t.setNotices p { t.noticeQueue p with overrun := true } else t := by
  have self := setPort_self s p
  unfold releaseSelect cutReply PortRec.losesNotices PortRec.released
  generalize s.port p = r at self ⊢
  obtain ⟨frame, frameErr, replyCut, status, placed, reply⟩ := r
  cases frame with
  | idle => simpa using self.symm
  | receiving headerDone => cases headerDone <;> simp
  | ignoring => simp
  | waiting => simp
  | replying => simp
  | ended => simp

theorem replyRemoved_iff (r : PortRec) : replyRemoved r = true ↔ ∃ x, r.reply = some x ∧ x.removed = true := by
  unfold replyRemoved
  cases r.reply <;> simp

/-- Settles O4: the port's record and the overrun flag after the release, by whether notices are lost. -/
theorem releaseClosesWindow : Obligations.ReleaseClosesWindow := by
  intro s p
  refine ⟨releaseSelect s p, rfl, ?_⟩
  rw [releaseSelect_eq, ← replyRemoved_iff]
  cases lost : (s.port p).losesNotices with
  | false =>
    simp only [Bool.false_eq_true, if_false, State.setPort_port]
    refine ⟨rfl, fun q other => ⟨State.setPort_port_ne _ _ other, rfl⟩, rfl, rfl, rfl, rfl, ?_⟩
    simp_all [PortRec.losesNotices]
  | true =>
    simp only [if_true, State.setNotices_port, State.setPort_port, State.setNotices_noticeQueue, State.setPort_noticeQueue]
    refine ⟨rfl, fun q other => ⟨State.setPort_port_ne _ _ other, State.setNotices_noticeQueue_ne _ _ other⟩, rfl, trivial, rfl,
      rfl, ?_⟩
    simp_all [PortRec.losesNotices]

end Sys2Proof.Machine
end

section
/-! The inputs of an allocation and the clips of an event: what an event does to the grants, the reallocation queue and the
computation in flight, zone by zone. -/

namespace Sys2Proof.Machine

open Sys2Proof

/-! ## Snapshots -/

theorem snapshot_requests (s : State) (z : ZoneNo) (o : OpNo) : (snapshotOf s z).requests[o] = effRequest s z o :=
  vec4_getElem _ o

theorem effBudget_of_snapshot {t u : State} {z : ZoneNo} (h : snapshotOf t z = snapshotOf u z) :
    effBudget t z = effBudget u z := congrArg Snapshot.budget h

theorem effRequest_of_snapshot {t u : State} {z : ZoneNo} (h : snapshotOf t z = snapshotOf u z) (o : OpNo) :
    effRequest t z o = effRequest u z o := by
  rw [← snapshot_requests, h, snapshot_requests]

theorem snapshot_ext {t u : State} {z : ZoneNo} (budget : effBudget t z = effBudget u z)
    (requests : ∀ o, effRequest t z o = effRequest u z o) (equalShares : shares t = shares u) : snapshotOf t z = snapshotOf u z := by
  have same : effRequest t z = effRequest u z := funext requests
  simp only [snapshotOf, budget, same, equalShares]

/-! ## What the inputs of a zone depend on -/

theorem muted_of_records {t u : State} {z : ZoneNo} (records : ∀ c, (t.protRec z c).state = (u.protRec z c).state)
    (modes : t.modes = u.modes) : muted t z = muted u z := by
  have each : classMutes t z = classMutes u z := funext fun c => by
    simp only [classMutes, records, State.mode, modes]
  simp only [muted, each]

theorem derate_of_records {t u : State} {z : ZoneNo} (records : ∀ c, (t.protRec z c).state = (u.protRec z c).state)
    (modes : t.modes = u.modes) (temp : t.tempLevel = u.tempLevel) (reflect : t.reflectLevel = u.reflectLevel) :
    derate t z = derate u z := by
  have each : classDerate t z = classDerate u z := funext fun c => by
    have mode : t.mode c = u.mode c := by simp only [State.mode, modes]
    have level : classLevel t c = classLevel u c := by simp only [classLevel, temp, reflect]
    simp only [classDerate, records, mode, level]
  simp only [derate, each]

theorem live_of_link {t u : State} {z : ZoneNo} (provisioned : (t.zone z).provisioned = (u.zone z).provisioned)
    (link : (t.link z).state = (u.link z).state) : live t z = live u z := by
  simp only [live, provisioned, link]

theorem carrying_live {s : State} {z : ZoneNo} {o : OpNo} (h : carrying s z o = true) :
    s.transport ≠ .stopped ∧ live s z = true ∧ muted s z = false ∧ (s.oper o).tenancy = .active ∧
      bindingServes s o (s.active z o) = true ∧ slotted s z o = true := by
  simp only [carrying, Bool.and_eq_true, decide_eq_true_eq, Bool.not_eq_true'] at h
  obtain ⟨⟨⟨⟨runs, isLive, unmuted⟩, tenant⟩, serves⟩, slot⟩ := h
  exact ⟨runs, isLive, unmuted, tenant, serves, slot⟩

/-- A lane of a dark zone does not carry (R19). -/
theorem carrying_of_dark {s : State} {z : ZoneNo} (dark : live s z = false) (o : OpNo) : carrying s z o = false := by
  simp [carrying, dark]

/-- No lane carries while STOPPED (R19). -/
theorem carrying_of_stopped {s : State} (stopped : s.transport = .stopped) (z : ZoneNo) (o : OpNo) : carrying s z o = false := by
  simp [carrying, stopped]

theorem effRequest_of_idle {s : State} {z : ZoneNo} {o : OpNo} (idle : carrying s z o = false) : effRequest s z o = 0 := by
  simp [effRequest, idle]

theorem effRequest_of_lanes {t u : State} {z : ZoneNo} {o : OpNo} (carry : carrying t z o = carrying u z o)
    (request : carrying u z o = true → bindingRequest t o (t.active z o) = bindingRequest u o (u.active z o)) :
    effRequest t z o = effRequest u z o := by
  unfold effRequest
  rw [carry]
  split
  · next h => exact request h
  · rfl

/-! ## The clip of a grant -/

theorem clippedGrant_of_le {g b b' q q' : Nat} (budget : b ≤ b') (request : q ≤ q') : clippedGrant g b b' q q' = g := by
  simp only [clippedGrant, Nat.not_lt.mpr budget, Nat.not_lt.mpr request, if_false]

theorem clippedGrant_le_request {g b b' q q' : Nat} (law : g ≤ q) : clippedGrant g b b' q q' ≤ q' := by
  obtain ⟨falls, fits⟩ := clippedGrant_le g b b' q q'
  by_cases h : q' < q
  · exact fits h
  · omega

/-- A budget clip in proportion (R128). -/
theorem clippedGrant_le_share {g b b' q q' : Nat} (h : b' < b) : clippedGrant g b b' q q' ≤ b' * g / b := by
  unfold clippedGrant
  rw [if_pos h, Nat.mul_comm]
  dsimp only
  split
  · exact Nat.min_le_left ..
  · exact Nat.le_refl _

/-! ## The clips of one zone -/

/-- The event that began in `old` has taken its part at zone z, from u to t: other zones keep their inputs and their grants, the
grants of z are clipped for what its inputs now are, and z is queued where they changed (R127 to R131). -/
structure ZoneClip (old u : State) (z : ZoneNo) (t : State) : Prop where
  others : ∀ y, y ≠ z → snapshotOf t y = snapshotOf u y ∧ ∀ o, t.grant y o = u.grant y o
  own : ∀ o, t.grant z o =
    clippedGrant (u.grant z o) (effBudget old z) (effBudget t z) (effRequest old z o) (effRequest t z o)
  queued : snapshotOf t z ≠ snapshotOf old z → z ∈ t.realloc
  kept : ∀ y, y ∈ u.realloc → y ∈ t.realloc
  law : QueueLaw u → QueueLaw t
  flight : t.flight = u.flight

/-- Two states agree in the fields that the clips write and the arbiter reads. -/
structure SamePower (t u : State) : Prop where
  grants : t.grants = u.grants
  realloc : t.realloc = u.realloc
  flight : t.flight = u.flight

theorem SamePower.grant {t u : State} (h : SamePower t u) (z : ZoneNo) (o : OpNo) : t.grant z o = u.grant z o := by
  simp only [State.grant, h.grants]

theorem SamePower.trans {t u v : State} (h : SamePower t u) (h' : SamePower u v) : SamePower t v :=
  ⟨h.grants.trans h'.grants, h.realloc.trans h'.realloc, h.flight.trans h'.flight⟩

theorem SamePower.refl (t : State) : SamePower t t := ⟨rfl, rfl, rfl⟩

@[simp] theorem inputChange_flight (old s : State) (z : ZoneNo) : (inputChange old s z).flight = s.flight :=
  inputChange_keeps State.flight (fun _ _ => rfl) (fun _ _ => rfl) (fun _ _ => rfl) (fun _ _ => rfl) ..

/-- An input change of a zone whose part of the event has been taken. -/
theorem ZoneClip.of_inputChange {old u v : State} {z : ZoneNo} (power : SamePower v u)
    (others : ∀ y, y ≠ z → snapshotOf v y = snapshotOf u y) : ZoneClip old u z (inputChange old v z) where
  others y other := by
    refine ⟨(snapshotOf_congr (inputChange_bare old v z) y).trans (others y other), fun o => ?_⟩
    rw [inputChange_grant, if_neg other, power.grant]
  own o := by
    rw [inputChange_grant, if_pos rfl, power.grant, effBudget_congr (inputChange_bare old v z),
      effRequest_congr (inputChange_bare old v z)]
  queued _ := mem_inputChange.mpr (.inl rfl)
  kept y h := mem_inputChange.mpr (.inr (power.realloc ▸ h))
  law h := inputChange_queueLaw z (by unfold QueueLaw; rw [power.realloc]; exact h)
  flight := (inputChange_flight ..).trans power.flight

/-- A zone whose inputs are as the event found them needs no clip. -/
theorem ZoneClip.of_same {old u t : State} {z : ZoneNo} (power : SamePower t u)
    (others : ∀ y, y ≠ z → snapshotOf t y = snapshotOf u y) (same : snapshotOf t z = snapshotOf old z) : ZoneClip old u z t where
  others y other := ⟨others y other, power.grant y⟩
  own o := by
    rw [effBudget_of_snapshot same, effRequest_of_snapshot same, clippedGrant_of_le (Nat.le_refl _) (Nat.le_refl _), power.grant]
  queued changed := absurd same changed
  kept y h := by rw [power.realloc]; exact h
  law h := by unfold QueueLaw; rw [power.realloc]; exact h
  flight := power.flight

/-! ## The clips of a whole event -/

/-- An event took `old` to t as far as the grants and the queue go: each grant is clipped for its zone's inputs, and a zone whose
inputs changed is queued (R127 to R131). -/
structure Clips (old t : State) : Prop where
  grant : ∀ z o, t.grant z o =
    clippedGrant (old.grant z o) (effBudget old z) (effBudget t z) (effRequest old z o) (effRequest t z o)
  queued : ∀ z, snapshotOf t z ≠ snapshotOf old z → z ∈ t.realloc
  kept : ∀ z, z ∈ old.realloc → z ∈ t.realloc
  law : QueueLaw old → QueueLaw t
  flight : t.flight = old.flight

/-- What the parts of an event at the zones of a list amount to. -/
structure ZonesClip (old u : State) (l : List ZoneNo) (t : State) : Prop where
  others : ∀ y, y ∉ l → snapshotOf t y = snapshotOf u y ∧ ∀ o, t.grant y o = u.grant y o
  own : ∀ y, y ∈ l → ∀ o, t.grant y o =
    clippedGrant (u.grant y o) (effBudget old y) (effBudget t y) (effRequest old y o) (effRequest t y o)
  queued : ∀ y, y ∈ l → snapshotOf t y ≠ snapshotOf old y → y ∈ t.realloc
  kept : ∀ y, y ∈ u.realloc → y ∈ t.realloc
  law : QueueLaw u → QueueLaw t
  flight : t.flight = u.flight

/-- An event that takes its part zone by zone, where P says what stands while the zones of a list are still to come. -/
theorem foldl_zonesClip {old : State} {f : State → ZoneNo → State} {P : State → List ZoneNo → Prop}
    (step : ∀ u z l, z ∉ l → P u (z :: l) → P (f u z) l) (clip : ∀ u z l, P u (z :: l) → ZoneClip old u z (f u z))
    {l : List ZoneNo} (once : l.Nodup) (u : State) (start : P u l) : ZonesClip old u l (l.foldl f u) := by
  induction l generalizing u with
  | nil => exact ⟨fun _ _ => ⟨rfl, fun _ => rfl⟩, by simp, by simp, fun _ h => h, id, rfl⟩
  | cons z l ih =>
    obtain ⟨fresh, once⟩ := List.nodup_cons.mp once
    have first := clip u z l start
    have rest := ih once (f u z) (step u z l fresh start)
    rw [List.foldl_cons]
    refine ⟨fun y absent => ?_, fun y present o => ?_, fun y present changed => ?_, fun y h => rest.kept y (first.kept y h),
      fun h => rest.law (first.law h), rest.flight.trans first.flight⟩
    · rw [List.mem_cons, not_or] at absent
      obtain ⟨otherHead, otherTail⟩ := absent
      obtain ⟨snapHead, grantHead⟩ := first.others y otherHead
      obtain ⟨snapTail, grantTail⟩ := rest.others y otherTail
      exact ⟨snapTail.trans snapHead, fun o => (grantTail o).trans (grantHead o)⟩
    · by_cases h : y = z
      · subst h
        obtain ⟨snapTail, grantTail⟩ := rest.others y fresh
        rw [grantTail, first.own, effBudget_of_snapshot snapTail, effRequest_of_snapshot snapTail]
      · have tail : y ∈ l := (List.mem_cons.mp present).resolve_left h
        rw [rest.own y tail, (first.others y h).2]
    · by_cases h : y = z
      · subst h
        rw [(rest.others y fresh).1] at changed
        exact rest.kept y (first.queued changed)
      · exact rest.queued y ((List.mem_cons.mp present).resolve_left h) changed

/-- The parts at some zones are the whole event where the others keep their inputs. -/
theorem ZonesClip.clips {old u t : State} {l : List ZoneNo} (h : ZonesClip old u l t) (power : SamePower u old)
    (rest : ∀ y, y ∉ l → snapshotOf u y = snapshotOf old y) : Clips old t where
  grant z o := by
    by_cases present : z ∈ l
    · rw [h.own z present, power.grant]
    · obtain ⟨snap, grant⟩ := h.others z present
      have same := snap.trans (rest z present)
      rw [grant, power.grant, effBudget_of_snapshot same, effRequest_of_snapshot same,
        clippedGrant_of_le (Nat.le_refl _) (Nat.le_refl _)]
  queued z changed := by
    by_cases present : z ∈ l
    · exact h.queued z present changed
    · exact absurd ((h.others z present).1.trans (rest z present)) changed
  kept z queued := h.kept z (by rw [power.realloc]; exact queued)
  law queue := h.law (by unfold QueueLaw; rw [power.realloc]; exact queue)
  flight := h.flight.trans power.flight

/-- An event that changes no inputs and no grant. -/
theorem Clips.of_same {old t : State} (power : SamePower t old) (same : ∀ z, snapshotOf t z = snapshotOf old z) : Clips old t where
  grant z o := by
    rw [power.grant, effBudget_of_snapshot (same z), effRequest_of_snapshot (same z),
      clippedGrant_of_le (Nat.le_refl _) (Nat.le_refl _)]
  queued z changed := absurd (same z) changed
  kept z h := by rw [power.realloc]; exact h
  law h := by unfold QueueLaw; rw [power.realloc]; exact h
  flight := power.flight

/-- The input changes of an event (R20, R132). -/
theorem Clips.of_inputChanges {old u : State} {also : ZoneNo → Bool} (power : SamePower u old)
    (rest : ∀ z, also z = false → (∀ o, carrying u z o = carrying old z o) → snapshotOf u z = snapshotOf old z) :
    Clips old (inputChanges old u also) := by
  have once : (allZones.filter fun z => also z || carryChanged old u z).Nodup := (List.nodup_finRange 64).filter _
  have clip : ∀ v z (l : List ZoneNo), True → ZoneClip old v z (inputChange old v z) := fun v z _ _ =>
    .of_inputChange (.refl v) fun _ _ => rfl
  refine (foldl_zonesClip (P := fun _ _ => True) (fun _ _ _ _ _ => trivial) clip once u trivial).clips power fun y absent => ?_
  have spared : also y = false ∧ ∀ o, carrying old y o = carrying u y o := by
    simpa [allZones, carryChanged, allOps] using absent
  exact rest y spared.1 fun o => (spared.2 o).symm

/-- The zones that `also` names are queued. -/
theorem mem_inputChanges {old u : State} {also : ZoneNo → Bool} {z : ZoneNo} :
    z ∈ (inputChanges old u also).realloc ↔ (also z = true ∨ ∃ o, carrying old z o ≠ carrying u z o) ∨ z ∈ u.realloc := by
  have queue : ∀ (l : List ZoneNo) (v : State), z ∈ (l.foldl (inputChange old) v).realloc ↔ z ∈ l ∨ z ∈ v.realloc := by
    intro l
    induction l with
    | nil => simp
    | cons y l ih =>
      intro v
      rw [List.foldl_cons, ih, mem_inputChange, List.mem_cons]
      tauto
  unfold inputChanges
  rw [queue]
  simp [allZones, carryChanged, allOps]

/-! ## The laws under the clips -/

/-- Laws 1, 2, 3 and 5 with the computation in flight: `PowerInv` without the links. -/
def PowerCore (s : State) : Prop := BudgetLaw s ∧ RequestLaw s ∧ ShareLaw s ∧ QueueLaw s ∧ freshFlight s s.flight

theorem grantSum_eq (s : State) (z : ZoneNo) : grantSum s z = sum4 (vec4 (s.grant z)) := rfl

/-- The clips keep Law 1: in proportion where the budget falls, else without a rise (R128). -/
theorem Clips.budgetLaw {old t : State} (h : Clips old t) (law : BudgetLaw old) : BudgetLaw t := by
  intro z
  rw [grantSum_eq]
  by_cases falls : effBudget t z < effBudget old z
  · have parts : sum4 (vec4 (t.grant z)) ≤ sum4 (vec4 fun o => effBudget t z * (vec4 (old.grant z))[o] / effBudget old z) := by
      refine sum4_le_sum4 fun o => ?_
      rw [vec4_getElem, vec4_getElem, vec4_getElem, h.grant]
      exact clippedGrant_le_share falls
    calc sum4 (vec4 (t.grant z))
        ≤ effBudget t z * sum4 (vec4 (old.grant z)) / effBudget old z := parts.trans (sum4_parts_le ..)
      _ ≤ effBudget t z * effBudget old z / effBudget old z := Nat.div_le_div_right (Nat.mul_le_mul_left _ (law z))
      _ ≤ effBudget t z := Nat.div_le_of_le_mul (Nat.mul_comm ..).le
  · refine (sum4_le_sum4 fun o => ?_ : sum4 (vec4 (t.grant z)) ≤ sum4 (vec4 (old.grant z))).trans
      ((law z).trans (Nat.not_lt.mp falls))
    rw [vec4_getElem, vec4_getElem, h.grant]
    exact (clippedGrant_le ..).1

/-- The clips keep Law 2 (R129). -/
theorem Clips.requestLaw {old t : State} (h : Clips old t) (law : RequestLaw old) : RequestLaw t := by
  intro z o
  rw [h.grant]
  exact clippedGrant_le_request (law z o)

/-- A reallocation in flight goes stale only where its zone is queued (R131, R145). -/
theorem Clips.freshFlight {old t : State} (h : Clips old t) (fresh : freshFlight old old.flight) : freshFlight t t.flight := by
  rw [h.flight]
  unfold Machine.freshFlight at fresh ⊢
  split
  case h_1 z n inFlight =>
    rw [inFlight] at fresh
    rcases fresh with queued | same
    · exact .inl (h.kept z queued)
    · by_cases changed : snapshotOf t z = snapshotOf old z
      · exact .inr (same.trans changed.symm)
      · exact .inl (h.queued z changed)
  case h_2 => trivial

theorem Clips.core {old t : State} (h : Clips old t) (share : ShareLaw old → ShareLaw t) (core : PowerCore old) : PowerCore t := by
  obtain ⟨budget, request, shareLaw, queue, fresh⟩ := core
  exact ⟨h.budgetLaw budget, h.requestLaw request, share shareLaw, h.law queue, h.freshFlight fresh⟩

/-! ## Moves of the Power Share Unit -/

/-- No grant rises, and the laws of Power Sharing are kept. -/
structure PowerMove (s t : State) : Prop where
  falls : ∀ z o, t.grant z o ≤ s.grant z o
  core : PowerCore s → PowerCore t

theorem PowerMove.refl (s : State) : PowerMove s s := ⟨fun _ _ => Nat.le_refl _, id⟩

theorem PowerMove.trans {s t u : State} (h : PowerMove s t) (h' : PowerMove t u) : PowerMove s u :=
  ⟨fun z o => (h'.falls z o).trans (h.falls z o), fun core => h'.core (h.core core)⟩

theorem Clips.move {s t : State} (h : Clips s t) (equalShares : shares t = shares s) : PowerMove s t :=
  ⟨fun z o => by rw [h.grant]; exact (clippedGrant_le ..).1,
    h.core fun law => by unfold ShareLaw; rw [equalShares]; exact law⟩

/-- What leaves the power fields and every derived input is a move. -/
theorem PowerMove.of_same {s t : State} (power : SamePower t s) (same : ∀ z, snapshotOf t z = snapshotOf s z) : PowerMove s t :=
  (Clips.of_same power same).move (congrArg Snapshot.shares (same 0))

theorem PowerMove.of_bare {s t : State} (power : SamePower t s) (same : t.bare = s.bare) : PowerMove s t :=
  .of_same power (snapshotOf_congr same)

theorem foldl_powerMove {α : Type} {f : State → α → State} (h : ∀ s a, PowerMove s (f s a)) (l : List α) (s : State) :
    PowerMove s (l.foldl f s) := by
  induction l generalizing s with
  | nil => exact .refl s
  | cons a l ih => exact (h s a).trans (ih _)

/-! ## The Allocation Engine's moves -/

theorem freshFlight_congr {t u : State} (bare : t.bare = u.bare) (realloc : t.realloc = u.realloc) (c : Option Computation) :
    freshFlight t c ↔ freshFlight u c := by
  unfold freshFlight
  split
  · rw [realloc, snapshotOf_congr bare]
  · rfl

/-- An arbitration starts a reallocation with the inputs as they stand, and writes no grant (R143, R144). -/
theorem arbitrate_core {s : State} (laws : BudgetLaw s ∧ RequestLaw s ∧ ShareLaw s ∧ QueueLaw s) (free : s.flight = none) :
    PowerCore (arbitrate s) := by
  obtain ⟨budget, request, share, queue⟩ := laws
  have bare : (arbitrate s).bare = s.bare := arbitrate_bare s
  have grants : (arbitrate s).grants = s.grants :=
    arbitrate_keeps State.grants (fun _ _ => rfl) (fun _ _ => rfl) (fun _ _ => rfl) (fun _ _ => rfl) (fun _ _ => rfl) s
  have grant (z : ZoneNo) : (arbitrate s).grant z = s.grant z := by
    funext o
    simp only [State.grant, grants]
  refine ⟨fun z => ?_, fun z o => ?_, ?_, ?_⟩
  · rw [grantSum_eq, grant, effBudget_congr bare]
    exact budget z
  · rw [grant, effRequest_congr bare]
    exact request z o
  · unfold ShareLaw
    rw [show shares (arbitrate s) = shares s from State.congr_bare shares bare (fun _ => rfl)]
    exact share
  · have snap (z : ZoneNo) : snapshotOf (arbitrate s) z = snapshotOf s z := snapshotOf_congr bare z
    rcases arbitrate_cases s with ⟨-, -, e⟩ | ⟨z, rest, hr, -, e⟩ | ⟨p, x, -, -, e⟩
    · rw [e]
      exact ⟨queue, by unfold freshFlight; rw [show ({ s with consecutive := 0 } : State).flight = none from free]; trivial⟩
    · rw [e] at snap ⊢
      unfold QueueLaw at queue
      rw [hr] at queue
      exact ⟨queue.tail, .inr (snap z).symm⟩
    · rw [e]
      exact ⟨queue, trivial⟩

/-- The end of an event keeps the laws (R142). -/
theorem endEvent_move (old s : State) : PowerMove s (endEvent old s) := by
  refine ⟨fun z o => ?_, fun core => ?_⟩
  · simp only [State.grant, endEvent_grants, Nat.le_refl]
  · obtain ⟨budget, request, share, queue, fresh⟩ := core
    rcases endEvent_cases old s with same | ⟨free, -, arbitrates⟩
    · rw [same]
      exact ⟨budget, request, share, queue, fresh⟩
    · rw [arbitrates]
      exact arbitrate_core ⟨budget, request, share, queue⟩ free

end Sys2Proof.Machine
end

section
/-! The operations of the blocks as moves of the Power Share Unit: which of them change an allocation's inputs, and that each
such change is clipped and queued. -/

namespace Sys2Proof.Machine

open Sys2Proof

/-! ## Lanes and zones that keep their inputs -/

theorem carrying_local {t u : State} {z : ZoneNo} {o : OpNo} (transport : t.transport = u.transport)
    (lives : live t z = live u z) (mutes : muted t z = muted u z) (oper : t.oper o = u.oper o)
    (active : t.active z o = u.active z o) (slot : slotted t z o = slotted u z o) : carrying t z o = carrying u z o := by
  have serves : bindingServes t o (u.active z o) = bindingServes u o (u.active z o) := by
    unfold bindingServes
    split
    · rfl
    · simp only [State.sector, oper]
  simp only [carrying, transport, lives, mutes, oper, active, slot, serves]

theorem bindingRequest_local {t u : State} {z : ZoneNo} {o : OpNo} (oper : t.oper o = u.oper o)
    (active : t.active z o = u.active z o) : bindingRequest t o (t.active z o) = bindingRequest u o (u.active z o) := by
  rw [active]
  unfold bindingRequest
  split
  · rfl
  · simp only [State.sector, oper]

theorem effBudget_local {t u : State} {z : ZoneNo} (budget : (t.zone z).budget = (u.zone z).budget)
    (derates : derate t z = derate u z) : effBudget t z = effBudget u z := by
  simp only [effBudget, budget, derates]

theorem oper_of_ops {t u : State} (ops : t.ops = u.ops) (o : OpNo) : t.oper o = u.oper o := by
  simp only [State.oper, ops]

theorem shares_of_ops {t u : State} (ops : t.ops = u.ops) : shares t = shares u := by
  simp only [shares, State.oper, ops]

theorem slotted_of_plan {t u : State} (plan : t.activePlan = u.activePlan) (z : ZoneNo) (o : OpNo) :
    slotted t z o = slotted u z o := by
  have entry : t.activeEntry = u.activeEntry := by
    funext spoke n
    simp only [State.activeEntry, plan]
  simp only [slotted, entry]

/-- A zone whose record, liveness and outputs stay, among the same operators under the same plan, keeps its inputs. -/
theorem snapshot_local {t u : State} {z : ZoneNo} (budget : (t.zone z).budget = (u.zone z).budget)
    (active : (t.zone z).active = (u.zone z).active) (lives : live t z = live u z) (mutes : muted t z = muted u z)
    (derates : derate t z = derate u z) (ops : t.ops = u.ops) (transport : t.transport = u.transport)
    (plan : t.activePlan = u.activePlan) : snapshotOf t z = snapshotOf u z := by
  have lane (o : OpNo) : t.active z o = u.active z o := by simp only [State.active, active]
  refine snapshot_ext (effBudget_local budget derates) (fun o => ?_) (shares_of_ops ops)
  exact effRequest_of_lanes
    (carrying_local transport lives mutes (oper_of_ops ops o) (lane o) (slotted_of_plan plan z o))
    fun _ => bindingRequest_local (oper_of_ops ops o) (lane o)

/-- A zone without a carrying lane before and after keeps its inputs where its effective budget and the shares stay. -/
theorem snapshot_of_idle {t u : State} {z : ZoneNo} (after : ∀ o, carrying t z o = false) (before : ∀ o, carrying u z o = false)
    (budget : effBudget t z = effBudget u z) (equalShares : shares t = shares u) : snapshotOf t z = snapshotOf u z :=
  snapshot_ext budget (fun o => by rw [effRequest_of_idle (after o), effRequest_of_idle (before o)]) equalShares

/-- The fields that the clips write and the arbiter reads, with the inputs of every zone. -/
def State.sharing (s : State) : Vector (Vector Nat 4) 64 × List ZoneNo × Option Computation × (ZoneNo → Snapshot) :=
  (s.grants, s.realloc, s.flight, snapshotOf s)

/-- The fields that the clips write and the arbiter reads. -/
def State.power (s : State) : Vector (Vector Nat 4) 64 × List ZoneNo × Option Computation := (s.grants, s.realloc, s.flight)

theorem SamePower.of_eq {t u : State} (h : t.power = u.power) : SamePower t u := by
  simp only [State.power, Prod.mk.injEq] at h
  obtain ⟨grants, realloc, flight⟩ := h
  exact ⟨grants, realloc, flight⟩

theorem PowerMove.of_sharing {s t : State} (h : t.sharing = s.sharing) : PowerMove s t := by
  simp only [State.sharing, Prod.mk.injEq] at h
  obtain ⟨grants, realloc, flight, same⟩ := h
  exact .of_same ⟨grants, realloc, flight⟩ (congrFun same)

theorem ZoneClip.clips {s t : State} {z : ZoneNo} (h : ZoneClip s s z t) : Clips s t where
  grant y o := by
    by_cases same : y = z
    · subst same
      exact h.own o
    · obtain ⟨snap, grant⟩ := h.others y same
      rw [grant, effBudget_of_snapshot snap, effRequest_of_snapshot snap, clippedGrant_of_le (Nat.le_refl _) (Nat.le_refl _)]
  queued y changed := by
    by_cases same : y = z
    · subst same
      exact h.queued changed
    · exact absurd (h.others y same).1 changed
  kept := h.kept
  law := h.law
  flight := h.flight

/-! ## Writes that change no input -/

theorem workingWrite_sharing (s : State) (z : ZoneNo) (o : OpNo) (b : Option SectorNo) :
    (workingWrite s z o b).sharing = s.sharing := by
  have zone (y : ZoneNo) : ((workingWrite s z o b).zone y).budget = (s.zone y).budget ∧
      ((workingWrite s z o b).zone y).active = (s.zone y).active ∧
      ((workingWrite s z o b).zone y).provisioned = (s.zone y).provisioned := by
    show ((setWorking s z o b).zone y).budget = _ ∧ ((setWorking s z o b).zone y).active = _ ∧
      ((setWorking s z o b).zone y).provisioned = _
    by_cases h : y = z
    · subst h; simp [setWorking]
    · simp [setWorking, h]
  have same : snapshotOf (workingWrite s z o b) = snapshotOf s := funext fun y =>
    snapshot_local (zone y).1 (zone y).2.1 (live_of_link (zone y).2.2 rfl) (muted_of_records (fun _ => rfl) rfl)
      (derate_of_records (fun _ => rfl) rfl rfl rfl) rfl rfl rfl
  simp only [State.sharing, same]
  rfl

theorem file_sharing (s : State) (ps : List Port) (n : Notice) : (file s ps n).sharing = s.sharing :=
  file_keeps State.sharing (fun _ _ => rfl) ..

theorem closeProposal_sharing (s : State) (o : OpNo) (p : Proposal) : (closeProposal s o p).sharing = s.sharing := rfl

theorem withdrawIf_sharing (s : State) (o : OpNo) (test : Proposal → Bool) (why : WithdrawCause) :
    (withdrawIf s o test why).sharing = s.sharing := withdrawIf_keeps State.sharing (fun _ _ => rfl) (fun _ _ => rfl) ..

theorem expireProposal_sharing (s : State) (o : OpNo) (p : Proposal) : (expireProposal s o p).sharing = s.sharing := by
  unfold expireProposal
  dsimp only
  rw [file_sharing, closeProposal_sharing]
  split
  · exact workingWrite_sharing ..
  · rfl

theorem countProposal_sharing (s : State) (o : OpNo) : (countProposal s o).sharing = s.sharing := by
  unfold countProposal
  split
  · rfl
  · split
    · rfl
    · exact expireProposal_sharing ..

theorem setOutcome_sharing (s : State) (o : OpNo) (e : EvalOutcome) : (setOutcome s o e).sharing = s.sharing :=
  setOutcome_keeps State.sharing (fun _ _ => rfl) ..

theorem setEvalCount_sharing (s : State) (o : OpNo) (n : Nat) : (setEvalCount s o n).sharing = s.sharing :=
  setEvalCount_keeps State.sharing (fun _ _ => rfl) ..

theorem evaluate_sharing (s : State) (o : OpNo) : (evaluate s o).sharing = s.sharing := by
  unfold evaluate
  split
  · exact setOutcome_sharing ..
  · split
    · exact (setOutcome_sharing ..).trans (workingWrite_sharing ..)
    · exact openProposal_keeps State.sharing (fun _ _ => rfl) (fun _ _ => rfl) ..

theorem runEvaluation_sharing (s : State) (o : OpNo) : (runEvaluation s o).sharing = s.sharing :=
  (evaluate_sharing (setEvalCount s o 0) o).trans (setEvalCount_sharing ..)

theorem countEvaluation_sharing (s : State) (o : OpNo) : (countEvaluation s o).sharing = s.sharing := by
  unfold countEvaluation
  split
  · split
    · exact setEvalCount_sharing ..
    · exact runEvaluation_sharing ..
  · rfl

/-- The Spread Engine's reaction changes no input of an allocation: its moves wait for a latch (R13, R104). -/
theorem spreadReaction_sharing (s : State) : (spreadReaction s).sharing = s.sharing := by
  unfold spreadReaction
  rw [foldl_keeps State.sharing _ countEvaluation_sharing, foldl_keeps State.sharing _ countProposal_sharing]
  exact countSettles_keeps State.sharing (fun _ _ => rfl) s

theorem declineProposal_sharing (s : State) (o : OpNo) (p : Proposal) : (declineProposal s o p).sharing = s.sharing := by
  unfold declineProposal
  exact (file_sharing ..).trans rfl

theorem fillSlots_sharing (s : State) : (fillSlots s).sharing = s.sharing :=
  fillSlots_keeps State.sharing (fun _ _ => rfl) (fun _ _ => rfl) (fun _ _ => rfl) s

/-- Links whose states are heard as before change no input. -/
theorem snapshot_withLinks {s : State} {v : Vector LinkRec 64} (h : ∀ z : ZoneNo, heard v[z].state = heard (s.link z).state)
    (z : ZoneNo) : snapshotOf (s.withLinks v) z = snapshotOf s z := by
  have lives : live (s.withLinks v) z = live s z := by
    show ((s.zone z).provisioned && heard v[z].state) = _
    rw [h]
    rfl
  exact snapshot_local rfl rfl lives (muted_of_records (fun _ => rfl) rfl) (derate_of_records (fun _ => rfl) rfl rfl rfl) rfl rfl rfl

theorem withLinks_move {s : State} {v : Vector LinkRec 64} (h : ∀ z : ZoneNo, heard v[z].state = heard (s.link z).state) :
    PowerMove s (s.withLinks v) := .of_same ⟨rfl, rfl, rfl⟩ (snapshot_withLinks h)

theorem setLink_move {s : State} {z : ZoneNo} {r : LinkRec} (h : heard r.state = heard (s.link z).state) :
    PowerMove s (s.setLink z r) := by
  refine withLinks_move (v := s.links.set z r) fun y => ?_
  have link := State.setLink_link (s := s) z r
  by_cases same : y = z
  · subst same
    rw [← h]
    exact congrArg (fun r : LinkRec => heard r.state) link
  · exact congrArg (fun r : LinkRec => heard r.state) (State.setLink_link_ne s r same)

theorem countDwells_move (s : State) : PowerMove s (countDwells s) := by
  refine withLinks_move fun z => ?_
  have record : (retable (fun _ r => r.dwellCount) s.links)[z] = (s.link z).dwellCount := retable_getElem ..
  rw [record]
  unfold LinkRec.dwellCount LinkRec.toSearch
  split
  · next lost => rw [lost]; split <;> simp [heard]
  · rfl

/-! ## The outputs of a zone -/

/-- Where the mute and the derate factor of a zone are as they were, and all else is too, so are its inputs. -/
theorem snapshot_of_outputs {old v : State} {z : ZoneNo} (quiet : outputsChanged old v z = false) (zones : v.zones = old.zones)
    (links : v.links = old.links) (ops : v.ops = old.ops) (transport : v.transport = old.transport)
    (plan : v.activePlan = old.activePlan) : snapshotOf v z = snapshotOf old z := by
  simp only [outputsChanged, Bool.or_eq_false_iff, bne_eq_false_iff_eq, decide_eq_false_iff_not, not_not] at quiet
  obtain ⟨mutes, derates⟩ := quiet
  have zone : v.zone z = old.zone z := by simp only [State.zone, zones]
  refine snapshot_local (by rw [zone]) (by rw [zone]) (live_of_link (by rw [zone]) ?_) mutes.symm derates.symm ops transport plan
  simp only [State.link, links]

theorem outputNotices_power (old s : State) (z : ZoneNo) : SamePower (outputNotices old s z) s :=
  .of_eq (outputNotices_keeps State.power (fun _ _ => rfl) ..)

/-- The Protection Unit's evaluation of a zone clips and queues it where an output changed (R75). -/
theorem takeOutputs_clip {old u v : State} {z : ZoneNo} (power : SamePower v u)
    (others : ∀ y, y ≠ z → snapshotOf v y = snapshotOf u y)
    (rest : outputsChanged old v z = false → snapshotOf v z = snapshotOf old z) : ZoneClip old u z (takeOutputs old v z) := by
  unfold takeOutputs
  split
  · refine .of_inputChange ((outputNotices_power ..).trans power) fun y other => ?_
    rw [snapshotOf_congr (outputNotices_bare old v z), others y other]
  · next quiet => exact .of_same power others (rest (by simpa using quiet))

theorem takeEdges_power (s : State) (z : ZoneNo) (bits : Vector Bool 6) : SamePower (takeEdges s z bits) s :=
  .of_eq (takeEdges_keeps State.power (fun _ _ => rfl) (fun _ _ => rfl) ..)

/-- Protection records written at one zone leave the inputs of the others. -/
theorem snapshot_withProt_ne {s : State} {v : Vector (Vector ProtRec 6) 64} {z : ZoneNo}
    (records : ∀ c, (v[z])[c] = s.protRec z c) : snapshotOf (s.withProt v) z = snapshotOf s z := by
  have same (c : ClassNo) : ((s.withProt v).protRec z c).state = (s.protRec z c).state := congrArg ProtRec.state (records c)
  exact snapshot_local rfl rfl rfl (muted_of_records same rfl) (derate_of_records same rfl rfl rfl) rfl rfl rfl

/-- The alarm edges of a zone with their outputs are one event of that zone. -/
theorem takeOutputs_withProt_clip {s u : State} {z : ZoneNo} {v : Vector (Vector ProtRec 6) 64} (power : SamePower u s)
    (bare : u.bare = s.bare.withProt v) (others : ∀ y, y ≠ z → ∀ c, (v[y])[c] = s.protRec y c) :
    ZoneClip s s z (takeOutputs s u z) := by
  have whole : u.bare = (s.withProt v).bare := bare
  refine takeOutputs_clip power (fun y other => ?_) fun quiet => ?_
  · rw [snapshotOf_congr whole, snapshot_withProt_ne (others y other)]
  · have same {β : Type} (g : State → β) (hg : ∀ x : State, g x.bare = g x) : g u = g (s.withProt v) :=
      State.congr_bare g whole hg
    exact snapshot_of_outputs quiet (same State.zones fun _ => rfl) (same State.links fun _ => rfl)
      (same State.ops fun _ => rfl) (same State.transport fun _ => rfl) (same State.activePlan fun _ => rfl)

theorem takeVector_clip (s : State) (z : ZoneNo) (bits : Vector Bool 6) : ZoneClip s s z (takeVector s z bits) := by
  refine takeOutputs_withProt_clip (takeEdges_power ..) (takeEdges_bare s z bits) fun y other c => ?_
  exact (takeEdges_protRec s z bits y c).trans (if_neg other)

/-- The shares of a state that a zone's event reached. -/
theorem ZoneClip.move {s t : State} {z : ZoneNo} (h : ZoneClip s s z t) : PowerMove s t := by
  obtain ⟨y, other⟩ : ∃ y : ZoneNo, y ≠ z := exists_ne z
  exact h.clips.move (congrArg Snapshot.shares (h.others y other).1)

end Sys2Proof.Machine
end

section
/-! The events as moves of the Power Share Unit: the latch and the commit, links that are lost, retired or stopped, tenancy and
sector tables, shares, and the alarm settings. -/

namespace Sys2Proof.Machine

open Sys2Proof

/-! ## Writes outside the power fields -/

theorem setZone_power (s : State) (z : ZoneNo) (r : ZoneRec) : SamePower (s.setZone z r) s := ⟨rfl, rfl, rfl⟩
theorem setLink_power (s : State) (z : ZoneNo) (r : LinkRec) : SamePower (s.setLink z r) s := ⟨rfl, rfl, rfl⟩
theorem setOper_power (s : State) (o : OpNo) (r : OpRec) : SamePower (s.setOper o r) s := ⟨rfl, rfl, rfl⟩
theorem clearZoneCells_power (s : State) (z : ZoneNo) : SamePower (clearZoneCells s z) s := ⟨rfl, rfl, rfl⟩
theorem setTenancy_power (s : State) (o : OpNo) (t : Tenancy) : SamePower (setTenancy s o t) s := ⟨rfl, rfl, rfl⟩

/-! ## The map latch and the plan commit -/

/-- The notices and settle loads of a latch at one zone (R15, R105). -/
def moveLanes (s t : State) (z : ZoneNo) : State := allOps.foldl (fun t o => moveLane s t z o) t

/-- The latch before the input changes: the bindings copied, then the notices and settle loads (R15, R105). -/
def latchMoves (s : State) : State := allZones.foldl (moveLanes s) (copyBindings s)

theorem takeLatch_eq (s : State) : takeLatch s = inputChanges s (latchMoves s) fun z => allOps.any (bindingDiffers s z) := by
  unfold takeLatch latchMoves moveLanes
  rfl

theorem moveLanes_keeps {β : Type} (g : State → β) (settle : ∀ s v, g { s with settle := v } = g s)
    (notices : ∀ s v, g { s with notices := v } = g s) (s t : State) (z : ZoneNo) : g (moveLanes s t z) = g t :=
  foldl_keeps g _ (fun u o => moveLane_keeps g settle notices s u z o) allOps t

theorem latchMoves_keeps {β : Type} (g : State → β) (settle : ∀ s v, g { s with settle := v } = g s)
    (notices : ∀ s v, g { s with notices := v } = g s) (s : State) : g (latchMoves s) = g (copyBindings s) :=
  foldl_keeps g _ (moveLanes_keeps g settle notices s) allZones (copyBindings s)

theorem withSettle_bare (s : State) (v : Vector (Vector Nat 4) 64) : (s.withSettle v).bare = s.bare.withSettle v := rfl

theorem latchMoves_bare (s : State) : (latchMoves s).bare = ((copyBindings s).withSettle (latchMoves s).settle).bare := by
  rw [withSettle_bare]
  refine bare_eq_of_keeps (fun x y => x.bare.withSettle y.settle) (fun _ => rfl) fun y => ?_
  exact latchMoves_keeps (fun x => x.bare.withSettle y.settle) (fun _ _ => rfl) (fun _ _ => rfl) s

/-- A latch writes the zone records, the flag and the settle counters (R15). -/
theorem takeLatch_bare (s : State) : (takeLatch s).bare = ((copyBindings s).withSettle (latchMoves s).settle).bare := by
  rw [takeLatch_eq, inputChanges_bare, latchMoves_bare]

/-- A zone record after the latch (R15). -/
def ZoneRec.latched (r : ZoneRec) : ZoneRec := { r with active := r.working }

theorem copyBindings_eq (s : State) :
    copyBindings s = (s.withZones (retable (fun _ r => r.latched) s.zones)).withLatch false := by
  unfold copyBindings State.withLatch State.withZones ZoneRec.latched
  rfl

theorem snapshot_withLatch (s : State) (b : Bool) (z : ZoneNo) : snapshotOf (s.withLatch b) z = snapshotOf s z := rfl

/-- Zone records that keep the budget, the active bindings and the provisioning keep the inputs. -/
theorem snapshot_withZones {s : State} {v : Vector ZoneRec 64} {z : ZoneNo} (budget : v[z].budget = (s.zone z).budget)
    (active : v[z].active = (s.zone z).active) (provisioned : v[z].provisioned = (s.zone z).provisioned) :
    snapshotOf (s.withZones v) z = snapshotOf s z :=
  snapshot_local budget active (live_of_link provisioned rfl) (muted_of_records (fun _ => rfl) rfl)
    (derate_of_records (fun _ => rfl) rfl rfl rfl) rfl rfl rfl

theorem snapshot_withSettle (s : State) (v : Vector (Vector Nat 4) 64) (z : ZoneNo) :
    snapshotOf (s.withSettle v) z = snapshotOf s z := rfl

/-- A latch is an event of the zones with a differing binding (R15, R20, R127). -/
theorem takeLatch_clips (s : State) : Clips s (takeLatch s) := by
  have power : SamePower (latchMoves s) s := .of_eq
    ((latchMoves_keeps State.power (fun _ _ => rfl) (fun _ _ => rfl) s).trans
      (copyBindings_keeps State.power (fun _ _ => rfl) (fun _ _ => rfl) s))
  rw [takeLatch_eq]
  refine Clips.of_inputChanges power fun z quiet _ => ?_
  have equal : (s.zone z).working = (s.zone z).active := by
    refine Vector.ext fun i hi => ?_
    have lane : bindingDiffers s z ⟨i, hi⟩ = false := by
      have := List.any_eq_false.mp quiet ⟨i, hi⟩ (List.mem_finRange _)
      simpa using this
    simp only [bindingDiffers, decide_eq_false_iff_not, not_not] at lane
    exact lane
  have zone : (retable (fun _ r => r.latched) s.zones)[z] = (s.zone z).latched := retable_getElem ..
  rw [snapshotOf_congr (latchMoves_bare s), snapshot_withSettle, copyBindings_eq, snapshot_withLatch]
  exact snapshot_withZones (by rw [zone]; rfl) (by rw [zone]; exact equal) (by rw [zone]; rfl)

theorem takeLatch_shares (s : State) : shares (takeLatch s) = shares s :=
  shares_of_ops (by apply takeLatch_keeps State.ops <;> intros <;> rfl)

theorem takeLatch_move (s : State) : PowerMove s (takeLatch s) := (takeLatch_clips s).move (takeLatch_shares s)

theorem latchIfStopped_move (s : State) : PowerMove s (latchIfStopped s) := by
  unfold latchIfStopped
  split
  · exact takeLatch_move s
  · exact .refl s

/-- The plan, the shadow counters and the stamp that a commit stores (R36). -/
def storeCommit (s : State) : State :=
  { s with
    activePlan := s.workPlan
    shadows := Vector.replicate 8 (Vector.replicate 64 Shadow.reset)
    commitPending := false
    lastCommit := some s.stamp }

theorem takeCommit_eq (s : State) :
    takeCommit s = inputChanges s (storeCommit s) fun z => allOps.any fun o => slotted s z o != slotted (storeCommit s) z o := rfl

theorem takeCommit_bare (s : State) : (takeCommit s).bare = (storeCommit s).bare := by
  rw [takeCommit_eq, inputChanges_bare]

/-- Lanes that carry as before with the requests that they had keep their zone's inputs. -/
theorem snapshot_of_lanes {t u : State} {z : ZoneNo} (budget : effBudget t z = effBudget u z) (equalShares : shares t = shares u)
    (carry : ∀ o, carrying t z o = carrying u z o)
    (request : ∀ o, carrying u z o = true → bindingRequest t o (t.active z o) = bindingRequest u o (u.active z o)) :
    snapshotOf t z = snapshotOf u z :=
  snapshot_ext budget (fun o => effRequest_of_lanes (carry o) (request o)) equalShares

theorem takeCommit_clips (s : State) : Clips s (takeCommit s) :=
  Clips.of_inputChanges ⟨rfl, rfl, rfl⟩ fun _ _ carry => snapshot_of_lanes rfl rfl carry fun _ _ => rfl

theorem takeCommit_move (s : State) : PowerMove s (takeCommit s) :=
  (takeCommit_clips s).move ((State.congr_bare shares (takeCommit_bare s) (fun _ => rfl)).trans rfl)

/-! ## Zones that go dark or live -/

theorem goDark_power (old s : State) (z : ZoneNo) (cause : DarkCause) (why : WithdrawCause) :
    SamePower (goDark old s z cause why) s :=
  .of_eq (goDark_keeps State.power (fun _ _ => rfl) (fun _ _ => rfl) (fun _ _ => rfl) ..)

theorem snapshot_withSpread (s : State) (v : Vector SpreadRec 4) (z : ZoneNo) : snapshotOf (s.withSpread v) z = snapshotOf s z :=
  rfl

theorem setLink_snapshot_ne (s : State) {z y : ZoneNo} (r : LinkRec) (other : y ≠ z) :
    snapshotOf (s.setLink z r) y = snapshotOf s y := by
  refine snapshot_local rfl rfl (live_of_link rfl ?_) (muted_of_records (fun _ => rfl) rfl)
    (derate_of_records (fun _ => rfl) rfl rfl rfl) rfl rfl rfl
  rw [State.setLink_link_ne s r other]

/-- A zone that goes dark leaves the inputs of the others. -/
theorem goDark_snapshot_ne (old s : State) {z y : ZoneNo} (cause : DarkCause) (why : WithdrawCause) (other : y ≠ z) :
    snapshotOf (goDark old s z cause why) y = snapshotOf s y := by
  have whole := goDark_bare old s z cause why
  rw [← withProt_bare] at whole
  rw [snapshotOf_congr (u := (s.withProt (goDark old s z cause why).prot).withSpread
    (closedWhere s fun _ p => decide (p.zone = z))) whole, snapshot_withSpread]
  exact snapshot_withProt_ne fun c => (goDark_protRec old s z cause why y c).trans (if_neg other)

theorem loseLink_clip (s : State) (z : ZoneNo) (r : LinkRec) : ZoneClip s s z (loseLink s z r) := by
  unfold loseLink
  refine .of_inputChange ((goDark_power ..).trans (setLink_power ..)) fun y other => ?_
  rw [goDark_snapshot_ne _ _ _ _ other, setLink_snapshot_ne s _ other]

theorem fileZone_power (s : State) (z : ZoneNo) (k : NoticeKind) (v : Nat) : SamePower (fileZone s z k v) s :=
  .of_eq (fileZone_keeps State.power (fun _ _ => rfl) ..)

theorem goLive_clip (s : State) (z : ZoneNo) (r : LinkRec) : ZoneClip s s z (goLive s (s.setLink z r) z) := by
  unfold goLive
  refine .of_inputChange ((fileZone_power ..).trans (setLink_power ..)) fun y other => ?_
  rw [snapshotOf_congr (fileZone_bare ..), setLink_snapshot_ne s r other]

theorem searchWord_move (s : State) (z : ZoneNo) (good : Bool) (search : (s.link z).state = .search) :
    PowerMove s (searchWord s z good) := by
  have unheard (r : LinkRec) (h : r.state = .search) : PowerMove s (s.setLink z r) := setLink_move (by rw [h, search])
  unfold searchWord
  dsimp only
  split
  · split
    · exact unheard _ search
    · exact (goLive_clip s z _).move
  · exact unheard _ search

theorem heardLinkWord_move (s : State) (z : ZoneNo) (good : Bool) (hears : heard (s.link z).state = true) :
    PowerMove s (heardLinkWord s z good) := by
  have told (u : State) (k : NoticeKind) : PowerMove u (fileLink u z k) :=
    .of_sharing (fileLink_keeps State.sharing (fun _ _ => rfl) ..)
  have kept (r : LinkRec) (h : heard r.state = true) : PowerMove s (s.setLink z r) := setLink_move (h.trans hears.symm)
  unfold heardLinkWord
  dsimp only
  split
  · exact (loseLink_clip s z _).move
  · split
    · exact (kept _ rfl).trans (told _ _)
    · split
      · exact (kept _ rfl).trans (told _ _)
      · exact kept _ hears

theorem linkWord_move (s : State) (z : ZoneNo) (good : Bool) : PowerMove s (linkWord s z good) := by
  unfold linkWord
  split
  · exact .refl s
  · next h => exact searchWord_move s z good h
  · next h => exact heardLinkWord_move s z good (by rw [h]; rfl)
  · next h => exact heardLinkWord_move s z good (by rw [h]; rfl)
  · exact .refl s

theorem takeBlock_move (s : State) (z : ZoneNo) (u : UplinkWord) : PowerMove s (takeBlock s z u) := by
  unfold takeBlock
  split
  · split
    · exact .of_sharing (takeActivity_keeps State.sharing (fun _ _ => rfl) ..)
    · exact .refl s
  · exact .refl s

theorem takeWord_move (s : State) (z : ZoneNo) (w : Option UplinkWord) : PowerMove s (takeWord s z w) := by
  have link := linkWord_move s z w.isSome
  unfold takeWord
  dsimp only
  split
  · split
    · exact link.trans ((takeVector_clip _ z _).move.trans (takeBlock_move ..))
    · exact link
  · exact link

/-! ## Entering STOPPED -/

/-- What stands while the zones of a list are still to be stopped. -/
structure Stopping (s u : State) (l : List ZoneNo) : Prop where
  stopped : u.transport = .stopped
  zones : u.zones = s.zones
  ops : u.ops = s.ops
  modes : u.modes = s.modes
  temp : u.tempLevel = s.tempLevel
  reflect : u.reflectLevel = s.reflectLevel
  records : ∀ z ∈ l, ∀ c, u.protRec z c = s.protRec z c

/-- What no zone's part in the entry into STOPPED writes. -/
def State.standing (s : State) : Transport × Vector ZoneRec 64 × Vector OpRec 4 × Vector ClassMode 6 × Nat × Nat :=
  (s.transport, s.zones, s.ops, s.modes, s.tempLevel, s.reflectLevel)

theorem inputChange_protRec (old s : State) (z y : ZoneNo) (c : ClassNo) : (inputChange old s z).protRec y c = s.protRec y c :=
  inputChange_keeps (State.protRec · y c) (fun _ _ => rfl) (fun _ _ => rfl) (fun _ _ => rfl) (fun _ _ => rfl) ..

/-- A zone's part in the entry into STOPPED clears the raw bits of a zone that was live (R72). -/
theorem stopZone_protRec (old s : State) (z y : ZoneNo) (c : ClassNo) :
    (stopZone old s z).protRec y c =
      if live old z = true ∧ y = z then edgeRecord (s.mode c) (s.protRec z c) false else s.protRec y c := by
  unfold stopZone
  dsimp only
  split
  · next h =>
    rw [inputChange_protRec, goDark_protRec]
    simp only [h, true_and]
    rfl
  · next h =>
    rw [if_neg fun both => h both.1]
    rfl

theorem Stopping.step {s u : State} {z : ZoneNo} {l : List ZoneNo} (fresh : z ∉ l) (h : Stopping s u (z :: l)) :
    Stopping s (stopZone s u z) l := by
  have kept : (stopZone s u z).standing = u.standing := by apply stopZone_keeps State.standing <;> intros <;> rfl
  simp only [State.standing, Prod.mk.injEq] at kept
  obtain ⟨transport, zones, ops, modes, temp, reflect⟩ := kept
  refine ⟨transport.trans h.stopped, zones.trans h.zones, ops.trans h.ops, modes.trans h.modes, temp.trans h.temp,
    reflect.trans h.reflect, fun y rest c => ?_⟩
  have other : y ≠ z := fun e => fresh (e ▸ rest)
  rw [stopZone_protRec, if_neg fun both => other both.2]
  exact h.records y (List.mem_cons_of_mem _ rest) c

theorem Stopping.clip {s u : State} {z : ZoneNo} {l : List ZoneNo} (h : Stopping s u (z :: l)) :
    ZoneClip s u z (stopZone s u z) := by
  unfold stopZone
  dsimp only
  split
  · refine .of_inputChange ((goDark_power ..).trans (setLink_power ..)) fun y other => ?_
    rw [goDark_snapshot_ne _ _ _ _ other, setLink_snapshot_ne u _ other]
  · next dark =>
    refine .of_same ⟨rfl, rfl, rfl⟩ (fun y other => setLink_snapshot_ne u _ other) ?_
    have dark : live s z = false := by simpa using dark
    refine snapshot_of_idle (carrying_of_stopped (s := u.setLink z _) h.stopped z) (carrying_of_dark dark) (effBudget_local ?_ ?_)
      (shares_of_ops h.ops)
    · rw [State.setLink_zone]
      simp only [State.zone, h.zones]
    · exact derate_of_records (fun c => congrArg ProtRec.state (h.records z (List.mem_cons_self ..) c)) h.modes h.temp h.reflect

/-- STOPPED with nothing sent, before any zone was stopped. -/
def haltTransport (s : State) : State := { s with transport := .stopped, firstPending := false, downlink := none }

theorem stopLinks_eq (s : State) : stopLinks s = withdrawAll (allZones.foldl (stopZone s) (haltTransport s)) .transportStop := rfl

theorem stopZones_clips (s : State) : Clips s (allZones.foldl (stopZone s) (haltTransport s)) := by
  refine (foldl_zonesClip (P := Stopping s) (fun _ _ _ => Stopping.step) (fun _ _ _ => Stopping.clip) (List.nodup_finRange 64)
    (haltTransport s) ⟨rfl, rfl, rfl, rfl, rfl, rfl, fun _ _ _ => rfl⟩).clips ⟨rfl, rfl, rfl⟩ fun y absent => ?_
  exact absurd (List.mem_finRange y) absent

theorem withdrawAll_sharing (s : State) (why : WithdrawCause) : (withdrawAll s why).sharing = s.sharing :=
  withdrawAll_keeps State.sharing (fun _ _ => rfl) (fun _ _ => rfl) ..

theorem Clips.of_sharing {s t u : State} (h : Clips s t) (same : u.sharing = t.sharing) : Clips s u := by
  simp only [State.sharing, Prod.mk.injEq] at same
  obtain ⟨grants, realloc, flight, snap⟩ := same
  have snap := congrFun snap
  refine ⟨fun z o => ?_, fun z changed => ?_, fun z queued => ?_, fun law => ?_, flight.trans h.flight⟩
  · rw [effBudget_of_snapshot (snap z), effRequest_of_snapshot (snap z), ← h.grant z o]
    simp only [State.grant, grants]
  · rw [realloc]
    exact h.queued z (by rwa [← snap z])
  · rw [realloc]
    exact h.kept z queued
  · unfold QueueLaw
    rw [realloc]
    exact h.law law

theorem stopLinks_clips (s : State) : Clips s (stopLinks s) := (stopZones_clips s).of_sharing (withdrawAll_sharing ..)

theorem stopLinks_ops (s : State) : (stopLinks s).ops = s.ops := by
  apply stopLinks_keeps State.ops <;> intros <;> rfl

theorem stopLinks_move (s : State) : PowerMove s (stopLinks s) := (stopLinks_clips s).move (shares_of_ops (stopLinks_ops s))

theorem enterStopped_move (s : State) : PowerMove s (enterStopped s) := by
  have latch (u : State) : PowerMove u (latchOnEntry u) := by
    unfold latchOnEntry
    split
    · exact takeLatch_move u
    · exact .refl u
  have commit (u : State) : PowerMove u (commitOnEntry u) := by
    unfold commitOnEntry
    split
    · exact takeCommit_move u
    · exact .refl u
  exact (stopLinks_move s).trans ((latch _).trans (commit _))

/-! ## Zone records -/

theorem setZone_eq (s : State) (z : ZoneNo) (r : ZoneRec) : s.setZone z r = s.withZones (s.zones.set z r) := rfl

/-- A zone record that keeps the budget, the active bindings and the provisioning keeps the inputs. -/
theorem snapshot_setZone {s : State} {z : ZoneNo} {r : ZoneRec} (budget : r.budget = (s.zone z).budget)
    (active : r.active = (s.zone z).active) (provisioned : r.provisioned = (s.zone z).provisioned) (y : ZoneNo) :
    snapshotOf (s.setZone z r) y = snapshotOf s y := by
  have record : (s.zones.set z r)[y] = if y = z then r else s.zone y := by
    by_cases h : y = z
    · subst h; simp
    · simp [h, State.zone, Fin.val_ne_of_ne (Ne.symm h)]
  rw [setZone_eq]
  by_cases h : y = z
  · subst h
    rw [if_pos rfl] at record
    exact snapshot_withZones (by rw [record, budget]) (by rw [record, active]) (by rw [record, provisioned])
  · rw [if_neg h] at record
    exact snapshot_withZones (by rw [record]) (by rw [record]) (by rw [record])

theorem snapshot_setZone_ne (s : State) {z y : ZoneNo} (r : ZoneRec) (other : y ≠ z) :
    snapshotOf (s.setZone z r) y = snapshotOf s y := by
  have record : (s.zones.set z r)[y] = s.zone y := State.setZone_zone_ne s r other
  exact snapshot_withZones (by rw [record]) (by rw [record]) (by rw [record])

theorem storeBudget_clips (s : State) (z : ZoneNo) (b : Nat) : Clips s (storeBudget s z b) := by
  unfold storeBudget
  split
  · exact .of_same (.refl s) fun _ => rfl
  · exact (ZoneClip.of_inputChange (setZone_power ..) fun y other => snapshot_setZone_ne s _ other).clips

theorem storeBudget_move (s : State) (z : ZoneNo) (b : Nat) : PowerMove s (storeBudget s z b) := by
  refine (storeBudget_clips s z b).move (shares_of_ops ?_)
  apply storeBudget_keeps State.ops <;> intros <;> rfl

theorem retireLink_power (s : State) (z : ZoneNo) : SamePower (retireLink s z) s := by
  unfold retireLink
  dsimp only
  split
  · exact (goDark_power ..).trans (setLink_power ..)
  · exact setLink_power ..

theorem retireLink_snapshot_ne (s : State) {z y : ZoneNo} (other : y ≠ z) : snapshotOf (retireLink s z) y = snapshotOf s y := by
  unfold retireLink
  dsimp only
  split
  · rw [goDark_snapshot_ne _ _ _ _ other, setLink_snapshot_ne s _ other]
  · exact setLink_snapshot_ne s _ other

theorem retire_clip (s : State) (z : ZoneNo) : ZoneClip s s z (retire s z) := by
  refine .of_inputChange ((clearZoneCells_power ..).trans ((setZone_power ..).trans (retireLink_power s z))) fun y other => ?_
  exact (snapshot_setZone_ne (retireLink s z) _ other).trans (retireLink_snapshot_ne s other)

/-! ## Operator records -/

theorem shares_setOper {s : State} {o : OpNo} {r : OpRec} (share : r.share = (s.oper o).share) :
    shares (s.setOper o r) = shares s := by
  have each : (fun q => ((s.setOper o r).oper q).share) = fun q => (s.oper q).share := by
    funext q
    by_cases h : q = o
    · subst h; simp [share]
    · simp [h]
  unfold shares
  rw [each]

/-- An operator's record that keeps its tenancy, its share and its sector table keeps every input. -/
theorem snapshot_setOper {s : State} {o : OpNo} {r : OpRec} (share : r.share = (s.oper o).share)
    (tenancy : r.tenancy = (s.oper o).tenancy) (sectors : r.sectors = (s.oper o).sectors) (z : ZoneNo) :
    snapshotOf (s.setOper o r) z = snapshotOf s z := by
  have sector (q : OpNo) (sec : SectorNo) : (s.setOper o r).sector q sec = s.sector q sec := by
    by_cases h : q = o
    · subst h; simp [State.sector, sectors]
    · simp [State.sector, h]
  have standing (q : OpNo) : ((s.setOper o r).oper q).tenancy = (s.oper q).tenancy := by
    by_cases h : q = o
    · subst h; simp [tenancy]
    · simp [h]
  have serves (q : OpNo) (b : Option SectorNo) : bindingServes (s.setOper o r) q b = bindingServes s q b := by
    unfold bindingServes
    split
    · rfl
    · simp only [sector]
  refine snapshot_of_lanes rfl (shares_setOper share) (fun q => ?_) fun q _ => ?_
  · simp only [carrying, standing, serves]
    rfl
  · show bindingRequest (s.setOper o r) q (s.active z q) = _
    unfold bindingRequest
    split
    · rfl
    · simp only [sector]

/-- The event of one operator's record, with or without a withdrawal: lanes of other operators carry as before, and the input
changes reach each zone where a lane of it starts or stops or its request is new. -/
theorem Clips.of_operator {s u : State} {o : OpNo} {r : OpRec} {c : Vector SpreadRec 4} {also : ZoneNo → Bool}
    (power : SamePower u s) (bare : u.bare = ((s.setOper o r).withSpread c).bare) (share : r.share = (s.oper o).share)
    (requests : ∀ z sec, also z = false → s.active z o = some sec → carrying s z o = true →
      r.sectors[sec].request = (s.sector o sec).request) : Clips s (inputChanges s u also) := by
  refine Clips.of_inputChanges power fun z quiet carry => ?_
  have whole : snapshotOf u z = snapshotOf (s.setOper o r) z := (snapshotOf_congr bare z).trans (snapshot_withSpread ..)
  have lane (q : OpNo) : carrying (s.setOper o r) z q = carrying s z q :=
    (carrying_congr (t := (s.setOper o r).withSpread c) bare.symm z q).trans (carry q)
  rw [whole]
  refine snapshot_of_lanes rfl (shares_setOper share) lane fun q carries => ?_
  by_cases h : q = o
  · subst h
    show bindingRequest (s.setOper q r) q (s.active z q) = _
    cases bound : s.active z q with
    | none => rfl
    | some sec => simpa [bindingRequest, State.sector] using requests z sec quiet bound carries
  · exact bindingRequest_local (by simp [h]) rfl

theorem setTenancy_eq (s : State) (o : OpNo) (t : Tenancy) : setTenancy s o t = s.setOper o { s.oper o with tenancy := t } := rfl

theorem fileTenancy_power (s : State) (o : OpNo) : SamePower (fileTenancy s o) s :=
  .of_eq (fileTenancy_keeps State.power (fun _ _ => rfl) ..)

theorem withdrawIf_power (s : State) (o : OpNo) (test : Proposal → Bool) (why : WithdrawCause) :
    SamePower (withdrawIf s o test why) s := .of_eq (withdrawIf_keeps State.power (fun _ _ => rfl) (fun _ _ => rfl) ..)

theorem withdraw_power (s : State) (o : OpNo) (why : WithdrawCause) : SamePower (withdraw s o why) s :=
  .of_eq (withdraw_keeps State.power (fun _ _ => rfl) (fun _ _ => rfl) ..)

/-- The state of an admission before the input changes. -/
theorem admission_start_bare (s : State) (o : OpNo) :
    (fileTenancy (setTenancy s o .active) o).bare = ((setTenancy s o .active).withSpread s.spread).bare :=
  fileTenancy_bare ..

theorem admission_clips (s : State) (o : OpNo) : Clips s (admission s o) :=
  Clips.of_operator ((fileTenancy_power ..).trans (setTenancy_power ..)) (admission_start_bare s o) rfl fun _ _ _ _ _ => rfl

/-- The state of a suspension before the input changes. -/
theorem suspension_start_bare (s : State) (o : OpNo) :
    (withdraw (fileTenancy (setTenancy s o .suspended) o) o .tenancy).bare =
      ((setTenancy s o .suspended).withSpread (closedWhere s fun q _ => decide (q = o))).bare := by
  have told := fileTenancy_bare (setTenancy s o .suspended) o
  rw [withdraw_bare, closedWhere_congr told, told]
  rfl

theorem suspension_clips (s : State) (o : OpNo) : Clips s (suspension s o) :=
  Clips.of_operator ((withdraw_power ..).trans ((fileTenancy_power ..).trans (setTenancy_power ..))) (suspension_start_bare s o) rfl
    fun _ _ _ _ _ => rfl

theorem Clips.moves_of_bare {s t : State} {o : OpNo} {r : OpRec} {c : Vector SpreadRec 4} (h : Clips s t)
    (bare : t.bare = ((s.setOper o r).withSpread c).bare) (share : r.share = (s.oper o).share) : PowerMove s t := by
  refine h.move ((State.congr_bare shares bare (fun _ => rfl)).trans ?_)
  exact shares_setOper share

theorem admission_bare (s : State) (o : OpNo) :
    (admission s o).bare = ((setTenancy s o .active).withSpread s.spread).bare := by
  rw [admission, inputChanges_bare, admission_start_bare]

theorem suspension_bare (s : State) (o : OpNo) :
    (suspension s o).bare = ((setTenancy s o .suspended).withSpread (closedWhere s fun q _ => decide (q = o))).bare := by
  rw [suspension, inputChanges_bare, suspension_start_bare]

theorem admission_move (s : State) (o : OpNo) : PowerMove s (admission s o) :=
  (admission_clips s o).moves_of_bare (admission_bare s o) rfl

theorem suspension_move (s : State) (o : OpNo) : PowerMove s (suspension s o) :=
  (suspension_clips s o).moves_of_bare (suspension_bare s o) rfl

end Sys2Proof.Machine
end

section
/-! Every command as a move of the Power Share Unit, and the two rules that follow: only the completion of a reallocation
raises a grant, and every step keeps the laws of Power Sharing. -/

namespace Sys2Proof.Machine

open Sys2Proof

/-! ## Sector tables -/

/-- The enabled field stored, and the proposal closed that a disabled sector names (R11). -/
theorem storeEnable_start_bare (s : State) (o : OpNo) (sec : SectorNo) (on : Bool) :
    (if on then s.setSector o sec { s.sector o sec with enabled := on }
      else withdrawIf (s.setSector o sec { s.sector o sec with enabled := on }) o
        (fun p => decide (p.fromSector = sec) || decide (p.toSector = sec)) .sectorDisabled).bare =
      ((s.setSector o sec { s.sector o sec with enabled := on }).withSpread (if on then s.spread else
        closedWhere s fun q p => decide (q = o) && (decide (p.fromSector = sec) || decide (p.toSector = sec)))).bare := by
  cases on with
  | true => rfl
  | false =>
    simp only [Bool.false_eq_true, if_false]
    rw [withdrawIf_bare]
    rfl

theorem setSector_eq (s : State) (o : OpNo) (sec : SectorNo) (e : SectorEntry) :
    s.setSector o sec e = s.setOper o { s.oper o with sectors := (s.oper o).sectors.set sec e } := rfl

theorem setSector_power (s : State) (o : OpNo) (sec : SectorNo) (e : SectorEntry) : SamePower (s.setSector o sec e) s :=
  ⟨rfl, rfl, rfl⟩

/-- A sector table entry replaced by one of the same request keeps every request. -/
theorem request_set {s : State} {o : OpNo} {sec x : SectorNo} {e : SectorEntry}
    (same : x = sec → e.request = (s.sector o sec).request) :
    ((s.oper o).sectors.set sec e)[x].request = (s.sector o x).request := by
  by_cases h : x = sec
  · subst h
    simpa using same rfl
  · simp [State.sector, Fin.val_ne_of_ne (Ne.symm h)]

theorem withdrawUnless_power (s : State) (on : Bool) (o : OpNo) (test : Proposal → Bool) (why : WithdrawCause) :
    SamePower (if on then s else withdrawIf s o test why) s := by
  split
  · exact .refl s
  · exact withdrawIf_power ..

theorem storeEnable_clips (s : State) (o : OpNo) (sec : SectorNo) (on : Bool) : Clips s (storeEnable s o sec on) := by
  unfold storeEnable
  split
  · exact .of_same (.refl s) fun _ => rfl
  · refine Clips.of_operator ((withdrawUnless_power ..).trans (setSector_power ..)) (storeEnable_start_bare s o sec on) rfl
      fun z x _ _ _ => ?_
    exact request_set fun _ => rfl

theorem storePower_clips (s : State) (o : OpNo) (sec : SectorNo) (n : Nat) : Clips s (storePower s o sec n) := by
  unfold storePower
  split
  · exact .of_same (.refl s) fun _ => rfl
  · refine Clips.of_operator (c := s.spread) (setSector_power ..) rfl rfl fun z x quiet bound carries => ?_
    refine request_set fun same => ?_
    subst same
    simp [bound, carries] at quiet

/-- The presence stored, reported, and the proposal closed that a stream that is DOWN was to serve (R41). -/
def presenceStored (s : State) (o : OpNo) (sec : SectorNo) (up : Bool) : State :=
  let t := s.setSector o sec { s.sector o sec with streamUp := up }
  let u := file t (.vn :: unlessAbsent t o)
    { notice t .streamChanged with operator := some o, toSector := some sec, value := some (presenceCode up) }
  if up then u else withdrawIf u o (fun p => decide (p.toSector = sec)) .streamDown

theorem streamReport_eq (s : State) (o : OpNo) (sec : SectorNo) (up : Bool) :
    streamReport s o sec up = if (s.sector o sec).streamUp = up then s else
      endEvent s (inputChanges s (presenceStored s o sec up) fun z => decide (s.active z o = some sec)) := rfl

theorem presenceStored_bare (s : State) (o : OpNo) (sec : SectorNo) (up : Bool) :
    (presenceStored s o sec up).bare =
      ((s.setSector o sec { s.sector o sec with streamUp := up }).withSpread (if up then s.spread else
        closedWhere s fun q p => decide (q = o) && decide (p.toSector = sec))).bare := by
  unfold presenceStored
  dsimp only
  cases up with
  | true =>
    simp only [if_true]
    rw [file_bare]
    rfl
  | false =>
    simp only [Bool.false_eq_true, if_false]
    have told := file_bare (s.setSector o sec { s.sector o sec with streamUp := false })
    rw [withdrawIf_bare, closedWhere_congr (told _ _), told]
    rfl

theorem file_power (s : State) (ps : List Port) (n : Notice) : SamePower (file s ps n) s :=
  .of_eq (file_keeps State.power (fun _ _ => rfl) ..)

theorem presenceStored_power (s : State) (o : OpNo) (sec : SectorNo) (up : Bool) : SamePower (presenceStored s o sec up) s :=
  (withdrawUnless_power ..).trans ((file_power ..).trans (setSector_power ..))

theorem stream_clips (s : State) (o : OpNo) (sec : SectorNo) (up : Bool) :
    Clips s (inputChanges s (presenceStored s o sec up) fun z => decide (s.active z o = some sec)) :=
  Clips.of_operator (presenceStored_power s o sec up) (presenceStored_bare s o sec up) rfl fun _ _ _ _ _ =>
    request_set fun _ => rfl

theorem storeEnable_move (s : State) (o : OpNo) (sec : SectorNo) (on : Bool) : PowerMove s (storeEnable s o sec on) := by
  unfold storeEnable
  split
  · exact .refl s
  · next new =>
    have clips := storeEnable_clips s o sec on
    rw [storeEnable, if_neg new] at clips
    exact clips.moves_of_bare ((inputChanges_bare ..).trans (storeEnable_start_bare s o sec on)) rfl

theorem storePower_move (s : State) (o : OpNo) (sec : SectorNo) (n : Nat) : PowerMove s (storePower s o sec n) := by
  unfold storePower
  split
  · exact .refl s
  · next new =>
    have clips := storePower_clips s o sec n
    rw [storePower, if_neg new] at clips
    exact clips.moves_of_bare (c := s.spread) (inputChanges_bare ..) rfl

theorem streamReport_move (s : State) (o : OpNo) (sec : SectorNo) (up : Bool) : PowerMove s (streamReport s o sec up) := by
  rw [streamReport_eq]
  split
  · exact .refl s
  · have stored := (stream_clips s o sec up).moves_of_bare ((inputChanges_bare ..).trans (presenceStored_bare s o sec up)) rfl
    exact stored.trans (endEvent_move ..)

/-! ## Shares (R123, R132) -/

theorem shareChange_queueLaw {s : State} (h : QueueLaw s) : QueueLaw (shareChange s) := by
  unfold shareChange
  generalize allZones = l
  induction l generalizing s with
  | nil => exact h
  | cons z l ih => exact ih (enqueue_queueLaw z h)

/-- A share change queues every zone and clips none (R123, R132). -/
theorem Clips.of_shareChange {s u : State} (power : SamePower u s) (budget : ∀ z, effBudget u z = effBudget s z)
    (request : ∀ z o, effRequest u z o = effRequest s z o) : Clips s (shareChange u) where
  grant z o := by
    have grants : (shareChange u).grants = u.grants := shareChange_keeps State.grants (fun _ _ => rfl) u
    have kept : (shareChange u).grant z o = u.grant z o := by simp only [State.grant, grants]
    rw [kept, power.grant, effBudget_congr (shareChange_bare u), effRequest_congr (shareChange_bare u), budget, request,
      clippedGrant_of_le (Nat.le_refl _) (Nat.le_refl _)]
  queued z _ := mem_shareChange u z
  kept z _ := mem_shareChange u z
  law h := shareChange_queueLaw (by unfold QueueLaw; rw [power.realloc]; exact h)
  flight := (shareChange_keeps State.flight (fun _ _ => rfl) u).trans power.flight

theorem effRequest_setShare (s : State) (o : OpNo) (n : Nat) (z : ZoneNo) (q : OpNo) :
    effRequest (s.setOper o { s.oper o with share := n }) z q = effRequest s z q := by
  have oper (x : OpNo) : ((s.setOper o { s.oper o with share := n }).oper x).tenancy = (s.oper x).tenancy ∧
      ((s.setOper o { s.oper o with share := n }).oper x).sectors = (s.oper x).sectors := by
    by_cases h : x = o
    · subst h; simp
    · simp [h]
  have sector (x : OpNo) (sec : SectorNo) : (s.setOper o { s.oper o with share := n }).sector x sec = s.sector x sec := by
    simp only [State.sector, (oper x).2]
  have serves (b : Option SectorNo) : bindingServes (s.setOper o { s.oper o with share := n }) q b = bindingServes s q b := by
    unfold bindingServes
    split
    · rfl
    · simp only [sector]
  refine effRequest_of_lanes ?_ fun _ => ?_
  · simp only [carrying, (oper q).1, serves]
    rfl
  · show bindingRequest (s.setOper o { s.oper o with share := n }) q (s.active z q) = _
    unfold bindingRequest
    split
    · rfl
    · simp only [sector]

theorem shares_set (s : State) (o : OpNo) (r : OpRec) : shares (s.setOper o r) = (shares s).set o r.share := by
  refine Vector.ext fun i hi => ?_
  have each (x : OpNo) : (shares (s.setOper o r))[x] = ((shares s).set o r.share)[x] := by
    have left : (shares (s.setOper o r))[x] = ((s.setOper o r).oper x).share := vec4_getElem _ x
    have right : (shares s)[x] = (s.oper x).share := vec4_getElem _ x
    rw [left]
    by_cases h : x = o
    · subst h; simp
    · rw [State.setOper_oper_ne s r h, ← right]
      simp [Fin.val_ne_of_ne (Ne.symm h)]
  exact each ⟨i, hi⟩

theorem storeShare_clips (s : State) (o : OpNo) (n : Nat) : Clips s (storeShare s o n) := by
  unfold storeShare
  split
  · exact .of_same (.refl s) fun _ => rfl
  · exact .of_shareChange (setOper_power ..) (fun _ => rfl) (effRequest_setShare s o n)

theorem storeShare_move {s : State} {o : OpNo} {n : Nat} (law : shareSumWith s o n ≤ Config.maxShare) :
    PowerMove s (storeShare s o n) := by
  have clips := storeShare_clips s o n
  refine ⟨fun z q => by rw [clips.grant]; exact (clippedGrant_le ..).1, clips.core fun before => ?_⟩
  unfold storeShare
  split
  · exact before
  · unfold ShareLaw
    rw [show shares (shareChange (s.setOper o { s.oper o with share := n })) = shares (s.setOper o { s.oper o with share := n })
      from State.congr_bare shares (shareChange_bare _) (fun _ => rfl), shares_set]
    exact law

/-! ## The release of an operator (R10) -/

theorem releaseTenancy_start_bare (s : State) (o : OpNo) :
    ∃ c, (setTenancy (if (s.oper o).tenancy = .active then withdraw s o .tenancy else s) o .absent).bare =
      ((s.setOper o { s.oper o with tenancy := .absent }).withSpread c).bare := by
  split
  · refine ⟨closedWhere s fun q _ => decide (q = o), ?_⟩
    have closed := withdraw_bare s o .tenancy
    have store (u : State) : (setTenancy u o .absent).bare =
        (u.bare).setOper o { (u.bare).oper o with tenancy := .absent } := rfl
    rw [store, closed]
    rfl
  · exact ⟨s.spread, rfl⟩

theorem releaseTenancy_power (s : State) (o : OpNo) :
    SamePower (setTenancy (if (s.oper o).tenancy = .active then withdraw s o .tenancy else s) o .absent) s := by
  refine (setTenancy_power ..).trans ?_
  split
  · exact withdraw_power ..
  · exact .refl s

theorem releaseTenancy_clips (s : State) (o : OpNo) : Clips s (releaseTenancy s o) := by
  obtain ⟨c, bare⟩ := releaseTenancy_start_bare s o
  exact Clips.of_operator (releaseTenancy_power s o) bare rfl fun _ _ _ _ _ => rfl

theorem releaseTenancy_bare (s : State) (o : OpNo) :
    ∃ c, (releaseTenancy s o).bare = ((s.setOper o { s.oper o with tenancy := .absent }).withSpread c).bare := by
  obtain ⟨c, bare⟩ := releaseTenancy_start_bare s o
  exact ⟨c, (inputChanges_bare ..).trans bare⟩

theorem releaseTenancy_move (s : State) (o : OpNo) : PowerMove s (releaseTenancy s o) := by
  obtain ⟨c, bare⟩ := releaseTenancy_bare s o
  exact (releaseTenancy_clips s o).moves_of_bare bare rfl

theorem releaseTenancy_absent (s : State) (o : OpNo) : ((releaseTenancy s o).oper o).tenancy = .absent := by
  obtain ⟨c, bare⟩ := releaseTenancy_bare s o
  rw [show (releaseTenancy s o).oper o = _ from State.congr_bare (State.oper · o) bare (fun _ => rfl)]
  show ((s.setOper o _).oper o).tenancy = .absent
  rw [State.setOper_oper]

/-- A lane of an operator that is not ACTIVE does not carry (R19). -/
theorem carrying_of_untenanted {s : State} {z : ZoneNo} {o : OpNo} (h : (s.oper o).tenancy ≠ .active) :
    carrying s z o = false := by
  simp [carrying, h]

theorem carrying_setOper_ne (s : State) {o q : OpNo} (r : OpRec) (other : q ≠ o) (z : ZoneNo) :
    carrying (s.setOper o r) z q = carrying s z q :=
  carrying_local rfl rfl rfl (State.setOper_oper_ne s r other) rfl rfl

theorem effRequest_setOper_ne (s : State) {o q : OpNo} (r : OpRec) (other : q ≠ o) (z : ZoneNo) :
    effRequest (s.setOper o r) z q = effRequest s z q :=
  effRequest_of_lanes (carrying_setOper_ne s r other z) fun _ => bindingRequest_local (State.setOper_oper_ne s r other) rfl

/-- The lanes of an ABSENT operator ask for nothing, before and after its record is reset. -/
theorem effRequest_released {s : State} {o : OpNo} (absent : (s.oper o).tenancy = .absent) (z : ZoneNo) (q : OpNo) :
    effRequest (s.setOper o (s.oper o).released) z q = effRequest s z q := by
  by_cases h : q = o
  · subst h
    rw [effRequest_of_idle (carrying_of_untenanted ?_), effRequest_of_idle (carrying_of_untenanted ?_)]
    · rw [absent]; decide
    · rw [State.setOper_oper]
      exact Tenancy.noConfusion
  · exact effRequest_setOper_ne s _ h z

theorem releaseRecord_clips {s : State} {o : OpNo} (absent : (s.oper o).tenancy = .absent) : Clips s (releaseRecord s o) := by
  unfold releaseRecord
  dsimp only
  split
  · next none =>
    refine .of_same (setOper_power ..) fun z => snapshot_ext rfl (effRequest_released absent z) (shares_setOper ?_)
    rw [none]
    rfl
  · exact .of_shareChange (setOper_power ..) (fun _ => rfl) (effRequest_released absent)

theorem releaseRecord_bare (s : State) (o : OpNo) : (releaseRecord s o).bare = (s.setOper o (s.oper o).released).bare := by
  unfold releaseRecord
  dsimp only
  split
  · rfl
  · exact shareChange_bare _

theorem sum4_set_zero_le (v : Vector Nat 4) (o : OpNo) : sum4 (v.set o 0) ≤ sum4 v := by
  refine sum4_le_sum4 fun q => ?_
  by_cases h : q = o
  · subst h; simp
  · simp [Fin.val_ne_of_ne (Ne.symm h)]

theorem releaseRecord_move {s : State} {o : OpNo} (absent : (s.oper o).tenancy = .absent) : PowerMove s (releaseRecord s o) := by
  have clips := releaseRecord_clips absent
  refine ⟨fun z q => by rw [clips.grant]; exact (clippedGrant_le ..).1, clips.core fun before => ?_⟩
  unfold ShareLaw
  rw [show shares (releaseRecord s o) = shares (s.setOper o (s.oper o).released) from
    State.congr_bare shares (releaseRecord_bare s o) (fun _ => rfl), shares_set]
  exact (sum4_set_zero_le (shares s) o).trans before

/-- A zone record without a working binding of o (R10 step 3). -/
def ZoneRec.unbound (o : OpNo) (r : ZoneRec) : ZoneRec := { r with working := r.working.set o none }

theorem releaseBindings_eq (s : State) (o : OpNo) :
    releaseBindings s o = (s.withZones (retable (fun _ r => r.unbound o) s.zones)).withLatch true := by
  unfold releaseBindings State.withLatch State.withZones ZoneRec.unbound
  rfl

theorem withZones_power (s : State) (v : Vector ZoneRec 64) : SamePower (s.withZones v) s := ⟨rfl, rfl, rfl⟩
theorem withLatch_power (s : State) (b : Bool) : SamePower (s.withLatch b) s := ⟨rfl, rfl, rfl⟩

theorem releaseBindings_move (s : State) (o : OpNo) : PowerMove s (releaseBindings s o) := by
  rw [releaseBindings_eq]
  refine .of_same ((withLatch_power ..).trans (withZones_power ..)) fun z => ?_
  have record : (retable (fun _ r => r.unbound o) s.zones)[z] = (s.zone z).unbound o := retable_getElem ..
  rw [snapshot_withLatch]
  exact snapshot_withZones (by rw [record]; rfl) (by rw [record]; rfl) (by rw [record]; rfl)

theorem releaseCounters_sharing (s : State) (o : OpNo) : (releaseCounters s o).sharing = s.sharing :=
  releaseCounters_keeps State.sharing (fun _ _ => rfl) (fun _ _ => rfl) (fun _ _ => rfl) ..

theorem releasePreview_sharing (s : State) (o : OpNo) : (releasePreview s o).sharing = s.sharing :=
  releasePreview_keeps State.sharing (fun _ _ => rfl) ..

theorem releaseNotices_sharing (s : State) (o : OpNo) : (releaseNotices s o).sharing = s.sharing :=
  releaseNotices_keeps State.sharing (fun _ _ => rfl) ..

theorem releaseAll_move (s : State) (o : OpNo) : PowerMove s (releaseAll s o) :=
  (releaseTenancy_move s o).trans ((releaseRecord_move (releaseTenancy_absent s o)).trans ((releaseBindings_move ..).trans
    ((PowerMove.of_sharing (releaseCounters_sharing ..)).trans ((PowerMove.of_sharing (releasePreview_sharing ..)).trans
      ((PowerMove.of_sharing (releaseNotices_sharing ..)).trans (latchIfStopped_move _))))))

/-! ## The alarm settings and FAULT CLEAR -/

/-- The outputs of every zone after a change of the alarm settings or records (R66, R67). -/
theorem takeAllOutputs_clips {s u : State} (power : SamePower u s) (zones : u.zones = s.zones) (links : u.links = s.links)
    (ops : u.ops = s.ops) (transport : u.transport = s.transport) (plan : u.activePlan = s.activePlan) :
    Clips s (allZones.foldl (takeOutputs s) u) := by
  have step (v : State) (z : ZoneNo) (l : List ZoneNo) (_ : z ∉ l) (h : v.bare = u.bare) : (takeOutputs s v z).bare = u.bare :=
    (takeOutputs_bare ..).trans h
  have clip (v : State) (z : ZoneNo) (l : List ZoneNo) (h : v.bare = u.bare) : ZoneClip s v z (takeOutputs s v z) := by
    refine takeOutputs_clip (.refl v) (fun _ _ => rfl) fun quiet => ?_
    exact snapshot_of_outputs quiet ((State.congr_bare State.zones h (fun _ => rfl)).trans zones) ((State.congr_bare State.links h (fun _ => rfl)).trans links)
      ((State.congr_bare State.ops h (fun _ => rfl)).trans ops) ((State.congr_bare State.transport h (fun _ => rfl)).trans transport)
      ((State.congr_bare State.activePlan h (fun _ => rfl)).trans plan)
  refine (foldl_zonesClip (P := fun v _ => v.bare = u.bare) step clip (List.nodup_finRange 64) u rfl).clips power
    fun y absent => ?_
  exact absurd (List.mem_finRange y) absent

theorem foldl_takeOutputs_bare (old : State) (l : List ZoneNo) (u : State) : (l.foldl (takeOutputs old) u).bare = u.bare :=
  foldl_keeps State.bare _ (takeOutputs_bare old) l u

/-- The mode stored and the records of its class re-entered (R66). -/
def reenterClass (s : State) (c : ClassNo) (m : ClassMode) : State :=
  (s.withModes (s.modes.set c m)).withProt (retable (fun _ recs => recs.set c (reenter m recs[c])) s.prot)

/-- Modes and protection records leave the rest of the map. -/
theorem withModes_withProt_keeps (s : State) (m : Vector ClassMode 6) (v : Vector (Vector ProtRec 6) 64) :
    let t := (s.withModes m).withProt v
    SamePower t s ∧ t.zones = s.zones ∧ t.links = s.links ∧ t.ops = s.ops ∧ t.transport = s.transport ∧
      t.activePlan = s.activePlan := ⟨⟨rfl, rfl, rfl⟩, rfl, rfl, rfl, rfl, rfl⟩

theorem changeMode_eq (s : State) (c : ClassNo) (m : ClassMode) :
    changeMode s c m = allZones.foldl (takeOutputs s) (reenterClass s c m) := by
  unfold changeMode reenterClass State.withModes State.withProt
  rfl

theorem changeMode_bare (s : State) (c : ClassNo) (m : ClassMode) : (changeMode s c m).bare = (reenterClass s c m).bare := by
  rw [changeMode_eq, foldl_takeOutputs_bare]

theorem changeMode_clips (s : State) (c : ClassNo) (m : ClassMode) : Clips s (changeMode s c m) := by
  rw [changeMode_eq]
  obtain ⟨power, zones, links, ops, transport, plan⟩ := withModes_withProt_keeps s (s.modes.set c m)
    (retable (fun _ recs => recs.set c (reenter m recs[c])) s.prot)
  exact takeAllOutputs_clips power zones links ops transport plan

theorem changeMode_move (s : State) (c : ClassNo) (m : ClassMode) : PowerMove s (changeMode s c m) :=
  (changeMode_clips s c m).move (shares_of_ops (by apply changeMode_keeps State.ops <;> intros <;> rfl))

theorem storeLevel_keeps_all (s : State) (c : ClassNo) (n : Nat) :
    SamePower (storeLevel s c n) s ∧ (storeLevel s c n).zones = s.zones ∧ (storeLevel s c n).links = s.links ∧
      (storeLevel s c n).ops = s.ops ∧ (storeLevel s c n).transport = s.transport ∧
      (storeLevel s c n).activePlan = s.activePlan := by
  unfold storeLevel
  split <;> exact ⟨⟨rfl, rfl, rfl⟩, rfl, rfl, rfl, rfl, rfl⟩

theorem level_clips (s : State) (c : ClassNo) (n : Nat) : Clips s (allZones.foldl (takeOutputs s) (storeLevel s c n)) := by
  obtain ⟨power, zones, links, ops, transport, plan⟩ := storeLevel_keeps_all s c n
  exact takeAllOutputs_clips power zones links ops transport plan

theorem level_move (s : State) (c : ClassNo) (n : Nat) : PowerMove s (allZones.foldl (takeOutputs s) (storeLevel s c n)) := by
  obtain ⟨-, -, -, ops, -, -⟩ := storeLevel_keeps_all s c n
  exact (level_clips s c n).move
    ((State.congr_bare shares (foldl_takeOutputs_bare s allZones _) (fun _ => rfl)).trans (shares_of_ops ops))

theorem clearRecord_protRec_ne (s : State) {z y : ZoneNo} {c d : ClassNo} (other : y ≠ z ∨ d ≠ c) :
    (clearRecord s z c).protRec y d = s.protRec y d := by
  have told (u : State) (v : Nat) : (fileAlarm u z c .alarmCleared v).protRec y d = u.protRec y d :=
    fileAlarm_keeps (State.protRec · y d) (fun _ _ => rfl) ..
  unfold clearRecord
  dsimp only
  split
  · rfl
  · split
    · rw [told]
      exact State.setProt_protRec_of_ne (h := other) ..
    · exact State.setProt_protRec_of_ne (h := other) ..

theorem countRetry_protRec_ne (s : State) {z y : ZoneNo} {c d : ClassNo} (other : y ≠ z ∨ d ≠ c) :
    (countRetry s z c).protRec y d = s.protRec y d := by
  have told (u : State) (v : Nat) : (fileAlarm u z c .alarmCleared v).protRec y d = u.protRec y d :=
    fileAlarm_keeps (State.protRec · y d) (fun _ _ => rfl) ..
  unfold countRetry expireRetry
  split
  · split
    · exact State.setProt_protRec_of_ne (h := other) ..
    · rw [told]
      exact State.setProt_protRec_of_ne (h := other) ..
  · rfl

/-- An operation on the records of a zone, class by class, as an operation on the zone's records alone. -/
structure ZoneRecords (f : State → ClassNo → State) (z : ZoneNo) : Prop where
  power : ∀ s c, (f s c).power = s.power
  bare : ∀ s v c, (f s c).bare.withProt v = s.bare.withProt v
  others : ∀ s y c d, y ≠ z → (f s c).protRec y d = s.protRec y d

theorem clearRecord_zoneRecords (z : ZoneNo) : ZoneRecords (fun t c => clearRecord t z c) z where
  power s c := clearRecord_keeps State.power (fun _ _ => rfl) (fun _ _ => rfl) s z c
  bare s v c := clearRecord_keeps (fun x => x.bare.withProt v) (fun _ _ => rfl) (fun _ _ => rfl) s z c
  others s _ _ _ other := clearRecord_protRec_ne s (.inl other)

theorem countRetry_zoneRecords (z : ZoneNo) : ZoneRecords (fun t c => countRetry t z c) z where
  power s c := countRetry_keeps State.power (fun _ _ => rfl) (fun _ _ => rfl) s z c
  bare s v c := countRetry_keeps (fun x => x.bare.withProt v) (fun _ _ => rfl) (fun _ _ => rfl) s z c
  others s _ _ _ other := countRetry_protRec_ne s (.inl other)

theorem ZoneRecords.foldl_bare {f : State → ClassNo → State} {z : ZoneNo} (h : ZoneRecords f z) (l : List ClassNo) (s : State) :
    (l.foldl f s).bare = s.bare.withProt (l.foldl f s).prot :=
  bare_eq_of_keeps (fun x y => x.bare.withProt y.prot) (fun _ => rfl) fun y =>
    foldl_keeps (fun x => x.bare.withProt y.prot) f (fun u c => h.bare u y.prot c) l s

/-- Such an operation followed by the zone's outputs is an event of that zone (R71, R77). -/
theorem ZoneRecords.clip {f : State → ClassNo → State} {z : ZoneNo} (h : ZoneRecords f z) (l : List ClassNo) (s : State) :
    ZoneClip s s z (takeOutputs s (l.foldl f s) z) :=
  takeOutputs_withProt_clip (.of_eq (foldl_keeps State.power f h.power l s)) (h.foldl_bare l s) fun y other c =>
    foldl_keeps (State.protRec · y c) f (fun u d => h.others u y d c other) l s

theorem clearZone_clip (s : State) (z : ZoneNo) : ZoneClip s s z (clearZone s z) := (clearRecord_zoneRecords z).clip allClasses s

theorem countZoneRetries_clip (s : State) (z : ZoneNo) : ZoneClip s s z (countZoneRetries s z) :=
  (countRetry_zoneRecords z).clip allClasses s

theorem expireRetry_clip (s : State) (z : ZoneNo) (c : ClassNo) : ZoneClip s s z (takeOutputs s (expireRetry s z c) z) := by
  refine takeOutputs_withProt_clip (v := (expireRetry s z c).prot)
    (.of_eq (expireRetry_keeps State.power (fun _ _ => rfl) (fun _ _ => rfl) ..)) ?_ fun y other d => ?_
  · exact bare_eq_of_keeps (fun x y => x.bare.withProt y.prot) (fun _ => rfl) fun y =>
      expireRetry_keeps (fun x => x.bare.withProt y.prot) (fun _ _ => rfl) (fun _ _ => rfl) ..
  · exact (fileAlarm_keeps (State.protRec · y d) (fun _ _ => rfl) ..).trans (State.setProt_protRec_of_ne (h := .inl other) ..)

theorem retryExpiry_move (s : State) (z : ZoneNo) (c : ClassNo) : PowerMove s (retryExpiry s z c) := by
  unfold retryExpiry
  split
  · exact (expireRetry_clip s z c).move.trans (endEvent_move ..)
  · exact .refl s

/-! ## The cycle start -/

theorem markedMove {s t : State} (h : PowerMove s t) (b : Bool) : PowerMove s { t with mark := b } :=
  h.trans (.of_sharing rfl)

theorem react_move (s : State) (r : Reaction) : PowerMove s (react s r) := by
  cases r with
  | latch =>
    show PowerMove s (latchReaction s)
    unfold latchReaction
    split
    · exact markedMove (takeLatch_move s) true
    · exact .refl s
  | commit =>
    show PowerMove s (commitReaction s)
    unfold commitReaction
    split
    · exact markedMove (takeCommit_move s) true
    · exact .refl s
  | fill => exact .of_sharing (fillSlots_sharing s)
  | dwell => exact countDwells_move s
  | protect =>
    show PowerMove s (if s.cycle = 0 then protectReaction s else s)
    split
    · exact foldl_powerMove (fun u z => (countZoneRetries_clip u z).move) allZones s
    · exact .refl s
  | spread =>
    show PowerMove s (if s.cycle = 0 then spreadReaction s else s)
    split
    · exact .of_sharing (spreadReaction_sharing s)
    · exact .refl s

theorem advanceCounts_sharing (s : State) : (advanceCounts s).sharing = s.sharing := by
  apply advanceCounts_keeps State.sharing <;> intros <;> rfl

theorem cycleStart_move (order : List Reaction) (s : State) : PowerMove s (cycleStart order s) :=
  (PowerMove.of_sharing (advanceCounts_sharing s)).trans (foldl_powerMove react_move _ _)

/-! ## Requests -/

theorem foldl_writeEntry_sharing (l : List RawEntry) (s : State) : (l.foldl writeEntry s).sharing = s.sharing :=
  foldl_keeps State.sharing writeEntry (fun u r => writeEntry_keeps State.sharing (fun _ _ => rfl) (fun _ _ => rfl) u r) l s

theorem readSteps_sharing (n : Nat) (s : State) : (readSteps n s).1.sharing = s.sharing :=
  readSteps_keeps State.sharing (fun _ _ => rfl) n s

theorem setPin_move (s : State) (z : ZoneNo) (b : Bool) : PowerMove s (setPin s z b) := by
  have pinned : PowerMove s (s.setZone z { s.zone z with pinned := b }) :=
    .of_same (setZone_power ..) (snapshot_setZone rfl rfl rfl)
  unfold setPin
  dsimp only
  split
  · exact pinned.trans (.of_sharing (withdrawOnZone_keeps State.sharing (fun _ _ => rfl) (fun _ _ => rfl) ..))
  · exact pinned

theorem manualMove_move (s : State) (z : ZoneNo) (o : OpNo) (b : Option SectorNo) : PowerMove s (manualMove s z o b) :=
  (PowerMove.of_sharing (workingWrite_sharing s z o b)).trans
    ((PowerMove.of_sharing (withdrawIf_sharing ..)).trans (latchIfStopped_move _))

theorem acceptProposal_move (s : State) (o : OpNo) (p : Proposal) : PowerMove s (acceptProposal s o p) :=
  (PowerMove.of_sharing (workingWrite_sharing s p.zone o (some p.toSector))).trans
    ((PowerMove.of_sharing (closeProposal_sharing ..)).trans
      ((PowerMove.of_sharing (file_sharing ..)).trans (latchIfStopped_move _)))

theorem changePolicy_move (s : State) (o : OpNo) (m : Policy) : PowerMove s (changePolicy s o m) := by
  have stored : PowerMove s (s.setOper o { s.oper o with policy := m }) :=
    .of_same (setOper_power ..) (snapshot_setOper rfl rfl rfl)
  have closed (u : State) : PowerMove u (withdraw u o .policyChanged) :=
    .of_sharing (withdraw_keeps State.sharing (fun _ _ => rfl) (fun _ _ => rfl) ..)
  have reset (u : State) (r : SpreadRec) : PowerMove u (u.setSpread o r) := .of_sharing rfl
  exact stored.trans ((closed _).trans (reset _ _))

theorem clearLoss_move (s : State) (z : ZoneNo) : PowerMove s (clearLoss s z) := setLink_move rfl

theorem live_of_idle {s : State} {z : ZoneNo} (idle : (s.link z).state = .idle) : live s z = false := by
  simp [live, idle, heard]

/-- A zone that was dark and is dark, with its outputs as they were, keeps its inputs. -/
theorem snapshot_of_dark {t u : State} {z : ZoneNo} (after : live t z = false) (before : live u z = false)
    (budget : (t.zone z).budget = (u.zone z).budget) (derates : derate t z = derate u z) (ops : t.ops = u.ops) :
    snapshotOf t z = snapshotOf u z :=
  snapshot_of_idle (carrying_of_dark after) (carrying_of_dark before) (effBudget_local budget derates) (shares_of_ops ops)

/-- The state that START leaves (R24): the counts at 0, and the IDLE link of each provisioned zone in SEARCH (R51). -/
def started (s : State) : State :=
  { s with
    transport := .running, cycle := 0, superframe := 0, firstPending := true
    links := retable (fun z r => if (s.zone z).provisioned ∧ r.state = .idle then r.toSearch else r) s.links }

theorem ownStart_eq {s : State} (stopped : s.transport = .stopped) : ownStart s = (started s, replyOf .ok) := by
  unfold ownStart
  exact if_pos stopped

theorem started_link (s : State) (z : ZoneNo) :
    (started s).link z = if (s.zone z).provisioned ∧ (s.link z).state = .idle then (s.link z).toSearch else s.link z := by
  unfold started
  exact retable_getElem ..

theorem started_sharing (s : State) : SamePower (started s) s := by
  unfold started
  exact ⟨rfl, rfl, rfl⟩

theorem started_heard (s : State) (z : ZoneNo) : heard ((started s).link z).state = heard (s.link z).state := by
  rw [started_link]
  split
  · next h => rw [h.2]; rfl
  · rfl

theorem start_move {s : State} (stopped : s.transport = .stopped) (idle : IdleLaw s) : PowerMove s (started s) := by
  have zones : (started s).zones = s.zones := by unfold started; rfl
  have dark (z : ZoneNo) : live (started s) z = false := by
    unfold live
    rw [started_heard, idle z (.inr stopped)]
    exact Bool.and_false _
  refine .of_same (started_sharing s) fun z => snapshot_of_dark (dark z) (live_of_idle (idle z (.inr stopped))) ?_ ?_ ?_
  · simp only [State.zone, zones]
  · exact derate_of_records (fun _ => by unfold started; rfl) (by unfold started; rfl) (by unfold started; rfl) (by unfold started; rfl)
  · unfold started; rfl

/-- A zone record that is provisioned, with its cells cleared (R2). -/
def provisionRecord (s : State) (z : ZoneNo) : State := clearZoneCells (s.setZone z { s.zone z with provisioned := true }) z

theorem provision_eq (s : State) (z : ZoneNo) :
    provision s z = if s.transport = .running ∧ (s.link z).state = .idle then (provisionRecord s z).setLink z (s.link z).toSearch
      else provisionRecord s z := rfl

theorem provisionRecord_move {s : State} {z : ZoneNo} (absent : (s.zone z).provisioned = false)
    (idle : (s.link z).state = .idle) : PowerMove s (provisionRecord s z) := by
  refine .of_same ((clearZoneCells_power ..).trans (setZone_power ..)) fun y => ?_
  by_cases h : y = z
  · subst h
    have zone : ((provisionRecord s y).zone y).budget = (s.zone y).budget := by
      show ((s.setZone y _).zone y).budget = _
      simp
    exact snapshot_of_dark (live_of_idle (s := provisionRecord s y) idle) (by simp [live, absent]) zone
      (derate_of_records (fun _ => rfl) rfl rfl rfl) rfl
  · exact (snapshot_setZone_ne s _ h : snapshotOf (s.setZone z _) y = snapshotOf s y)

theorem provisionRecord_link (s : State) (z y : ZoneNo) : (provisionRecord s z).link y = s.link y := by
  unfold provisionRecord clearZoneCells
  rfl

theorem provision_move {s : State} {z : ZoneNo} (absent : (s.zone z).provisioned = false) (idle : IdleLaw s) :
    PowerMove s (provision s z) := by
  have record := provisionRecord_move absent (idle z (.inl absent))
  rw [provision_eq]
  split
  · next h => exact record.trans (setLink_move (by rw [provisionRecord_link, h.2]; rfl))
  · exact record

theorem provision_grants (s : State) (z : ZoneNo) : (provision s z).grants = s.grants := by
  rw [provision_eq]
  split <;> rfl

/-- What every move of the venue does to the grants and, where the idle links are as they must be, to the laws. -/
theorem VenueMove.moves {s t : State} (h : VenueMove s t) :
    (∀ z o, t.grant z o ≤ s.grant z o) ∧ (IdleLaw s → PowerMove s t) := by
  have always {u : State} (moved : PowerMove s u) : (∀ z o, u.grant z o ≤ s.grant z o) ∧ (IdleLaw s → PowerMove s u) :=
    ⟨moved.falls, fun _ => moved⟩
  have param {u : State} (same : u.sharing = s.sharing) := always (.of_sharing same)
  cases h with
  | start stopped => exact ⟨fun z o => (by rw [ownStart_eq stopped]; exact Nat.le_of_eq (congrArg (laneGet · z o) (started_sharing s).grants)), fun idle => (by rw [ownStart_eq stopped]; exact start_move stopped idle)⟩
  | drain running =>
    refine always (.of_same ⟨rfl, rfl, rfl⟩ fun z => ?_)
    refine snapshot_of_lanes rfl rfl (fun o => ?_) fun _ _ => rfl
    simp only [carrying, running]
    rfl
  | freeze => exact always (enterStopped_move s)
  | commit => exact always (takeCommit_move s)
  | awaitCommit => exact param rfl
  | abortCommit => exact param rfl
  | window => exact param rfl
  | writeEntries l => exact param (foldl_writeEntry_sharing l s)
  | readEntries n => exact param (readSteps_sharing n s)
  | provision z absent =>
    refine ⟨fun y o => ?_, provision_move absent⟩
    simp only [State.grant, provision_grants, Nat.le_refl]
  | retire z => exact always (retire_clip s z).move
  | budget z b => exact always (storeBudget_move s z b)
  | neighbours z l => exact always (.of_same (setZone_power ..) (snapshot_setZone rfl rfl rfl))
  | pin z b => exact always (setPin_move s z b)
  | move z o b => exact always (manualMove_move s z o b)
  | admits o => exact always (admission_move s o)
  | suspend o => exact always (suspension_move s o)
  | release o => exact always (releaseAll_move s o)
  | lostLimit => exact param rfl
  | clearLosses zones => exact always (foldl_powerMove clearLoss_move zones s)
  | mode c m => exact always (changeMode_move s c m)
  | level c n => exact always (level_move s c n)
  | clearFaults zones => exact always (foldl_powerMove (fun u z => (clearZone_clip u z).move) zones s)
  | spreadTimes => exact param rfl
  | share o n _ law => exact always (storeShare_move law)
  | clearStale => exact param rfl

theorem TenantMove.moves {req : Req} {o : OpNo} {s t : State} (h : TenantMove req o s t) : PowerMove s t := by
  cases h with
  | enable sec on => exact storeEnable_move s o sec on
  | power sec n => exact storePower_move s o sec n
  | parameter r same =>
    refine .of_same (setOper_power ..) (snapshot_setOper ?_ ?_ ?_) <;> (rw [same]; try rfl)
  | policy m => exact changePolicy_move s o m
  | accept p => exact acceptProposal_move s o p
  | decline p => exact .of_sharing (declineProposal_sharing s o p)

theorem OwnerMove.moves {req : Req} {p : Port} {s t : State} (h : OwnerMove req p s t) :
    (∀ z o, t.grant z o ≤ s.grant z o) ∧ (IdleLaw s → PowerMove s t) := by
  cases h with
  | stays => exact ⟨fun _ _ => Nat.le_refl _, fun _ => .refl s⟩
  | readNotices => exact ⟨fun _ _ => Nat.le_refl _, fun _ => .of_sharing rfl⟩
  | preview => exact ⟨fun _ _ => Nat.le_refl _, fun _ => .of_sharing rfl⟩
  | venue _ moved => exact moved.moves
  | tenant o _ moved => exact ⟨moved.moves.falls, fun _ => moved.moves⟩

theorem takeWord_end_move (s : State) (z : ZoneNo) (w : Option UplinkWord) : PowerMove s (endEvent s (takeWord s z w)) :=
  (takeWord_move s z w).trans (endEvent_move ..)

theorem dwellExpiry_move (s : State) (z : ZoneNo) : PowerMove s (dwellExpiry s z) := by
  unfold dwellExpiry
  split
  · next h =>
    refine setLink_move ?_
    rw [h.2.1]
    rfl
  · exact .refl s

/-- The reset state keeps the laws. -/
theorem reset_core (s : State) : PowerCore { State.reset with pending := s.pending, edges := s.edges } := by
  have grant (z : ZoneNo) (o : OpNo) : State.reset.grant z o = 0 := by
    simp [State.grant, laneGet, State.reset]
  refine ⟨fun z => ?_, fun z o => ?_, ?_, List.nodup_nil, trivial⟩
  · show sum4 (vec4 (State.reset.grant z)) ≤ _
    rw [sum4_vec4, grant, grant, grant, grant]
    exact Nat.zero_le _
  · show State.reset.grant z o ≤ _
    rw [grant]
    exact Nat.zero_le _
  · show sum4 (shares State.reset) ≤ _
    decide

/-- A write of a port's record, or of its queue, is no move of the Power Share Unit. -/
theorem releaseSelect_sharing (s : State) (p : Port) : (releaseSelect s p).sharing = s.sharing := by
  rw [releaseSelect_eq]
  dsimp only
  split <;> rfl

/-- A frame event that writes its port or does nothing is no move of the Power Share Unit. -/
theorem portWrite_sharing {c : Prop} [Decidable c] (s : State) (p : Port) (r : PortRec) :
    (if c then s.setPort p r else s).sharing = s.sharing := by
  split <;> rfl

theorem completePreview_sharing (s : State) (p : Port) (o : OpNo) (sec : Option SectorNo) (z : ZoneNo) (n : Snapshot) :
    (completePreview s p o sec z n).sharing = s.sharing :=
  completePreview_keeps State.sharing (fun _ _ => rfl) (fun _ _ => rfl) ..

/-- The laws hold where the engine is FREE again and has arbitrated (R142). -/
theorem finishComputation_core {s : State} (core : PowerCore s) : PowerCore (finishComputation s) := by
  obtain ⟨budget, request, share, queue, -⟩ := core
  exact arbitrate_core (s := { s with flight := none }) ⟨budget, request, share, queue⟩ rfl

/-- Every command but the completion of a reallocation: no grant rises, and where the idle links are as they must be the laws
are kept. -/
theorem CommandMove.power {s t : State} (h : CommandMove s t) :
    (∀ z o, t.grant z o ≤ s.grant z o) ∧ (IdleLaw s → PowerCore s → PowerCore t) := by
  have always {u : State} (moved : PowerMove s u) : (∀ z o, u.grant z o ≤ s.grant z o) ∧
      (IdleLaw s → PowerCore s → PowerCore u) := ⟨moved.falls, fun _ => moved.core⟩
  have quiet {u : State} (same : u.sharing = s.sharing) := always (.of_sharing same)
  cases h with
  | stays => exact quiet rfl
  | reset =>
    refine ⟨fun z o => ?_, fun _ _ => reset_core s⟩
    show State.reset.grant z o ≤ _
    simp [State.grant, laneGet, State.reset]
  | selectAsserted p => exact quiet (portWrite_sharing ..)
  | selectReleased p => exact quiet (releaseSelect_sharing s p)
  | headerCompleted p => exact quiet (portWrite_sharing ..)
  | lengthRefused p => exact quiet (portWrite_sharing ..)
  | answered p rep => exact quiet rfl
  | replyStarted p => exact quiet (portWrite_sharing ..)
  | replyEnded p => exact quiet (portWrite_sharing ..)
  | @served _ p u rep frame moved =>
    obtain ⟨falls, laws⟩ := moved.moves
    have ends : PowerMove u (answer (endEvent s u) p rep) := (endEvent_move s u).trans (.of_sharing rfl)
    exact ⟨fun z o => (ends.falls z o).trans (falls z o), fun idle core => ends.core ((laws idle).core core)⟩
  | stream o sec up => exact always (streamReport_move s o sec up)
  | word z w => exact always (takeWord_end_move s z w)
  | cycle order => exact always ((cycleStart_move order s).trans (endEvent_move ..))
  | drained => exact always ((enterStopped_move s).trans (endEvent_move ..))
  | dwelt z => exact always (dwellExpiry_move s z)
  | retried z c => exact always (retryExpiry_move s z c)
  | expired o p => exact quiet (expireProposal_sharing s o p)
  | evaluated o => exact quiet (runEvaluation_sharing s o)
  | previewed p o q sec z n inFlight =>
    have held := PowerMove.of_sharing (completePreview_sharing s p o sec z n)
    refine ⟨fun y q => ?_, fun _ core => finishComputation_core (held.core core)⟩
    have grants : (finishComputation (completePreview s p o sec z n)).grants = (completePreview s p o sec z n).grants :=
      finishComputation_keeps State.grants (fun _ _ => rfl) (fun _ _ => rfl) (fun _ _ => rfl) (fun _ _ => rfl) (fun _ _ => rfl) ..
    rw [State.grant, grants]
    exact held.falls y q
  | markEnded => exact quiet rfl

/-- Settles O53: every command but that completion is a move of the Power Share Unit, in which no grant rises. -/
theorem onlyAllocationRaisesGrants : Obligations.OnlyAllocationRaisesGrants := by
  intro i s other
  obtain ⟨t, executes, moved⟩ := exec_move other s
  exact ⟨t, executes, moved.power.1⟩

end Sys2Proof.Machine
end

section
/-! Operands of requests, RSTn, the events that cannot occur, and the requests that write one record: O14, O15, O18, O19, O28,
O36. -/

namespace Sys2Proof.Machine

open Sys2Proof

/-! ## Operands (section 11.1) -/

theorem numBelow_of_val {n : Nat} {b : Byte} {k : Fin n} (h : b.toNat = k.val) : numBelow n b = some k := by
  simp [numBelow, h]

theorem numBelow_ofNat {n : Nat} (bytes : n ≤ 256) (k : Fin n) : numBelow n (BitVec.ofNat 8 k.val) = some k :=
  numBelow_of_val ((BitVec.toNat_ofNat ..).trans (Nat.mod_eq_of_lt (lt_of_lt_of_le k.isLt bytes)))

theorem numBelow_of_above {n : Nat} {b : Byte} (h : n ≤ b.toNat) : numBelow n b = none := dif_neg (Nat.not_lt.mpr h)

@[simp] theorem numBelow_zone (z : ZoneNo) : numBelow 64 (BitVec.ofNat 8 z.val) = some z := numBelow_ofNat (by decide) z
@[simp] theorem numBelow_operator (o : OpNo) : numBelow 4 (BitVec.ofNat 8 o.val) = some o := numBelow_ofNat (by decide) o
@[simp] theorem numBelow_sector (sec : SectorNo) : numBelow 8 (BitVec.ofNat 8 sec.val) = some sec := numBelow_ofNat (by decide) sec
@[simp] theorem numBelow_class (c : ClassNo) : numBelow 6 (BitVec.ofNat 8 c.val) = some c := numBelow_ofNat (by decide) c

@[simp] theorem namedZone_u8 (z : ZoneNo) : namedZone (u8 z.val) = some z := numBelow_zone z

theorem num16_u16 {n : Nat} (range : n ≤ 65535) : num16 (BitVec.ofNat 8 (n / 256)) (BitVec.ofNat 8 n) = n := by
  simp only [num16, BitVec.toNat_ofNat]
  omega

theorem num32_u32 {n : Nat} (range : n < 2 ^ 32) :
    num32 (BitVec.ofNat 8 (n / 16777216)) (BitVec.ofNat 8 (n / 65536)) (BitVec.ofNat 8 (n / 256)) (BitVec.ofNat 8 n) = n := by
  simp only [num32, BitVec.toNat_ofNat]
  omega

@[simp] theorem yesNo_flag (b : Bool) : yesNo (BitVec.ofNat 8 (if b then 1 else 0)) = some b := by cases b <;> rfl

theorem zoneOrAll_of {b : Byte} {zones : List ZoneNo}
    (h : b = 0xFF ∧ zones = List.finRange 64 ∨ ∃ z : ZoneNo, b.toNat = z.val ∧ zones = [z]) : zoneOrAll b = some zones := by
  rcases h with ⟨rfl, rfl⟩ | ⟨z, byte, rfl⟩
  · rfl
  · have other : b ≠ 0xFF := by
      rintro rfl
      have := z.isLt
      simp at byte
      omega
    rw [zoneOrAll, if_neg other, numBelow_of_val byte]
    rfl

/-! ## Requests that are taken -/

theorem next_congr {t u : State} (h : t = u) : (Host.Outcome.next t : Host.Outcome State Fault Refusal) = .next u := congrArg _ h

theorem answered_congr {s : State} {p : Port} {l l' : List Byte} (h : l = l') :
    (Host.Outcome.next (answer s p (replyWith l)) : Host.Outcome State Fault Refusal) = .next (answer s p (replyWith l')) := by
  rw [h]

/-- A taken request is answered after the event of its owner's state (R142, R173). -/
theorem exec_of_owner {r : Req} {s u : State} {p : Port} {payload : List Byte} {rep : Reply} (h : FrameIn s p)
    (ht : testsBeforeOwner s p r payload.length = none) (ho : ownerOf r p payload s = (u, rep)) :
    exec (r.toInstr p payload) s = .next (answer (endEvent s u) p rep) := by
  rw [exec_toInstr, serve_taken h ht, ho]

/-- A request in its venue form whose owner brings no work. -/
theorem exec_vn_of_owner_quiet {r : Req} {s u : State} {payload : List Byte} {rep : Reply} {lens : List Nat} (h : FrameIn s .vn)
    (hl : venueLengths r = some lens) (hn : lens.contains payload.length = true) (ho : ownerOf r .vn payload s = (u, rep))
    (hq : u.realloc = s.realloc) (hp : u.previews = s.previews) :
    exec (r.toInstr .vn payload) s = .next (answer u .vn rep) := exec_of_owner_quiet h (tests_vn hl hn) ho hq hp

/-- A request in its venue form whose owner only replies. -/
theorem exec_vn_of_owner_only_replies {r : Req} {s : State} {payload : List Byte} {rep : Reply} {lens : List Nat}
    (h : FrameIn s .vn) (hl : venueLengths r = some lens) (hn : lens.contains payload.length = true)
    (ho : ownerOf r .vn payload s = (s, rep)) : exec (r.toInstr .vn payload) s = .next (answer s .vn rep) :=
  exec_of_owner_replies h (tests_vn hl hn) ho

/-! ## RSTn -/

/-- Settles O18: each table of the state after RSTn holds one value in every entry. -/
theorem resetEstablishesValues : Obligations.ResetEstablishesValues := by
  intro s
  refine ⟨_, rfl, rfl, rfl, ?_, fun z => ?_, fun o => ?_, ?_, fun spoke n => ?_, fun p => ?_, rfl⟩
  · exact ⟨rfl, rfl, rfl, rfl, rfl, rfl, rfl, rfl, rfl, rfl, rfl, rfl, rfl, rfl, rfl, rfl, rfl⟩
  · refine ⟨?_, ?_, fun c => ?_, fun o => ⟨?_, ?_, ?_, ?_⟩⟩
    · simp [State.zone, State.reset]; rfl
    · simp [State.link, State.reset]; rfl
    · simp [State.protRec, State.reset]; rfl
    · simp [State.cell, laneGet, State.reset]
    · simp [State.settleCount, laneGet, State.reset]
    · simp [State.grant, laneGet, State.reset]
    · simp [State.isShort, laneGet, State.reset]
  · have record : State.reset.oper o = OpRec.reset := by simp [State.oper, State.reset]
    have spreads : State.reset.spreadRec o = SpreadRec.reset := by simp [State.spreadRec, State.reset]
    have sector (sec : SectorNo) : OpRec.reset.sectors[sec] = SectorEntry.reset := by simp [OpRec.reset]
    refine ⟨?_, ?_, ?_, ?_, ?_, ?_, ?_, ?_, ?_, fun sec => (congrArg (fun r : OpRec => r.sectors[sec]) record).trans (sector sec), spreads⟩
    all_goals exact (congrArg _ record).trans rfl
  · exact ⟨rfl, rfl, rfl, rfl, rfl, rfl⟩
  · refine ⟨?_, ?_, ?_⟩
    · simp [State.shadow, State.reset]; rfl
    · simp [State.workEntry, State.reset]; rfl
    · simp [State.workEntry, State.activeEntry, State.reset]
  · have record : State.reset.port p = PortRec.reset := by simp [State.port, State.reset]
    refine ⟨?_, ?_, ?_⟩
    · simp [State.noticeQueue, State.reset]
    · simp [State.previewSlot, State.reset]
    · exact ⟨congrArg PortRec.frame record, congrArg PortRec.frameErr record, congrArg PortRec.replyCut record,
        congrArg PortRec.reply record⟩

/-! ## Events that cannot occur (log entry 2) -/

theorem counted_of_idle {s : State} {o : OpNo} (h : ¬ Tenant s o ∨ (s.oper o).policy = .fixed) : counted s o = false := by
  unfold Tenant at h
  unfold counted
  rcases h with h | h <;> simp [h]

theorem linkWord_of_deaf {s : State} {z : ZoneNo} (good : Bool) (h : (s.link z).state = .idle ∨ (s.link z).state = .lost) :
    linkWord s z good = s := by
  unfold linkWord
  rcases h with h | h <;> rw [h]

theorem live_of_deaf {s : State} {z : ZoneNo} (h : (s.link z).state = .idle ∨ (s.link z).state = .lost) : live s z = false := by
  unfold live
  rcases h with h | h <;> rw [h] <;> exact Bool.and_false _

/-- A word of a link that is IDLE or LOST is discarded (R51, R55). -/
theorem takeWord_of_deaf {s : State} {z : ZoneNo} (w : Option UplinkWord)
    (h : (s.link z).state = .idle ∨ (s.link z).state = .lost) : takeWord s z w = s := by
  unfold takeWord
  rw [linkWord_of_deaf _ h, live_of_deaf h]
  cases w <;> rfl

theorem expiring_of_open {s : State} {o : OpNo} (h : ∀ p, (s.spreadRec o).proposal = some p → 1 < p.remaining) :
    expiring s o = none := by
  unfold expiring
  split
  · next p hp => exact if_neg (Nat.not_le.mpr (h p hp))
  · rfl

theorem proposalExpiry_of_stopped {s : State} (stopped : s.transport = .stopped) (o : OpNo) : proposalExpiry s o = s := by
  unfold proposalExpiry
  split
  · exact if_pos stopped
  · rfl

/-- Settles O36: each event's guard fails. -/
theorem eventsOutOfPlaceChangeNothing : Obligations.EventsOutOfPlaceChangeNothing := by
  intro s
  refine ⟨fun r p payload closed => ?request, fun stopped => ?stopped, fun spoke pos word deaf => ?word, fun counts early => ?drain,
    fun free => ?free, fun z early => ?dwell, fun z c early => ?retry, fun o => ⟨fun opened => ?expiry, fun idle => ?evaluation⟩⟩
  case request => rw [exec_toInstr, serve_closed closed]
  case stopped =>
    refine ⟨next_congr (if_neg ?_), fun _ => next_congr (if_pos stopped), fun _ => next_congr (if_neg ?_),
      fun _ _ => next_congr (if_neg ?_), fun o => ⟨next_congr (proposalExpiry_of_stopped stopped o), next_congr (if_neg ?_)⟩⟩
    all_goals simp [stopped]
  case word =>
    refine next_congr ?_
    unfold uplinkSlot
    dsimp only
    split
    · next taken =>
      obtain ⟨runs, present⟩ := taken
      rw [takeWord_of_deaf _ (by simpa [runs, present] using deaf), endEvent_self]
    · rfl
  case drain =>
    refine next_congr (if_neg ?_)
    have below : ¬ Config.lastCycle ≤ s.cycle := Nat.not_le.mpr early
    simp [superframeBoundary, counts, below]
  case free => exact ⟨by simp only [exec, execReallocationCompletion, reallocationCompletes, free],
    by simp only [exec, execPreviewCompletion, previewCompletes, free]⟩
  case dwell =>
    refine next_congr (if_neg ?_)
    rintro ⟨-, lost, due⟩
    exact early.elim (· lost) fun h => absurd due (Nat.not_le.mpr (Nat.succ_lt_succ h))
  case retry =>
    refine next_congr (if_neg ?_)
    rintro ⟨-, due⟩
    unfold retryDue at due
    split at due
    · next left recovering => exact absurd (early left recovering) (by simpa using due)
    · cases due
  case expiry =>
    refine next_congr ?_
    rw [proposalExpiry, expiring_of_open opened]
  case evaluation =>
    refine next_congr (if_neg ?_)
    rintro ⟨-, counts, due⟩
    rw [← or_assoc] at idle
    rcases idle with idle | early
    · exact absurd counts (by simp [counted_of_idle idle])
    · exact absurd early (Nat.not_lt.mpr due)

/-! ## Requests that write one record -/

/-- Settles O15: the bounds are decoded and compared. -/
theorem planWindowSet : Obligations.PlanWindowSet := by
  intro s a b c d frame
  refine ⟨fun fs ls fe le ha hb hc hd spokes entries => ?_, fun bad => ?_⟩
  · refine exec_vn_of_owner_quiet (r := .setPlanWindow) frame rfl rfl ?_ rfl rfl
    simp only [ownerOf, ownSetPlanWindow, numBelow_of_val ha, numBelow_of_val hb, numBelow_of_val hc, numBelow_of_val hd,
      spokes, entries, and_self, if_true]
  · refine exec_vn_of_owner_only_replies (r := .setPlanWindow) frame rfl rfl ?_
    simp only [ownerOf, ownSetPlanWindow]
    split
    · next fs ls fe le ha hb hc hd =>
      have ha := numBelow_val ha
      have hb := numBelow_val hb
      have hc := numBelow_val hc
      have hd := numBelow_val hd
      refine if_neg ?_
      rintro ⟨spokes, entries⟩
      rw [Fin.le_def] at spokes entries
      omega
    · rfl

/-- A slot of READ ENGINE on VN: its state and whether it is cancelled (R152). -/
theorem slotBytes_eq (e : Option PreviewSlot) : slotBytes e = match e with
    | none => [0, 0]
    | some e => if e.running then [2] ++ flagByte e.cancelled else [1, 0] := by
  cases e with
  | none => rfl
  | some e =>
    unfold slotBytes slotCode
    cases hr : e.running <;> simp [hr] <;> rfl

theorem flightBytes_eq (c : Option Computation) :
    u8 (if c.isSome then 1 else 0) ++ flightBytes c = match c with
      | none => [0, 0, 0, 0, 0]
      | some { kind := .reallocation, zone := z, snapshot := _ } => [1, 1, 0] ++ u8 z.val ++ [0]
      | some { kind := .preview p _ _ _, zone := z, snapshot := _ } => [1, 1, 1] ++ u8 z.val ++ u8 (portNumber p).val := by
  match c with
  | none => rfl
  | some { kind := .reallocation, zone := _, snapshot := _ } => rfl
  | some { kind := .preview _ _ _ _, zone := _, snapshot := _ } => rfl

/-- Settles O14: the fields of R152 in their order. -/
theorem readEngineReply : Obligations.ReadEngineReply := by
  intro s
  refine ⟨fun frame clear => ?_, fun o frame tenant => ?_⟩
  · have owner : ownReadEngine .vn (flagByte clear) s =
        ({ s with stale := if clear then 0 else s.stale }, replyWith (enginePayload s)) := by
      cases clear <;> rfl
    refine (exec_vn_of_owner_quiet (r := .readEngine) (payload := flagByte clear) frame rfl rfl owner rfl rfl).trans ?_
    refine answered_congr ?_
    unfold enginePayload engineBusy
    refine congrArg₂ (· ++ ·) (congrArg₂ (· ++ ·) (congrArg₂ (· ++ ·) (congrArg₂ (· ++ ·) (congrArg₂ (· ++ ·) ?_ rfl) rfl) rfl)
      (congrArg (fun f => List.flatMap f allPorts) (funext fun p => slotBytes_eq _))) rfl
    exact flightBytes_eq s.flight
  · have owner : ownReadEngine (.op o) [] s = (s, replyWith (ownSlotBytes (s.previewSlot (.op o)))) := rfl
    refine (exec_op_of_owner_replies (r := .readEngine) frame tenant rfl owner).trans ?_
    refine answered_congr ?_
    cases hp : s.previewSlot (.op o) with
    | none => rfl
    | some e => cases hr : e.running <;> simp [ownSlotBytes, slotCode, hr] <;> rfl

/-- Settles O19: each step of R2 writes one entry of its table. -/
theorem provisionZoneProvisions : Obligations.ProvisionZoneProvisions := by
  intro s z frame
  refine ⟨fun present => ?_, fun absent => ?_⟩
  · refine exec_vn_of_owner_only_replies (r := .provisionZone) frame rfl rfl ?_
    simp only [ownerOf, ownProvisionZone, namedZone_u8, present, if_true]
    rfl
  · have owner : ownProvisionZone (u8 z.val) s = (provision s z, replyOf .ok) := by
      simp only [ownProvisionZone, namedZone_u8, absent]
      rfl
    refine (exec_vn_of_owner_quiet (r := .provisionZone) frame rfl rfl owner ?_ ?_).trans ?_
    all_goals rw [provision_eq]
    · split <;> rfl
    · split <;> rfl
    · split <;> rfl

/-- Settles O28: START, STOP and FREEZE by the transport's state. -/
theorem transportStartedAndStopped : Obligations.TransportStartedAndStopped := by
  intro s
  refine ⟨rfl, fun frame => ⟨fun runs => ?_, fun stopped => ?_, ?_, fun stopped => ?_⟩⟩
  · exact exec_vn_of_owner_replies (r := .start) frame rfl (if_neg runs)
  · exact exec_vn_of_owner_quiet (r := .start) frame rfl rfl (ownStart_eq stopped) rfl rfl
  · refine exec_vn_of_owner_quiet (r := .stop) frame rfl rfl ?_ rfl rfl
    simp only [ownerOf, ownStop]
    split <;> rfl
  · refine exec_vn_of_owner_replies (r := .freeze) frame rfl ?_
    simp only [ownerOf, ownFreeze, stopped, if_true]

end Sys2Proof.Machine
end

section
/-! The requests that store parameters, neighbour lists and pins, and the numbers above their range: O22, O27, O45. -/

namespace Sys2Proof.Machine

open Sys2Proof

/-! ## Parameters (R50, R61, R88, R99 to R103) -/

theorem clearLoss_eq (s : State) (z : ZoneNo) : clearLoss s z = s.withLinks (s.links.set z { s.link z with loss := 0 }) := rfl

theorem foldl_clearLoss_eq (l : List ZoneNo) (s : State) : l.foldl clearLoss s = s.withLinks (l.foldl clearLoss s).links := by
  induction l generalizing s with
  | nil => rfl
  | cons z l ih =>
    rw [List.foldl_cons, ih, clearLoss_eq]
    rfl

theorem foldl_clearLoss_link (l : List ZoneNo) (s : State) (z : ZoneNo) :
    (l.foldl clearLoss s).link z = if z ∈ l then { s.link z with loss := 0 } else s.link z := by
  induction l generalizing s with
  | nil => simp
  | cons y l ih =>
    rw [List.foldl_cons, ih]
    by_cases h : z = y
    · subst h
      simp [clearLoss]
    · simp [clearLoss, h]

theorem clampTo_eq {lo hi : Nat} (h : lo ≤ hi) (n : Nat) : clampTo lo hi n = if n < lo then lo else if hi < n then hi else n := by
  unfold clampTo
  split
  · omega
  · split <;> omega

theorem okOrClamped_eq (given stored : Nat) : okOrClamped given stored = replyOf (if stored = given then .ok else .clamped) := by
  simp only [okOrClamped, eq_comm]

theorem clampTo_one_eq (n : Nat) : clampTo 1 Config.filterOne n = if n = 0 then 1 else if 4096 < n then 4096 else n := by
  rw [clampTo_eq (by decide)]
  simp only [Nat.lt_one_iff]
  rfl

/-- A stored operator parameter: an operator form whose owner writes one field of the operator's record. -/
theorem exec_op_of_owner_stores {r : Req} {s : State} {o : OpNo} {payload : List Byte} {rep : Reply} {rec : OpRec}
    (h : FrameIn s (.op o)) (ha : Tenant s o) (hl : operatorLengths r = some [payload.length])
    (ho : ownerOf r (.op o) payload s = (s.setOper o rec, rep)) :
    exec (r.toInstr (.op o) payload) s = .next (answer (s.setOper o rec) (.op o) rep) :=
  exec_op_of_owner_quiet h ha hl ho rfl rfl

theorem ownSetThresholds_u32 {s : State} {o : OpNo} {h l : Nat} (hh : h < 2 ^ 32) (hl : l < 2 ^ 32) :
    ownSetThresholds o (u32 h ++ u32 l) s =
      if Config.maxLoad < h ∨ Config.maxLoad < l then refuse s .outOfRange
      else if h ≤ l then refuse s .thresholdOrder
      else (s.setOper o { s.oper o with high := h, low := l }, replyOf .ok) := by
  simp only [ownSetThresholds, u32, List.cons_append, List.nil_append, num32_u32 hh, num32_u32 hl]

theorem silenceOfCode_of_above {b : Byte} (h : 1 < b.toNat) : silenceOfCode b = none := by
  unfold silenceOfCode
  split
  · omega
  · omega
  · rfl

/-- Settles O45: each owner stores what it decodes, clamped. -/
theorem parametersStored : Obligations.ParametersStored := by
  intro s
  refine ⟨fun frame => ⟨fun b => ?lost, fun a b ha hb => ?spreadTimes, fun b zones named => ?losses⟩,
    fun o frame tenant => ⟨fun n range => ?values, ⟨?_, ?_, fun b above => ?badMode⟩, fun h l hh hl => ?thresholds⟩⟩
  case lost =>
    dsimp only
    have clamped : (if b.toNat < 2 then 2 else if 32 < b.toNat then 32 else b.toNat) =
        clampTo Config.minLostLimit Config.maxLostLimit b.toNat := (clampTo_eq (by decide) _).symm
    rw [clamped, ← okOrClamped_eq]
    exact exec_vn_of_owner_quiet (r := .setLostLimit) frame rfl rfl rfl rfl rfl
  case spreadTimes =>
    refine exec_vn_of_owner_quiet (r := .setSpreadTimes) (payload := u16 a ++ u16 b) frame rfl rfl ?_ rfl rfl
    simp only [ownerOf, ownSetSpreadTimes, u16, List.cons_append, List.nil_append]
    rw [num16_u16 ha, num16_u16 hb]
  case losses =>
    have owner : ownResetLossCount [b] s = (zones.foldl clearLoss s, replyOf .ok) := by
      simp only [ownResetLossCount, zoneOrAll_of named]
    have links : (zones.foldl clearLoss s).links =
        Vector.ofFn fun z => if z ∈ zones then { s.link z with loss := 0 } else s.link z := by
      refine Vector.ext fun i hi => ?_
      rw [Vector.getElem_ofFn]
      exact foldl_clearLoss_link zones s ⟨i, hi⟩
    rw [foldl_clearLoss_eq, links] at owner
    exact exec_vn_of_owner_quiet (r := .resetLossCount) frame rfl rfl owner rfl rfl
  case values =>
    have value : num16 (BitVec.ofNat 8 (n / 256)) (BitVec.ofNat 8 n) = n := num16_u16 range
    dsimp only
    rw [← clampTo_one_eq]
    refine ⟨?_, ?_, ?_⟩
    · refine exec_op_of_owner_stores (r := .setFilterWeight) (payload := u16 n) frame tenant rfl ?_
      simp only [ownerOf, withOperator, ownSetFilterWeight, u16, value]
      rfl
    · refine exec_op_of_owner_stores (r := .setEvaluationPeriod) (payload := u16 n) frame tenant rfl ?_
      simp only [ownerOf, withOperator, ownSetEvaluationPeriod, u16, value]
      rfl
    · refine exec_op_of_owner_stores (r := .setProposalWindow) (payload := u16 n) frame tenant rfl ?_
      simp only [ownerOf, withOperator, ownSetProposalWindow, u16, value]
      rfl
  case refine_1 => exact exec_op_of_owner_stores (r := .setSilenceRule) frame tenant rfl rfl
  case refine_2 => exact exec_op_of_owner_stores (r := .setSilenceRule) frame tenant rfl rfl
  case badMode =>
    refine exec_op_of_owner_only_replies (r := .setSilenceRule) frame tenant rfl ?_
    simp only [ownerOf, withOperator, ownSetSilenceRule, silenceOfCode_of_above above]
    rfl
  case thresholds =>
    have owner : ownerOf .setThresholds (.op o) (u32 h ++ u32 l) s = _ := ownSetThresholds_u32 hh hl
    change _ = if Config.maxLoad < h ∨ Config.maxLoad < l then _ else _
    split at owner
    · exact (exec_op_of_owner_only_replies (r := .setThresholds) frame tenant rfl owner).trans (by rw [if_pos ‹_›])
    · rw [if_neg ‹_›]
      split at owner
      · exact (exec_op_of_owner_only_replies (r := .setThresholds) frame tenant rfl owner).trans (by rw [if_pos ‹_›])
      · exact (exec_op_of_owner_stores (r := .setThresholds) frame tenant rfl owner).trans (by rw [if_neg ‹_›])

/-! ## Neighbour lists (R5) -/

theorem byte_of_numBelow {n : Nat} {b : Byte} {k : Fin n} (h : numBelow n b = some k) : b = BitVec.ofNat 8 k.val := by
  rw [← numBelow_val h]
  simp

theorem zoneList_bytes (l : List ZoneNo) : zoneList (l.map fun n => BitVec.ofNat 8 n.val) = some l := by
  induction l with
  | nil => rfl
  | cons z l ih => simp [zoneList, ih]

theorem bytes_of_zoneList {list : List Byte} {l : List ZoneNo} (h : zoneList list = some l) :
    list = l.map fun n => BitVec.ofNat 8 n.val := by
  induction list generalizing l with
  | nil =>
    cases h
    rfl
  | cons b list ih =>
    simp only [zoneList, Option.bind_eq_some_iff, Option.map_eq_some_iff] at h
    obtain ⟨z, byte, l', rest, rfl⟩ := h
    rw [List.map_cons, byte_of_numBelow byte, ih rest]

theorem goodNeighbours_iff {z : ZoneNo} {l : List ZoneNo} : goodNeighbours z l = true ↔ l.length ≤ 4 ∧ l.Nodup ∧ z ∉ l := by
  simp only [goodNeighbours, Bool.and_eq_true, decide_eq_true_eq, Bool.not_eq_true', List.contains_eq_mem, decide_eq_false_iff_not, and_assoc]
  rfl

theorem neighbourLengths {list : List Byte} (h : list.length ≤ 8) :
    ([1, 2, 3, 4, 5, 6, 7, 8, 9] : List Nat).contains (list.length + 1) = true := by
  interval_cases list.length <;> rfl

/-! ## Pins (R6) -/

/-- The state with other notice queues. -/
def State.withNotices (s : State) (v : Vector NoticeQueue 5) : State := { s with notices := v }

theorem withSpread_withNotices_self (s : State) : (s.withSpread s.spread).withNotices s.notices = s := rfl

/-- The withdrawals on a zone write the Spread Engine's states and the queues alone. -/
theorem withdrawOnZone_eq (s : State) (z : ZoneNo) (why : WithdrawCause) :
    withdrawOnZone s z why =
      (s.withSpread (closedWhere s fun _ p => decide (p.zone = z))).withNotices (withdrawOnZone s z why).notices := by
  have spread : (withdrawOnZone s z why).spread = closedWhere s fun _ p => decide (p.zone = z) :=
    congrArg State.spread (withdrawOnZone_bare s z why)
  have frame (c : Vector SpreadRec 4) (q : Vector NoticeQueue 5) :
      ((withdrawOnZone s z why).withSpread c).withNotices q = (s.withSpread c).withNotices q :=
    withdrawOnZone_keeps (fun t => (t.withSpread c).withNotices q) (fun _ _ => rfl) (fun _ _ => rfl) s z why
  rw [← spread]
  exact (withSpread_withNotices_self _).symm.trans (frame ..)

/-- What PIN ZONE leaves in the Spread Engine: a pin that was not set before closes the proposals on the zone (R6). -/
def pinnedSpread (s : State) (z : ZoneNo) (pin : Bool) : Vector SpreadRec 4 :=
  if pin = true ∧ (s.zone z).pinned = false then closedWhere s fun _ p => decide (p.zone = z) else s.spread

theorem setPin_eq (s : State) (z : ZoneNo) (pin : Bool) :
    setPin s z pin =
      ((s.setZone z { s.zone z with pinned := pin }).withSpread (pinnedSpread s z pin)).withNotices (setPin s z pin).notices := by
  unfold setPin pinnedSpread
  dsimp only
  split
  · exact withdrawOnZone_eq ..
  · rfl

theorem setPin_of_pinned {s : State} {z : ZoneNo} {pin : Bool} (h : pin = false ∨ (s.zone z).pinned = true) :
    setPin s z pin = s.setZone z { s.zone z with pinned := pin } := by
  refine if_neg ?_
  rintro ⟨up, new⟩
  simp [up, new] at h

theorem ownPinZone_flag (s : State) (z : ZoneNo) (pin : Bool) :
    ownPinZone (u8 z.val ++ flagByte pin) s =
      if (s.zone z).provisioned then (setPin s z pin, replyOf .ok)
      else if pin then refuse s .badState else (s, replyOf .ok) := by
  simp only [ownPinZone, u8, flagByte, List.cons_append, List.nil_append, numBelow_zone, yesNo_flag]

/-- Settles O22: the list is decoded and tested, the pin is written and the proposals closed. -/
theorem neighboursAndPinStored : Obligations.NeighboursAndPinStored := by
  intro s z frame
  refine ⟨fun list short => ⟨fun l bytes few once other => ?list, fun bad => ?badList⟩, fun absent => ⟨?badPin, ?noPin⟩,
    fun present => ⟨?unpin, ?pin⟩⟩
  case list =>
    refine exec_vn_of_owner_quiet (r := .setNeighbours) (payload := u8 z.val ++ list) frame rfl (neighbourLengths short) ?_ rfl rfl
    have good : goodNeighbours z l = true := goodNeighbours_iff.mpr ⟨few, once, other⟩
    simp only [ownerOf, ownSetNeighbours, u8, List.cons_append, List.nil_append, numBelow_zone, bytes, zoneList_bytes, good, if_true]
  case badList =>
    refine exec_vn_of_owner_only_replies (r := .setNeighbours) (payload := u8 z.val ++ list) frame rfl (neighbourLengths short) ?_
    simp only [ownerOf, ownSetNeighbours, u8, List.cons_append, List.nil_append, numBelow_zone]
    split
    · rfl
    · next l decoded =>
      have bytes := bytes_of_zoneList decoded
      have notGood : ¬ goodNeighbours z l = true := fun good => bad ⟨l, bytes, goodNeighbours_iff.mp good⟩
      rw [if_neg notGood]
      rfl
  case badPin =>
    refine exec_vn_of_owner_only_replies (r := .pinZone) (payload := u8 z.val ++ [1]) frame rfl rfl ?_
    refine (ownPinZone_flag s z true).trans ?_
    simp [absent, refuse]
  case noPin =>
    refine exec_vn_of_owner_only_replies (r := .pinZone) (payload := u8 z.val ++ [0]) frame rfl rfl ?_
    refine (ownPinZone_flag s z false).trans ?_
    simp [absent]
  case unpin =>
    refine exec_vn_of_owner_quiet (r := .pinZone) (payload := u8 z.val ++ [0]) frame rfl rfl ?_ rfl rfl
    refine (ownPinZone_flag s z false).trans ?_
    rw [if_pos present, setPin_of_pinned (.inl rfl)]
  case pin =>
    have owner : ownPinZone (u8 z.val ++ [1]) s = (setPin s z true, replyOf .ok) :=
      (ownPinZone_flag s z true).trans (if_pos present)
    have ports : (setPin s z true).ports = s.ports :=
      setPin_keeps State.ports (fun _ _ => rfl) (fun _ _ => rfl) (fun _ _ => rfl) ..
    have realloc : (setPin s z true).realloc = s.realloc :=
      setPin_keeps State.realloc (fun _ _ => rfl) (fun _ _ => rfl) (fun _ _ => rfl) ..
    have previews : (setPin s z true).previews = s.previews :=
      setPin_keeps State.previews (fun _ _ => rfl) (fun _ _ => rfl) (fun _ _ => rfl) ..
    refine ⟨answer (setPin s z true) .vn (replyOf .ok),
      exec_vn_of_owner_quiet (r := .pinZone) (payload := u8 z.val ++ [1]) frame rfl rfl owner realloc previews,
      answers_answer ports, ?_, fun pinned => ?_⟩
    · have spread : pinnedSpread s z true =
          if (s.zone z).pinned then s.spread else closedWhere s fun _ p => decide (p.zone = z) := by
        unfold pinnedSpread
        cases (s.zone z).pinned <;> rfl
      rw [← spread]
      exact congrArg (fun t => { t with ports := (answer (setPin s z true) .vn (replyOf .ok)).ports }) (setPin_eq s z true)
    · rw [setPin_of_pinned (.inr pinned)]
      rfl

/-! ## Numbers above their range (R173)

Each owner of a request that begins with a number tests that number before anything else; a request has the payload's length
that its form takes. -/

section Above

variable {s : State} {p : Port} {b : Byte} {payload : List Byte} {lens : List Nat}

theorem tests_of_tenant {r : Req} {n : Nat} (form : formLengths r p = some lens) (tenant : ∀ o, p = .op o → Tenant s o)
    (len : n ∈ lens) : testsBeforeOwner s p r n = none := by
  have contains : lens.contains n = true := by simpa using len
  cases p with
  | vn => exact tests_vn form contains
  | op o => exact tests_op form (tenant o rfl) contains

/-- The bytes after the first in a payload of one to four. -/
theorem rest_of_one (len : payload.length + 1 ∈ [1]) : payload = [] := by simpa using len
theorem rest_of_two (len : payload.length + 1 ∈ [2]) : ∃ x, payload = [x] := List.length_eq_one_iff.mp (by simpa using len)
theorem rest_of_three (len : payload.length + 1 ∈ [3]) : ∃ x y, payload = [x, y] := List.length_eq_two.mp (by simpa using len)
theorem rest_of_four (len : payload.length + 1 ∈ [4]) : ∃ x y w, payload = [x, y, w] :=
  List.length_eq_three.mp (by simpa using len)

theorem owner_of_zone_above {r : Req} (above : numBelow 64 b = none) (form : formLengths r p = some lens)
    (len : payload.length + 1 ∈ lens)
    (named : r ∈ [Req.provisionZone, .retireZone, .setBudget, .setNeighbours, .pinZone, .moveZone, .readZone, .readLink, .readProtection, .readPower, .preview]) :
    ownerOf r p (b :: payload) s = refuse s .outOfRange := by
  simp only [List.mem_cons, List.not_mem_nil, or_false] at named
  rcases named with rfl | rfl | rfl | rfl | rfl | rfl | rfl | rfl | rfl | rfl | rfl
  · cases p <;> cases form
    obtain rfl := rest_of_one len
    simp only [ownerOf, ownProvisionZone, namedZone, above]
  · cases p <;> cases form
    obtain rfl := rest_of_one len
    simp only [ownerOf, ownRetireZone, namedZone, above]
  · cases p <;> cases form
    obtain ⟨x, y, rfl⟩ := rest_of_three len
    simp only [ownerOf, ownSetBudget, above]
  · cases p <;> cases form
    simp only [ownerOf, ownSetNeighbours, above]
  · cases p <;> cases form
    obtain ⟨x, rfl⟩ := rest_of_two len
    simp only [ownerOf, ownPinZone, above]
  · cases p <;> cases form
    obtain ⟨x, y, rfl⟩ := rest_of_three len
    simp only [ownerOf, ownMoveZone, above]
  · cases p <;> cases form <;> obtain rfl := rest_of_one len <;> simp only [ownerOf, ownReadZone, namedZone, above]
  · cases p <;> cases form <;> obtain rfl := rest_of_one len <;> simp only [ownerOf, ownReadLink, namedZone, above]
  · cases p <;> cases form <;> obtain rfl := rest_of_one len <;> simp only [ownerOf, ownReadProtection, namedZone, above]
  · cases p <;> cases form
    obtain rfl := rest_of_one len
    simp only [ownerOf, ownReadPower, namedZone, above]
  · cases p <;> cases form
    · obtain ⟨x, y, w, rfl⟩ := rest_of_four len
      simp only [ownerOf, ownPreview, previewLane, above, Option.bind_none]
    · obtain ⟨x, y, rfl⟩ := rest_of_three len
      simp only [ownerOf, ownPreview, previewLane, above, Option.map_none]

theorem owner_of_zoneOrAll_above {r : Req} (above : zoneOrAll b = none) (form : formLengths r p = some lens)
    (len : payload.length + 1 ∈ lens)
    (named : r ∈ [Req.resetLossCount, .faultClear]) :
    ownerOf r p (b :: payload) s = refuse s .outOfRange := by
  simp only [List.mem_cons, List.not_mem_nil, or_false] at named
  rcases named with rfl | rfl
  · cases p <;> cases form
    obtain rfl := rest_of_one len
    simp only [ownerOf, ownResetLossCount, above]
  · cases p <;> cases form
    obtain rfl := rest_of_one len
    simp only [ownerOf, ownFaultClear, above]

theorem owner_of_operator_above {r : Req} (above : numBelow 4 b = none) (form : formLengths r p = some lens)
    (len : payload.length + 1 ∈ lens)
    (named : r ∈ [Req.admitOperator, .suspendOperator, .releaseOperator, .setShare]) :
    ownerOf r p (b :: payload) s = refuse s .outOfRange := by
  simp only [List.mem_cons, List.not_mem_nil, or_false] at named
  rcases named with rfl | rfl | rfl | rfl
  · cases p <;> cases form
    obtain rfl := rest_of_one len
    simp only [ownerOf, ownAdmit, namedOp, above]
  · cases p <;> cases form
    obtain rfl := rest_of_one len
    simp only [ownerOf, ownSuspend, namedOp, above]
  · cases p <;> cases form
    obtain rfl := rest_of_one len
    simp only [ownerOf, ownRelease, namedOp, above]
  · cases p <;> cases form
    obtain ⟨x, y, rfl⟩ := rest_of_three len
    simp only [ownerOf, ownSetShare, above]

theorem owner_of_named_operator_above {r : Req} (above : numBelow 4 b = none) (form : formLengths r p = some lens)
    (len : payload.length + 1 ∈ lens) (vn : p = .vn)
    (named : r ∈ [Req.readOperator, .readLoadCells, .readSectorLoads, .readSpreadState, .readSettleCounts, .readGrants]) :
    ownerOf r p (b :: payload) s = refuse s .outOfRange := by
  simp only [List.mem_cons, List.not_mem_nil, or_false] at named
  rcases named with rfl | rfl | rfl | rfl | rfl | rfl
  · subst vn
    cases form
    obtain rfl := rest_of_one len
    simp only [ownerOf, ownReadOperator, namedOperator, above]
  · subst vn
    cases form
    obtain ⟨x, y, rfl⟩ := rest_of_three len
    simp only [ownerOf, ownReadLoadCells, laneRun, above, Option.bind_none]
  · subst vn
    cases form
    obtain rfl := rest_of_one len
    simp only [ownerOf, ownReadSectorLoads, namedOperator, above]
  · subst vn
    cases form
    obtain rfl := rest_of_one len
    simp only [ownerOf, ownReadSpreadState, namedOperator, above]
  · subst vn
    cases form
    obtain ⟨x, y, rfl⟩ := rest_of_three len
    simp only [ownerOf, ownReadSettleCounts, laneRun, above, Option.bind_none]
  · subst vn
    cases form
    obtain ⟨x, y, rfl⟩ := rest_of_three len
    simp only [ownerOf, ownReadGrants, laneRun, above, Option.bind_none]

theorem owner_of_sector_above {r : Req} (above : numBelow 8 b = none) (form : formLengths r p = some lens)
    (len : payload.length + 1 ∈ lens)
    (named : r ∈ [Req.setSectorEnable, .setSectorPower, .readShadowCounts, .setPlanWindow]) :
    ownerOf r p (b :: payload) s = refuse s .outOfRange := by
  simp only [List.mem_cons, List.not_mem_nil, or_false] at named
  rcases named with rfl | rfl | rfl | rfl
  · cases p <;> cases form
    obtain ⟨x, rfl⟩ := rest_of_two len
    simp only [ownerOf, withOperator, ownSetSectorEnable, above]
  · cases p <;> cases form
    obtain ⟨x, y, rfl⟩ := rest_of_three len
    simp only [ownerOf, withOperator, ownSetSectorPower, above]
  · cases p <;> cases form
    obtain ⟨x, y, rfl⟩ := rest_of_three len
    simp only [ownerOf, ownReadShadowCounts, above]
  · cases p <;> cases form
    obtain ⟨x, y, w, rfl⟩ := rest_of_four len
    simp only [ownerOf, ownSetPlanWindow, above]

theorem owner_of_class_above {r : Req} (above : numBelow 6 b = none) (form : formLengths r p = some lens)
    (len : payload.length + 1 ∈ lens)
    (named : r ∈ [Req.setClassMode, .setDerateLevel]) :
    ownerOf r p (b :: payload) s = refuse s .outOfRange := by
  simp only [List.mem_cons, List.not_mem_nil, or_false] at named
  rcases named with rfl | rfl
  · cases p <;> cases form
    obtain ⟨x, rfl⟩ := rest_of_two len
    simp only [ownerOf, ownSetClassMode, above]
  · cases p <;> cases form
    obtain ⟨x, rfl⟩ := rest_of_two len
    simp only [ownerOf, ownSetDerateLevel, above]

end Above

/-- Settles O27: the first number is tested before all that follows. -/
theorem numbersAboveTheirRangeRefused : Obligations.NumbersAboveTheirRangeRefused := by
  intro s p payload b r lens frame tenant form len cases
  refine exec_of_owner_replies frame (tests_of_tenant form tenant len) ?_
  rcases cases with ⟨named, above⟩ | ⟨named, above, notAll⟩ | ⟨named, above⟩ | ⟨named, vn, above⟩ | ⟨named, above⟩ | ⟨named, above⟩
  · exact owner_of_zone_above (numBelow_of_above above) form len named
  · have none : zoneOrAll b = none := by
      rw [zoneOrAll, if_neg notAll, numBelow_of_above above]
      rfl
    exact owner_of_zoneOrAll_above none form len named
  · exact owner_of_operator_above (numBelow_of_above above) form len named
  · exact owner_of_named_operator_above (numBelow_of_above above) form len vn named
  · exact owner_of_sector_above (numBelow_of_above above) form len named
  · exact owner_of_class_above (numBelow_of_above above) form len named

end Sys2Proof.Machine
end

section
/-! The reads: O10, O11, O12. -/

namespace Sys2Proof.Machine

open Sys2Proof

/-! ## Run reads (R48, R94, R119, R137) -/

/-- The numbers from `first` on, `count` of them, in rising order. -/
theorem take_drop_finRange {n : Nat} (first count : Nat) :
    ((List.finRange n).drop first).take count =
      (List.finRange n).filter fun k => decide (first ≤ k.val) && decide (k.val < first + count) := by
  have whole : List.finRange n = (List.finRange n).take first ++
      (((List.finRange n).drop first).take count ++ ((List.finRange n).drop first).drop count) := by
    rw [List.take_append_drop, List.take_append_drop]
  have below : ((List.finRange n).take first).filter (fun k => decide (first ≤ k.val) && decide (k.val < first + count)) = [] := by
    refine List.filter_eq_nil_iff.mpr fun k hk => ?_
    obtain ⟨i, hi, rfl⟩ := List.mem_take_iff_getElem.mp hk
    simp at hi ⊢
    omega
  have within : (((List.finRange n).drop first).take count).filter
      (fun k => decide (first ≤ k.val) && decide (k.val < first + count)) = ((List.finRange n).drop first).take count := by
    refine List.filter_eq_self.mpr fun k hk => ?_
    obtain ⟨i, hi, rfl⟩ := List.mem_take_iff_getElem.mp hk
    simp at hi ⊢
    omega
  have beyond : (((List.finRange n).drop first).drop count).filter
      (fun k => decide (first ≤ k.val) && decide (k.val < first + count)) = [] := by
    refine List.filter_eq_nil_iff.mpr fun k hk => ?_
    rw [List.drop_drop] at hk
    obtain ⟨i, hi, rfl⟩ := List.mem_drop_iff_getElem.mp hk
    simp at hi ⊢
  conv_rhs => rw [whole, List.filter_append, List.filter_append, below, within, beyond, List.nil_append, List.append_nil]

/-- The run that a first number and a count name, or none where it is out of range. -/
theorem runOf_eq (first count : Byte) :
    runOf first count =
      if first.toNat ≤ 63 ∧ 1 ≤ count.toNat ∧ count.toNat ≤ 16 ∧ first.toNat + count.toNat ≤ 64 then
        some ((List.finRange 64).filter fun n => decide (first.toNat ≤ n.val) && decide (n.val < first.toNat + count.toNat))
      else none := by
  unfold runOf allZones
  rw [take_drop_finRange]
  exact if_congr (and_congr_left' Nat.lt_succ_iff) rfl rfl

theorem laneRun_of {p : Port} {o : OpNo} {first count : Byte} {lane : List Byte} {own : Prop}
    (named : p = .op o ∧ own ∧ lane = [first, count] ∨ p = .vn ∧ lane = [BitVec.ofNat 8 o.val, first, count]) :
    laneRun p lane = (runOf first count).map fun l => (o, l) := by
  rcases named with ⟨rfl, -, rfl⟩ | ⟨rfl, rfl⟩
  · rfl
  · simp [laneRun]

/-- The reply of a run read: the entries of its run, or OUT_OF_RANGE. -/
def runReply (bytes : ZoneNo → List Byte) : Option (List ZoneNo) → Reply
  | none => replyOf .outOfRange
  | some run => replyWith (run.flatMap bytes)

/-- A run read that its tests pass replies with its run's entries, or is OUT_OF_RANGE. -/
theorem exec_run {s : State} {p : Port} {r : Req} {payload : List Byte} {first count : Byte} {bytes : ZoneNo → List Byte}
    (frame : FrameIn s p) (tests : testsBeforeOwner s p r payload.length = none)
    (owner : ownerOf r p payload s = (s, runReply bytes (runOf first count))) :
    exec (r.toInstr p payload) s = .next (answer s p
      (if first.toNat ≤ 63 ∧ 1 ≤ count.toNat ∧ count.toNat ≤ 16 ∧ first.toNat + count.toNat ≤ 64 then
        replyWith (((List.finRange 64).filter fun n =>
          decide (first.toNat ≤ n.val) && decide (n.val < first.toNat + count.toNat)).flatMap bytes)
      else replyOf .outOfRange)) := by
  refine exec_of_owner_replies frame tests (owner.trans ?_)
  rw [runOf_eq]
  split <;> rfl

/-- Settles O10: the run is decoded once for all four reads. -/
theorem runReadsReply : Obligations.RunReadsReply := by
  intro s p o spoke first count lane frame named
  have tests {r : Req} (vn : venueLengths r = some [3]) (op : operatorLengths r = some [2]) :
      testsBeforeOwner s p r lane.length = none := by
    rcases named with ⟨rfl, tenant, rfl⟩ | ⟨rfl, rfl⟩
    · exact tests_op op tenant rfl
    · exact tests_vn vn rfl
  refine ⟨fun vn => ?shadows, exec_run (r := .readLoadCells) frame (tests rfl rfl) ?cells,
    exec_run (r := .readSettleCounts) frame (tests rfl rfl) ?settles, exec_run (r := .readGrants) frame (tests rfl rfl) ?grants⟩
  case shadows =>
    subst vn
    refine exec_run (r := .readShadowCounts) frame (tests_vn rfl rfl) ?_
    simp only [ownerOf, ownReadShadowCounts, numBelow_sector]
    cases runOf first count <;> rfl
  case cells =>
    simp only [ownerOf, ownReadLoadCells, laneRun_of named]
    cases runOf first count <;> rfl
  case settles =>
    simp only [ownerOf, ownReadSettleCounts, laneRun_of named]
    cases runOf first count <;> rfl
  case grants =>
    simp only [ownerOf, ownReadGrants, laneRun_of named]
    cases runOf first count <;> rfl

/-! ## The reads of one zone (R21, R60, R80, R138) -/

theorem tally_eq (r : LinkRec) : r.tally = (r.history.filter fun good => !good).length := List.countP_eq_length_filter

/-- Settles O11: each payload is the list of fields that its rule gives. -/
theorem zoneReadsReply : Obligations.ZoneReadsReply := by
  intro s z
  refine ⟨fun frame => ⟨?_, ?_, ?_, ?_⟩, fun o frame tenant => ⟨?_, ?_, ?_⟩⟩
  · refine (exec_vn_of_owner_only_replies (r := .readZone) (payload := u8 z.val) frame rfl rfl
      (show ownReadZone .vn (u8 z.val) s = (s, replyWith (zonePayload s z .vn)) by simp only [ownReadZone, namedZone_u8])).trans
      (answered_congr ?_)
    simp only [zonePayload, listBytes, List.length_map, List.flatMap_def, allOps, List.append_assoc]
    rfl
  · refine (exec_vn_of_owner_only_replies (r := .readLink) (payload := u8 z.val) frame rfl rfl
      (show ownReadLink .vn (u8 z.val) s = (s, replyWith (linkPayload s z .vn)) by simp only [ownReadLink, namedZone_u8])).trans
      (answered_congr ?_)
    simp only [linkPayload, listBytes, List.length_map, List.flatMap_def, tally_eq, List.append_assoc]
  · refine (exec_vn_of_owner_only_replies (r := .readProtection) (payload := u8 z.val) frame rfl rfl
      (show ownReadProtection .vn (u8 z.val) s = (s, replyWith (protectionPayload s z .vn)) by
        simp only [ownReadProtection, namedZone_u8])).trans (answered_congr ?_)
    unfold protectionPayload
    refine congrArg₂ (· ++ ·) (congrArg₂ (· ++ ·) (congrArg (fun f => List.flatMap f allClasses) (funext fun c => ?_)) rfl) rfl
    unfold ProtRec.bytes
    cases (s.protRec z c).state <;> rfl
  · refine (exec_vn_of_owner_only_replies (r := .readPower) (payload := u8 z.val) frame rfl rfl
      (show ownReadPower (u8 z.val) s = (s, replyWith (powerPayload s z)) by simp only [ownReadPower, namedZone_u8])).trans
      (answered_congr ?_)
    rfl
  · refine (exec_of_owner_replies (r := .readZone) (payload := u8 z.val) frame (tests_op rfl tenant rfl)
      (show ownReadZone (.op o) (u8 z.val) s = (s, replyWith (zonePayload s z (.op o))) by simp only [ownReadZone, namedZone_u8]))
  · refine (exec_of_owner_replies (r := .readLink) (payload := u8 z.val) frame (tests_op rfl tenant rfl)
      (show ownReadLink (.op o) (u8 z.val) s = (s, replyWith (linkPayload s z (.op o))) by
        simp only [ownReadLink, namedZone_u8])).trans (answered_congr ?_)
    rw [linkPayload, tally_eq]
  · refine ⟨classByte fun c => (s.protRec z c).latched,
      (exec_of_owner_replies (r := .readProtection) (payload := u8 z.val) frame (tests_op rfl tenant rfl)
        (show ownReadProtection (.op o) (u8 z.val) s = (s, replyWith (protectionPayload s z (.op o))) by
          simp only [ownReadProtection, namedZone_u8])).trans (answered_congr ?_), classByte_lt _, classByte_getLsbD _⟩
    rw [protectionPayload, classBits_eq]

/-! ## The reads of one operator (R22, R95, R118) -/

theorem namedOperator_of {p : Port} {o : OpNo} {own : List Byte} {tenant : Prop}
    (named : p = .op o ∧ tenant ∧ own = [] ∨ p = .vn ∧ own = [BitVec.ofNat 8 o.val]) : namedOperator p own = some o := by
  rcases named with ⟨rfl, -, rfl⟩ | ⟨rfl, rfl⟩
  · rfl
  · exact numBelow_operator o

/-- A sum taken along a list of zones where a test holds. -/
theorem foldl_if_add_eq_sum (l : List ZoneNo) (test : ZoneNo → Bool) (f : ZoneNo → Nat) (n : Nat) :
    l.foldl (fun n z => if test z then n + f z else n) n = n + ((l.filter test).map f).sum := by
  induction l generalizing n with
  | nil => simp
  | cons z l ih =>
    rw [List.foldl_cons, ih]
    cases h : test z <;> simp [h, Nat.add_assoc]

/-- A carrying lane's zone is live. -/
theorem contributes_eq (s : State) (o : OpNo) (sec : SectorNo) :
    contributes s o sec = fun z => decide (s.active z o = some sec) && carrying s z o := by
  funext z
  unfold contributes
  cases h : carrying s z o with
  | false => rw [Bool.and_false]
  | true => rw [(carrying_live h).2.1, Bool.and_true]

theorem sectorLoad_eq (s : State) (o : OpNo) (sec : SectorNo) :
    sectorLoad s o sec = ((allZones.filter (contributes s o sec)).map fun z => s.cell z o).sum :=
  (foldl_if_add_eq_sum ..).trans (Nat.zero_add _)

theorem spreadPayload_eq (s : State) (o : OpNo) (p : Port) :
    spreadPayload s o p = spreadFields s o ++ if p = .vn then u16 s.settleTime ++ u16 s.holdOff else [] := by
  cases p with
  | vn => exact List.append_assoc ..
  | op q => exact (List.append_nil _).symm

/-- Settles O12: each payload is the list of fields that its rule gives. -/
theorem operatorReadsReply : Obligations.OperatorReadsReply := by
  intro s p o own frame named
  have lane := namedOperator_of named
  have tests {r : Req} (vn : venueLengths r = some [1]) (op : operatorLengths r = some [0]) :
      testsBeforeOwner s p r own.length = none := by
    rcases named with ⟨rfl, tenant, rfl⟩ | ⟨rfl, rfl⟩
    · exact tests_op op tenant rfl
    · exact tests_vn vn rfl
  refine ⟨?_, ?_, ?_⟩
  · refine (exec_of_owner_replies (r := .readOperator) frame (tests rfl rfl)
      (show ownReadOperator p own s = (s, replyWith (s.oper o).bytes) by simp only [ownReadOperator, lane])).trans
      (answered_congr ?_)
    refine congrArg₂ (· ++ ·) rfl (congrArg (fun f => List.flatMap f allSectors) (funext fun sec => ?_))
    rfl
  · refine (exec_of_owner_replies (r := .readSectorLoads) frame (tests rfl rfl)
      (show ownReadSectorLoads p own s = (s, replyWith (loadsPayload s o)) by simp only [ownReadSectorLoads, lane])).trans
      (answered_congr ?_)
    unfold loadsPayload
    rw [List.append_assoc, List.append_assoc]
    refine congrArg₂ (· ++ ·) (congrArg (fun f => List.flatMap f allSectors) (funext fun sec => ?_)) rfl
    rw [sectorLoad_eq, contributors, List.countP_eq_length_filter, contributes_eq]
    rfl
  · refine (exec_of_owner_replies (r := .readSpreadState) frame (tests rfl rfl)
      (show ownReadSpreadState p own s = (s, replyWith (spreadPayload s o p)) by simp only [ownReadSpreadState, lane])).trans
      (answered_congr ?_)
    rw [spreadPayload_eq]
    refine congrArg₂ (· ++ ·) (congrArg₂ (· ++ ·) (congrArg₂ (· ++ ·) (congrArg₂ (· ++ ·) rfl ?_) ?_) rfl) rfl
    · cases (s.spreadRec o).proposal <;> rfl
    · cases (s.spreadRec o).lastClosed <;> rfl

end Sys2Proof.Machine
end

section
/-! The slot plan window: O16, O17. -/

namespace Sys2Proof.Machine

open Sys2Proof

/-! ## An entry's three bytes (R32, R183) -/

theorem getLsbD_seven (a : Byte) : a.getLsbD 7 = decide (128 ≤ a.toNat) := BitVec.msb_eq_decide a

/-- The entry that R32 stores for three bytes. -/
def storedEntry (a b c : Byte) : PlanEntry :=
  let code := b.toNat % 8
  { enabled := a.getLsbD 7 && decide (code < 5), slot := Fin.ofNat 32 (a.toNat % 32),
    position := Fin.ofNat 8 (b.toNat / 32), operator := Fin.ofNat 4 (b.toNat / 8 % 4),
    periodCode := Fin.ofNat 5 (if code < 5 then code else 0),
    phase := Fin.ofNat 16 (if code < 5 then c.toNat % 16 % 2 ^ code else 0) }

theorem mk_eq_ofNat {n k : Nat} [NeZero n] (h : k < n) : (⟨k, h⟩ : Fin n) = Fin.ofNat n k :=
  Fin.ext (Nat.mod_eq_of_lt h).symm

theorem checkEntry_readEntry (a b c : Byte) : checkEntry (readEntry a b c) = storedEntry a b c := by
  unfold checkEntry storedEntry readEntry
  rw [getLsbD_seven]
  dsimp only
  by_cases legal : b.toNat % 8 < 5
  · rw [dif_pos legal]
    simp only [legal, decide_true, Bool.and_true, if_true, mk_eq_ofNat, periodOf]
  · rw [dif_neg legal]
    simp only [legal, decide_false, Bool.and_false, if_false, mk_eq_ofNat]
    rfl

theorem forcedOff_readEntry (a b c : Byte) : forcedOff (readEntry a b c) = (a.getLsbD 7 && decide (5 ≤ b.toNat % 8)) := by
  rw [getLsbD_seven]
  rfl

theorem readEntries_of_length {k : Nat} {l : List Byte} (h : l.length = 3 * k) : ∃ entries, readEntries l = some entries := by
  induction k generalizing l with
  | zero => exact ⟨[], by rw [List.length_eq_zero_iff.mp h]; rfl⟩
  | succ k ih =>
    match l, h with
    | a :: b :: c :: rest, h =>
      obtain ⟨entries, rest⟩ := ih (l := rest) (by simpa [Nat.mul_add] using h)
      exact ⟨readEntry a b c :: entries, by simp [readEntries, rest]⟩

/-! ## The pointer (R178) -/

theorem advance_eq (w : PlanWindow) : w.advance = { w with spoke := w.advance.spoke, entry := w.advance.entry } := by
  unfold PlanWindow.advance
  split
  · rfl
  · split <;> rfl

theorem advance_steps (w : PlanWindow) :
    if w.entry < w.lastEntry then w.advance.entry.val = w.entry.val + 1 ∧ w.advance.spoke = w.spoke
    else w.advance.entry = w.firstEntry ∧
      if w.spoke < w.lastSpoke then w.advance.spoke.val = w.spoke.val + 1 else w.advance.spoke = w.firstSpoke := by
  unfold PlanWindow.advance
  by_cases inRow : w.entry < w.lastEntry
  · rw [if_pos inRow, dif_pos (Nat.succ_le_of_lt inRow)]
    exact ⟨rfl, rfl⟩
  · rw [if_neg inRow, dif_neg (mt Nat.lt_of_succ_le inRow)]
    by_cases inWindow : w.spoke < w.lastSpoke
    · rw [if_pos inWindow, dif_pos (Nat.succ_le_of_lt inWindow)]
      exact ⟨rfl, rfl⟩
    · rw [if_neg inWindow, dif_neg (mt Nat.lt_of_succ_le inWindow)]
      exact ⟨rfl, rfl⟩

/-! ## WRITE PLAN ENTRIES -/

theorem foldl_writeEntry_keeps {β : Type} (g : State → β) (plan : ∀ s v, g { s with workPlan := v } = g s)
    (window : ∀ s v, g { s with window := v } = g s) (l : List RawEntry) (s : State) : g (l.foldl writeEntry s) = g s :=
  foldl_keeps g writeEntry (writeEntry_keeps g plan window) l s

/-- The reply of WRITE PLAN ENTRIES: the count of entries forced off, then the pointer (R178). -/
def writtenReply (n : Nat) (t : State) : Reply :=
  replyWith [BitVec.ofNat 8 n, BitVec.ofNat 8 t.window.spoke.val, BitVec.ofNat 8 t.window.entry.val]

theorem exec_writePlanEntries {s : State} {payload : List Byte} {entries : List RawEntry} (frame : FrameIn s .vn)
    (len : payload.length ∈ [3, 6, 9, 12, 15, 18]) (spells : readEntries payload = some entries) :
    exec (.writePlanEntries .vn payload) s =
      .next (answer (entries.foldl writeEntry s) .vn (writtenReply (entries.countP forcedOff) (entries.foldl writeEntry s))) := by
  refine exec_vn_of_owner_quiet (r := .writePlanEntries) frame rfl (by simpa using len) ?_
    (foldl_writeEntry_keeps State.realloc (fun _ _ => rfl) (fun _ _ => rfl) ..)
    (foldl_writeEntry_keeps State.previews (fun _ _ => rfl) (fun _ _ => rfl) ..)
  simp only [ownerOf, ownWritePlanEntries, spells]
  rfl

theorem answer_withPorts {s t : State} (p : Port) (rep : Reply) (h : t.ports = s.ports) :
    { answer t p rep with ports := s.ports } = t := by
  rw [← h]
  rfl

theorem foldl_writeEntry_ports (l : List RawEntry) (s : State) : (l.foldl writeEntry s).ports = s.ports :=
  foldl_writeEntry_keeps State.ports (fun _ _ => rfl) (fun _ _ => rfl) l s

/-- Settles O16: a payload's entries are written one after the other. -/
theorem planEntriesWritten : Obligations.PlanEntriesWritten := by
  refine ⟨fun s a b c frame => ?_, fun s a b c more frame len => ?_⟩
  · have run := exec_writePlanEntries (payload := [a, b, c]) frame (by simp) rfl
    refine ⟨_, run, ?_, advance_eq s.window, advance_steps s.window, ?_⟩
    · have written : writeEntry s (readEntry a b c) =
          { s.setWorkEntry s.window.spoke s.window.entry (storedEntry a b c) with window := s.window.advance } := by
        rw [writeEntry, checkEntry_readEntry]
      exact congrArg (fun t => answer t .vn _) written
    · have count : BitVec.ofNat 8 (List.countP forcedOff [readEntry a b c]) = if a.getLsbD 7 ∧ 5 ≤ b.toNat % 8 then 1 else 0 := by
        rw [List.countP_singleton, forcedOff_readEntry]
        simp only [Bool.and_eq_true, decide_eq_true_eq]
        split <;> rfl
      rw [← count]
      exact answers_answer rfl
  · obtain ⟨k, hk⟩ : ∃ k, more.length = 3 * k := by
      simp only [List.mem_cons, List.not_mem_nil, or_false] at len
      exact ⟨more.length / 3, by omega⟩
    obtain ⟨entries, spells⟩ := readEntries_of_length hk
    have first := exec_writePlanEntries (payload := [a, b, c]) (entries := [readEntry a b c]) frame (by simp) rfl
    let w := writeEntry s (readEntry a b c)
    have rest := exec_writePlanEntries (s := w) (payload := more) frame (by simp at len ⊢; omega) spells
    have whole := exec_writePlanEntries (payload := a :: b :: c :: more) frame (by simp at len ⊢; omega)
      (show readEntries (a :: b :: c :: more) = some (readEntry a b c :: entries) by simp [readEntries, spells])
    have ports : (entries.foldl writeEntry w).ports = s.ports := foldl_writeEntry_ports ..
    have again : { answer w .vn (writtenReply ([readEntry a b c].countP forcedOff) w) with ports := s.ports } = w :=
      answer_withPorts .vn _ rfl
    refine ⟨_, _, _, BitVec.ofNat 8 ([readEntry a b c].countP forcedOff), BitVec.ofNat 8 (entries.countP forcedOff), first,
      (congrArg (exec (.writePlanEntries .vn more)) again).trans rest, whole, ?_, ?_, ?_, ?_⟩
    · rfl
    · exact answers_answer rfl
    · exact answers_answer ports
    · have sum : BitVec.ofNat 8 ((readEntry a b c :: entries).countP forcedOff) =
          BitVec.ofNat 8 ([readEntry a b c].countP forcedOff) + BitVec.ofNat 8 (entries.countP forcedOff) := by
        rw [← BitVec.ofNat_add, ← List.countP_append]
        rfl
      rw [← sum]
      exact answers_answer ports

/-! ## READ PLAN ENTRIES (R179) -/

theorem readSteps_keeps_ports (n : Nat) (s : State) : (readSteps n s).1.ports = s.ports :=
  readSteps_keeps State.ports (fun _ _ => rfl) n s

theorem exec_readPlanEntries {s : State} {n : Byte} (frame : FrameIn s .vn) (low : 1 ≤ n.toNat) (high : n.toNat ≤ 6) :
    exec (.readPlanEntries .vn [n]) s =
      .next (answer (readSteps n.toNat s).1 .vn (replyWith (readSteps n.toNat s).2)) := by
  refine exec_vn_of_owner_quiet (r := .readPlanEntries) frame rfl rfl (if_pos ⟨low, high⟩)
    (readSteps_keeps State.realloc (fun _ _ => rfl) ..) (readSteps_keeps State.previews (fun _ _ => rfl) ..)

theorem stageBytes_length (e : Option StageEntry) : (stageBytes e).length = 5 := by
  cases e <;> rfl

theorem readSteps_length (n : Nat) (s : State) : (readSteps n s).2.length = 5 * n := by
  induction n generalizing s with
  | zero => rfl
  | succ n ih =>
    simp only [readSteps, List.length_append, stageBytes_length, ih]
    omega

theorem readSteps_one (s : State) : readSteps 1 s = (stageStep s, stageBytes s.window.stage) :=
  Prod.ext rfl (List.append_nil _)

/-- Settles O17: the steps of a read are taken one after the other. -/
theorem planEntriesRead : Obligations.PlanEntriesRead := by
  refine ⟨fun s frame => ?_, fun s n frame low high => ?_, fun s n frame bad => ?_⟩
  · have read := exec_readPlanEntries (n := 1) frame (by decide) (by decide)
    have written := exec_writePlanEntries (payload := [0, 0, 0]) frame (by simp) rfl
    rw [show (1 : Byte).toNat = 1 from rfl, readSteps_one] at read
    refine ⟨_, _, read, rfl, written, rfl, ?_⟩
    have bytes : stageBytes s.window.stage = match s.window.stage with
        | none => [0xFF, 0xFF, 0, 0, 0]
        | some e => [BitVec.ofNat 8 e.spoke.val, BitVec.ofNat 8 e.entry.val] ++ e.plan.bytes := by
      cases s.window.stage <;> rfl
    exact bytes ▸ answers_answer rfl
  · have next : (n + 1).toNat = n.toNat + 1 := by
      rw [BitVec.toNat_add]
      exact Nat.mod_eq_of_lt (by simp; omega)
    have first := exec_readPlanEntries (n := 1) frame (by decide) (by decide)
    have rest := exec_readPlanEntries (s := stageStep s) (n := n) frame low (by omega)
    have whole := exec_readPlanEntries (n := n + 1) frame (by omega) (by omega)
    rw [show (1 : Byte).toNat = 1 from rfl, readSteps_one] at first
    rw [next] at whole
    have ports : (readSteps n.toNat (stageStep s)).1.ports = s.ports := readSteps_keeps_ports ..
    have again : { answer (stageStep s) .vn (replyWith (stageBytes s.window.stage)) with ports := s.ports } = stageStep s :=
      answer_withPorts .vn _ rfl
    exact ⟨_, _, _, stageBytes s.window.stage, (readSteps n.toNat (stageStep s)).2, first,
      (congrArg (exec (.readPlanEntries .vn [n])) again).trans rest, whole, rfl, answers_answer rfl, answers_answer ports,
      answers_answer ports, readSteps_length ..⟩
  · refine exec_vn_of_owner_only_replies (r := .readPlanEntries) frame rfl rfl (if_neg ?_)
    rintro ⟨positive, atMost⟩
    exact bad.elim (fun zero => absurd positive (by omega)) fun above => absurd above (Nat.not_lt.mpr atMost)

end Sys2Proof.Machine
end

section
/-! Frames and the filter: O2, O43. -/

namespace Sys2Proof.Machine

open Sys2Proof

/-! ## Request frames (R166, section 11.1) -/

theorem sumBytes_eq_sum (l : List Byte) : sumBytes l = l.sum := List.sum_eq_foldl.symm

/-- The check byte brings the sum of a frame to 0. -/
theorem sumBytes_checked (body : List Byte) : sumBytes (body ++ [checkByte body]) = 0 := by
  rw [sumBytes_eq_sum, List.sum_append, List.sum_singleton, checkByte, sumBytes_eq_sum]
  abel

/-- One altered byte alters the sum. -/
theorem sumBytes_set_ne {l : List Byte} {i : Nat} {b : Byte} (within : i < l.length) (new : l[i]? ≠ some b) :
    sumBytes (l.set i b) ≠ sumBytes l := by
  rw [List.getElem?_eq_getElem within] at new
  rw [sumBytes_eq_sum, sumBytes_eq_sum, List.sum_set', dif_pos within]
  intro same
  have zero : -l[i] + b = 0 := by simpa using same
  exact new (congrArg some (neg_add_eq_zero.mp zero))

theorem oddParity_headerOf (r : Req) : oddParity (headerOf r) = true := by
  cases r <;> decide

theorem requestOfCode_headerOf (r : Req) : requestOfCode ((headerOf r).toNat % 128) = some r := by
  cases r <;> decide

theorem judgeFrame_of_request {r : Req} {p : Port} {payload frame : List Byte} (sum : sumBytes frame = 0) :
    judgeFrame p (headerOf r) payload frame = r.toInstr p payload := by
  rw [judgeFrame, if_pos ⟨oddParity_headerOf r, sum⟩, requestOfCode_headerOf]

theorem judgeFrame_of_sum {p : Port} {header : Byte} {payload frame : List Byte} (sum : sumBytes frame ≠ 0) :
    judgeFrame p header payload frame = .checkFailed p := if_neg fun h => sum h.2

/-- A frame of its stated length is judged by its header and its sum. -/
theorem decodeFrame_of_length {p : Port} {header len : Byte} {rest : List Byte} (short : len.toNat ≤ Config.maxPayload)
    (length : rest.length = len.toNat + 1) :
    decodeFrame p (header :: len :: rest) = some (judgeFrame p header (rest.take len.toNat) (header :: len :: rest)) := by
  rw [decodeFrame, if_neg (Nat.not_lt.mpr short), if_pos length]

/-- Settles O2: the parts of a frame are found at its stated length, and its sum is 0 just where no byte is altered. -/
theorem framesDecodeOrFailTheirCheck : Obligations.FramesDecodeOrFailTheirCheck := by
  intro r p payload short
  have len : (BitVec.ofNat 8 payload.length).toNat = payload.length :=
    Nat.mod_eq_of_lt (lt_of_le_of_lt short (by decide))
  have lenShort : (BitVec.ofNat 8 payload.length).toNat ≤ Config.maxPayload := len.symm ▸ short
  let body := headerOf r :: BitVec.ofNat 8 payload.length :: payload
  have sum : sumBytes (encodeFrame r payload) = 0 := sumBytes_checked body
  have shape : encodeFrame r payload = headerOf r :: BitVec.ofNat 8 payload.length :: (payload ++ [checkByte body]) := rfl
  refine ⟨?_, fun i b within notLength new => ?_⟩
  · rw [shape, decodeFrame_of_length lenShort (by rw [len]; simp), len, List.take_left', ← shape, judgeFrame_of_request sum]
    rfl
  · have altered : sumBytes ((encodeFrame r payload).set i b) ≠ 0 := sum ▸ sumBytes_set_ne within new
    rw [shape] at altered ⊢
    match i, notLength with
    | 0, _ => rw [List.set_cons_zero] at altered ⊢
              rw [decodeFrame_of_length lenShort (by rw [len]; simp), judgeFrame_of_sum altered]
    | i + 2, _ => rw [List.set_cons_succ, List.set_cons_succ] at altered ⊢
                  rw [decodeFrame_of_length lenShort (by rw [len]; simp), judgeFrame_of_sum altered]

/-! ## The filter (R87) -/

/-- The signed step of R87 from a cell y toward 64 x. -/
theorem filterStep_cases (k : Nat) (d : Int) :
    filterStep k d = if d = 0 then 0 else if ((k : Int) * d).tdiv 4096 = 0 then (if 0 < d then 1 else -1)
      else ((k : Int) * d).tdiv 4096 := by
  unfold filterStep
  by_cases zero : d = 0
  · subst zero
    simp
  · simp only [zero, ne_eq, not_false_eq_true, true_and, if_false]
    split
    · rcases lt_or_gt_of_ne zero with neg | pos
      · rw [if_neg (by omega), Int.sign_eq_neg_one_of_neg neg]
      · rw [if_pos pos, Int.sign_eq_one_of_pos pos]
    · rfl

theorem filterStep_neg (k : Nat) (d : Int) : filterStep k (-d) = -filterStep k d := by
  simp only [filterStep, Int.mul_neg, Int.neg_tdiv, ne_eq, Int.neg_eq_zero, Int.sign_neg]
  split <;> rfl

/-- The step of a positive difference goes at least one unit, and not past the sample. -/
theorem filterStep_of_pos {k : Nat} (high : k ≤ 4096) {d : Int} (pos : 0 < d) : 1 ≤ filterStep k d ∧ filterStep k d ≤ d := by
  have product : 0 ≤ (k : Int) * d := Int.mul_nonneg (Int.natCast_nonneg k) pos.le
  have quotient : ((k : Int) * d).tdiv 4096 = (k : Int) * d / 4096 := Int.tdiv_eq_ediv_of_nonneg product
  have nonneg : 0 ≤ (k : Int) * d / 4096 := Int.ediv_nonneg product (by decide)
  have bound : (k : Int) * d ≤ 4096 * d := Int.mul_le_mul_of_nonneg_right (by exact_mod_cast high) pos.le
  rw [filterStep_cases, if_neg pos.ne', quotient, if_pos pos]
  split <;> omega

/-- The filter moves a cell toward 64 times its sample, at least one unit where they differ, and not past it. -/
theorem filterCell_toward {k y x : Nat} (high : k ≤ 4096) :
    (filterCell k y x : Int) = y + filterStep k (((64 * x : Nat) : Int) - y) ∧
      (y < 64 * x → y < filterCell k y x ∧ filterCell k y x ≤ 64 * x) ∧
      (64 * x < y → 64 * x ≤ filterCell k y x ∧ filterCell k y x < y) ∧ (y = 64 * x → filterCell k y x = y) := by
  unfold filterCell
  obtain ⟨d, hd⟩ : ∃ d, d = ((64 * x : Nat) : Int) - y := ⟨_, rfl⟩
  rw [← hd]
  rcases lt_trichotomy d 0 with neg | zero | pos
  · have step := filterStep_of_pos high (Int.neg_pos_of_neg neg)
    rw [filterStep_neg] at step
    omega
  · have step : filterStep k d = 0 := by rw [filterStep_cases, if_pos zero]
    omega
  · have step := filterStep_of_pos high pos
    omega

/-- How far a cell is from 64 times its sample. -/
def sampleGap (x y : Nat) : Nat := (64 * x - y) + (y - 64 * x)

theorem sampleGap_filterCell {k : Nat} (high : k ≤ 4096) (y x : Nat) : sampleGap x (filterCell k y x) ≤ sampleGap x y - 1 := by
  obtain ⟨-, up, down, still⟩ := filterCell_toward (y := y) (x := x) high
  unfold sampleGap
  rcases lt_trichotomy y (64 * x) with below | equal | above
  · have := up below
    omega
  · have := still equal
    omega
  · have := down above
    omega

/-- Under a constant sample the gap shrinks by one at least with each update (R87). -/
theorem sampleGap_repeat {k : Nat} (high : k ≤ 4096) (x y m : Nat) :
    sampleGap x (Nat.repeat (fun v => filterCell k v x) m y) ≤ sampleGap x y - m := by
  induction m with
  | zero => exact Nat.le_refl _
  | succ m ih =>
    have step := sampleGap_filterCell high (Nat.repeat (fun v => filterCell k v x) m y) x
    rw [Nat.repeat]
    omega

/-- Settles O43: the step's sign and size, and the gap as the measure of the convergence. -/
theorem cellMovesTowardSample : Obligations.CellMovesTowardSample := by
  intro k y x low high cell sample
  obtain ⟨value, up, down, still⟩ := filterCell_toward (k := k) (y := y) (x := x) high
  have between : min y (64 * x) ≤ filterCell k y x ∧ filterCell k y x ≤ max y (64 * x) ∧ (y ≠ 64 * x → filterCell k y x ≠ y) := by
    rcases lt_trichotomy y (64 * x) with below | equal | above
    · have := up below
      omega
    · have := still equal
      omega
    · have := down above
      omega
  obtain ⟨least, most, moves⟩ := between
  refine ⟨?_, by omega, least, most, moves, sampleGap x y, fun m late => ?_⟩
  · rw [value, filterStep_cases]
    push_cast
    rfl
  · have gap := sampleGap_repeat high x y m
    unfold sampleGap at gap late
    omega

end Sys2Proof.Machine
end

section
/-! Requests that bring work to the Allocation Engine: what their answered states are, and O21, O29, O49. -/

namespace Sys2Proof.Machine

open Sys2Proof

/-! ## The answered state of a request (R142, R173) -/

/-- The state after a request whose owner left u, with the reply placed. -/
def served (s u : State) (p : Port) (rep : Reply) : State := answer (endEvent s u) p rep

theorem exec_served {r : Req} {s u : State} {p : Port} {payload : List Byte} {rep : Reply} (h : FrameIn s p)
    (ht : testsBeforeOwner s p r payload.length = none) (ho : ownerOf r p payload s = (u, rep)) :
    exec (r.toInstr p payload) s = .next (served s u p rep) := exec_of_owner h ht ho

/-- A request in its venue form. -/
theorem exec_vn_served {r : Req} {s u : State} {payload : List Byte} {rep : Reply} {lens : List Nat} (h : FrameIn s .vn)
    (hl : venueLengths r = some lens) (hn : lens.contains payload.length = true) (ho : ownerOf r .vn payload s = (u, rep)) :
    exec (r.toInstr .vn payload) s = .next (served s u .vn rep) := exec_served h (tests_vn hl hn) ho

section Served

variable {s u : State} {p : Port} {rep : Reply}

theorem endEvent_ports' (old t : State) : (endEvent old t).ports = t.ports :=
  endEvent_keeps State.ports (fun _ _ => rfl) (fun _ _ => rfl) (fun _ _ => rfl) (fun _ _ => rfl) (fun _ _ => rfl) ..

theorem served_answers (ports : u.ports = s.ports) : Answers s (served s u p rep) p rep :=
  answers_answer ((endEvent_ports' s u).trans ports)

theorem served_bare : (served s u p rep).bare = u.bare := endEvent_bare s u

theorem served_leaving {v : State} (same : u.bare = v.bare) : served s u p rep = v.leaving (served s u p rep) :=
  eq_leaving_iff.mpr (served_bare.trans same)

theorem served_grants : (served s u p rep).grants = u.grants := endEvent_grants s u

theorem served_grant (z : ZoneNo) (o : OpNo) : (served s u p rep).grant z o = u.grant z o := by
  simp only [State.grant, served_grants]

theorem served_short : (served s u p rep).short = u.short :=
  endEvent_keeps State.short (fun _ _ => rfl) (fun _ _ => rfl) (fun _ _ => rfl) (fun _ _ => rfl) (fun _ _ => rfl) s u

theorem served_notices : (served s u p rep).notices = u.notices :=
  endEvent_keeps State.notices (fun _ _ => rfl) (fun _ _ => rfl) (fun _ _ => rfl) (fun _ _ => rfl) (fun _ _ => rfl) s u

theorem served_noticeQueue (q : Port) : (served s u p rep).noticeQueue q = u.noticeQueue q := by
  simp only [State.noticeQueue, served_notices]

theorem served_awaits {z : ZoneNo} (queued : z ∈ u.realloc) : AwaitsAllocation (served s u p rep) z :=
  endEvent_awaits (old := s) queued

theorem served_self : served s s p rep = answer s p rep := congrArg (answer · p rep) (endEvent_self s)

end Served

/-! ## Clips, read from a zone's inputs -/

theorem Clips.grant_of_same {old t : State} (h : Clips old t) {z : ZoneNo} {o : OpNo} (budget : effBudget t z = effBudget old z)
    (request : effRequest old z o ≤ effRequest t z o) : t.grant z o = old.grant z o := by
  rw [h.grant, budget, clippedGrant_of_le (Nat.le_refl _) request]

/-- A lane that asks nothing more has no grant where the grants kept Law 2 (R129). -/
theorem Clips.grant_of_idle {old t : State} (h : Clips old t) (law : RequestLaw old) {z : ZoneNo} {o : OpNo}
    (idle : carrying t z o = false) : t.grant z o = 0 :=
  Nat.le_zero.mp ((h.requestLaw law z o).trans (effRequest_of_idle idle).le)

/-- Only the budget falls: the clip is in proportion (R128). -/
theorem Clips.grant_of_budget {old t : State} (h : Clips old t) {z : ZoneNo} {o : OpNo}
    (request : effRequest t z o = effRequest old z o) : t.grant z o =
      if effBudget t z < effBudget old z then old.grant z o * effBudget t z / effBudget old z else old.grant z o := by
  rw [h.grant, request, clippedGrant, if_neg (Nat.lt_irrefl _)]

/-! ## VN's queue under the clips -/

theorem inputChange_noticeQueue_vn (old s : State) (z : ZoneNo) : (inputChange old s z).noticeQueue .vn = s.noticeQueue .vn := by
  have judged (l : List OpNo) (t u : State) : (l.foldl (fun t o => if clipWrote old s z o then judgeShort t z o (effRequest s z o)
      else t) t).noticeQueue .vn = t.noticeQueue .vn := by
    refine foldl_keeps (State.noticeQueue · .vn) _ (fun v o => ?_) l t
    split
    · exact judgeShort_noticeQueue_vn ..
    · rfl
  unfold inputChange
  refine (enqueue_keeps (State.noticeQueue · .vn) (fun _ _ => rfl) ..).trans ((judged allOps _ s).trans ?_)
  rfl

/-! ## SET BUDGET (R4) -/

theorem setZone_self (s : State) (z : ZoneNo) : s.setZone z (s.zone z) = s := by
  simp [State.setZone, State.zone]

theorem setOper_self (s : State) (o : OpNo) : s.setOper o (s.oper o) = s := by
  simp [State.setOper, State.oper]

theorem storeBudget_bare (s : State) (z : ZoneNo) (b : Nat) :
    (storeBudget s z b).bare = (s.setZone z { s.zone z with budget := b }).bare := by
  unfold storeBudget
  split
  · next same =>
    subst same
    exact congrArg State.bare (setZone_self s z).symm
  · exact inputChange_bare ..

theorem effBudget_setBudget (s : State) (z : ZoneNo) (b : Nat) :
    effBudget (s.setZone z { s.zone z with budget := b }) z = b * derate s z / 256 := by
  simp only [effBudget, State.setZone_zone]
  rfl

theorem effRequest_setBudget (s : State) (z : ZoneNo) (b : Nat) (o : OpNo) :
    effRequest (s.setZone z { s.zone z with budget := b }) z o = effRequest s z o := by
  have active : (s.setZone z { s.zone z with budget := b }).active z o = s.active z o := by simp only [State.active, State.setZone_zone]
  have lives : live (s.setZone z { s.zone z with budget := b }) z = live s z := live_of_link (by simp) rfl
  exact effRequest_of_lanes (carrying_local rfl lives rfl rfl active rfl) fun _ => bindingRequest_local rfl active

theorem ownSetBudget_u16 (s : State) (z : ZoneNo) {b : Nat} (range : b ≤ 65535) :
    ownSetBudget (u8 z.val ++ u16 b) s = (storeBudget s z b, replyOf .ok) := by
  simp only [ownSetBudget, u8, u16, List.cons_append, List.nil_append, numBelow_zone, num16_u16 range]

/-- Settles O21: the clips of a budget alone. -/
theorem budgetStoredAndClipped : Obligations.BudgetStoredAndClipped := by
  intro s z b frame range
  have clips := storeBudget_clips s z b
  have bare := storeBudget_bare s z b
  have ports : (storeBudget s z b).ports = s.ports := by
    apply storeBudget_keeps State.ports <;> intros <;> rfl
  have requests (o : OpNo) : effRequest (storeBudget s z b) z o = effRequest s z o := by
    exact (effRequest_congr bare z o).trans (effRequest_setBudget ..)
  have budget : effBudget (storeBudget s z b) z = b * derate s z / 256 := by
    exact (effBudget_congr bare z).trans (effBudget_setBudget ..)
  refine ⟨_, exec_vn_served (r := .setBudget) (payload := u8 z.val ++ u16 b) frame rfl rfl (ownSetBudget_u16 s z range),
    served_answers ports, served_leaving bare, fun same => ?_, fun new => served_awaits ?_, ?_, fun o => ?_, fun y o other => ?_⟩
  · rw [storeBudget, if_pos same.symm, served_self]
  · rw [storeBudget, if_neg (Ne.symm new)]
    exact mem_inputChange.mpr (.inl rfl)
  · rw [served_noticeQueue, storeBudget]
    split
    · rfl
    · exact inputChange_noticeQueue_vn ..
  · rw [served_grant, clips.grant_of_budget (requests o), budget]
    rfl
  · have kept : snapshotOf (storeBudget s z b) y = snapshotOf s y := (snapshotOf_congr bare y).trans (snapshot_setZone_ne s _ other)
    rw [served_grant]
    exact clips.grant_of_same (effBudget_of_snapshot kept) (effRequest_of_snapshot kept o).ge

/-! ## SET SHARE (R123) -/

theorem le_sum_of_four (f : OpNo → Nat) : ∀ o : OpNo, f o ≤ f 0 + f 1 + f 2 + f 3
  | 0 => by omega
  | 1 => by omega
  | 2 => by omega
  | 3 => by omega

theorem shareSumWith_eq (s : State) (o : OpNo) (n : Nat) :
    shareSumWith s o n = (if 0 = o then n else (s.oper 0).share) + (if 1 = o then n else (s.oper 1).share) +
      (if 2 = o then n else (s.oper 2).share) + if 3 = o then n else (s.oper 3).share := by
  have entry (q : OpNo) : ((shares s).set o n)[q] = if q = o then n else (s.oper q).share := by
    have own : (shares s)[q] = (s.oper q).share := vec4_getElem _ q
    by_cases h : q = o
    · subst h
      simp
    · rw [if_neg h, ← own]
      simp [Fin.val_ne_of_ne (Ne.symm h)]
  rw [shareSumWith, sum4_eq, entry, entry, entry, entry]

theorem storeShare_bare (s : State) (o : OpNo) (n : Nat) : (storeShare s o n).bare = (s.setOper o { s.oper o with share := n }).bare := by
  unfold storeShare
  split
  · next same =>
    subst same
    exact congrArg State.bare (setOper_self s o).symm
  · exact shareChange_bare _

theorem ownSetShare_u16 (s : State) (o : OpNo) {n : Nat} (range : n ≤ 65535) :
    ownSetShare (u8 o.val ++ u16 n) s =
      if 1000 < n then refuse s .outOfRange
      else if 1000 < shareSumWith s o n then refuse s .shareExceeded
      else (storeShare s o n, replyWith (u16 (shareSumWith s o n))) := by
  simp only [ownSetShare, u8, u16, List.cons_append, List.nil_append, numBelow_operator, num16_u16 range, Config.maxShare]

/-- Settles O49: the two tests in their order, then the store. -/
theorem shareStoredAndZonesQueued : Obligations.ShareStoredAndZonesQueued := by
  intro s o n frame range share total
  have sum : shareSumWith s o n = total := shareSumWith_eq s o n
  have owner := ownSetShare_u16 s o range
  rw [sum] at owner
  refine ⟨fun above => ?_, fun legal exceeds => ?_, fun law => ?_⟩
  · exact exec_vn_of_owner_only_replies (r := .setShare) (payload := u8 o.val ++ u16 n) frame rfl rfl (owner.trans (if_pos above))
  · rw [if_neg (Nat.not_lt.mpr legal), if_pos exceeds] at owner
    exact exec_vn_of_owner_only_replies (r := .setShare) (payload := u8 o.val ++ u16 n) frame rfl rfl owner
  · have legal : n ≤ 1000 := by
      have own : share o = n := if_pos rfl
      have := le_sum_of_four share o
      omega
    rw [if_neg (Nat.not_lt.mpr legal), if_neg (Nat.not_lt.mpr law)] at owner
    have ports : (storeShare s o n).ports = s.ports := by
      apply storeShare_keeps State.ports <;> intros <;> rfl
    have grants : (storeShare s o n).grants = s.grants := by
      apply storeShare_keeps State.grants <;> intros <;> rfl
    have short : (storeShare s o n).short = s.short := by
      apply storeShare_keeps State.short <;> intros <;> rfl
    have notices : (storeShare s o n).notices = s.notices := by
      apply storeShare_keeps State.notices <;> intros <;> rfl
    refine ⟨_, exec_vn_served (r := .setShare) (payload := u8 o.val ++ u16 n) frame rfl rfl owner, served_answers ports,
      served_leaving (storeShare_bare s o n), served_grants.trans grants, served_short.trans short,
      served_notices.trans notices, fun same => ?_, fun new z => served_awaits ?_⟩
    · rw [storeShare, if_pos same.symm, served_self]
      rfl
    · rw [storeShare, if_neg (Ne.symm new)]
      exact mem_shareChange ..

/-! ## COMMIT PLAN and ABORT COMMIT (R37, R38) -/

theorem grants_ext {t u : State} (h : ∀ z o, t.grant z o = u.grant z o) : t.grants = u.grants := by
  refine Vector.ext fun i hi => Vector.ext fun j hj => ?_
  exact h ⟨i, hi⟩ ⟨j, hj⟩

/-- A commit leaves the grants as they are where no lane carries before or after it. -/
theorem takeCommit_grants_of_stopped {s : State} (stopped : s.transport = .stopped) : (takeCommit s).grants = s.grants := by
  have clips := takeCommit_clips s
  have bare := takeCommit_bare s
  refine grants_ext fun z o => clips.grant_of_same ?_ ?_
  · exact effBudget_congr bare z
  · rw [effRequest_of_idle (carrying_of_stopped stopped z o)]
    exact Nat.zero_le _

theorem slotted_takeCommit (s : State) (z : ZoneNo) (o : OpNo) : slotted (takeCommit s) z o = slotted (storeCommit s) z o :=
  slotted_congr (takeCommit_bare s) z o

theorem takeCommit_queued {s : State} {z : ZoneNo} (changed : ∃ o, slotted s z o ≠ slotted (takeCommit s) z o) :
    z ∈ (takeCommit s).realloc := by
  obtain ⟨o, differs⟩ := changed
  rw [slotted_takeCommit] at differs
  rw [takeCommit_eq]
  refine mem_inputChanges.mpr (.inl (.inl ?_))
  simpa [allOps] using ⟨o, differs⟩

theorem storeCommit_shadow (s : State) (spoke : SpokeNo) (n : EntryNo) :
    (storeCommit s).shadow spoke n = { count := 0, reported := false } := by
  simp [storeCommit, State.shadow, Shadow.reset]

/-- Settles O29: a commit in STOPPED is taken within the request. -/
theorem planCommittedOrWithdrawn : Obligations.PlanCommittedOrWithdrawn := by
  intro s frame
  refine ⟨?_, fun runs => ?_, fun stopped => ?_⟩
  · refine exec_vn_of_owner_quiet (r := .abortCommit) frame rfl rfl ?_ rfl rfl
    simp only [ownerOf, ownAbortCommit, flagByte_eq]
    rfl
  · refine exec_vn_of_owner_quiet (r := .commitPlan) frame rfl rfl ?_ rfl rfl
    exact congrArg (·, replyOf .ok) (if_neg runs)
  · have owner : ownCommitPlan s = (takeCommit s, replyOf .ok) := congrArg (·, replyOf .ok) (if_pos stopped)
    have bare := takeCommit_bare s
    refine ⟨_, exec_vn_served (r := .commitPlan) (payload := []) frame rfl rfl owner, served_answers (takeCommit_ports s),
      ?_, fun spoke n => ?_, ?_, fun z changed => ?_⟩
    · have shadows : (served s (takeCommit s) .vn (replyOf .ok)).shadows = (storeCommit s).shadows :=
        State.congr_bare State.shadows (served_bare.trans bare) (fun _ => rfl)
      rw [shadows]
      exact served_leaving bare
    · exact (State.congr_bare (State.shadow · spoke n) (served_bare.trans bare) (fun _ => rfl)).trans (storeCommit_shadow s spoke n)
    · exact served_grants.trans (takeCommit_grants_of_stopped stopped)
    · refine served_awaits (takeCommit_queued ?_)
      obtain ⟨o, differs⟩ := changed
      exact ⟨o, by rwa [slotted_congr (served_bare (u := takeCommit s))] at differs⟩

end Sys2Proof.Machine
end

section
/-! The map latch: what it leaves in each record, and O23. -/

namespace Sys2Proof.Machine

open Sys2Proof

/-! ## What a latch leaves (R15, R105) -/

theorem setSettle_settleCount_eq (s : State) (z : ZoneNo) (o : OpNo) (n : Nat) (y : ZoneNo) (q : OpNo) :
    (s.setSettle z o n).settleCount y q = if y = z ∧ q = o then n else s.settleCount y q := by
  by_cases h : y = z ∧ q = o
  · obtain ⟨rfl, rfl⟩ := h
    simp
  · rw [if_neg h]
    exact laneGet_laneSet_of_ne _ n (by tauto)

theorem moveLane_settleCount (s t : State) (z : ZoneNo) (o : OpNo) (y : ZoneNo) (q : OpNo) :
    (moveLane s t z o).settleCount y q =
      if (y = z ∧ q = o) ∧ bindingDiffers s y q = true ∧ (t.oper q).tenancy ≠ .absent then t.settleTime else t.settleCount y q := by
  have told : (fileMove s t z o).settleCount y q = t.settleCount y q :=
    fileMove_keeps (State.settleCount · y q) (fun _ _ => rfl) ..
  have oper : (fileMove s t z o).oper o = t.oper o := fileMove_keeps (State.oper · o) (fun _ _ => rfl) ..
  have time : (fileMove s t z o).settleTime = t.settleTime := fileMove_keeps State.settleTime (fun _ _ => rfl) ..
  unfold moveLane
  dsimp only
  rw [oper]
  by_cases lane : y = z ∧ q = o
  · obtain ⟨rfl, rfl⟩ := lane
    by_cases differs : bindingDiffers s y q = true <;> by_cases absent : (t.oper q).tenancy = .absent <;>
      simp [differs, absent, told, time]
  · rw [if_neg (c := (y = z ∧ q = o) ∧ _) fun h => lane h.1]
    split
    · split
      · exact told
      · rw [setSettle_settleCount_eq, if_neg lane, told]
    · rfl

/-- Loads of the lanes of one list of lanes: each changed one holds the settle time. -/
theorem foldl_moveLane_settleCount (s : State) (z : ZoneNo) (l : List OpNo) (t : State) (y : ZoneNo) (q : OpNo) :
    (l.foldl (fun t o => moveLane s t z o) t).settleCount y q =
      if (y = z ∧ q ∈ l) ∧ bindingDiffers s y q = true ∧ (t.oper q).tenancy ≠ .absent then t.settleTime else t.settleCount y q := by
  induction l generalizing t with
  | nil => simp
  | cons o l ih =>
    have oper : (moveLane s t z o).oper q = t.oper q := moveLane_keeps (State.oper · q) (fun _ _ => rfl) (fun _ _ => rfl) ..
    have time : (moveLane s t z o).settleTime = t.settleTime := moveLane_keeps State.settleTime (fun _ _ => rfl) (fun _ _ => rfl) ..
    rw [List.foldl_cons, ih, oper, time, moveLane_settleCount]
    by_cases lane : y = z ∧ q = o
    · by_cases changed : bindingDiffers s y q = true ∧ (t.oper q).tenancy ≠ .absent
      · simp [lane, lane.1 ▸ lane.2 ▸ changed]
      · rw [if_neg fun h => changed h.2, if_neg fun h => changed h.2, if_neg fun h => changed h.2]
    · have here : y = z ∧ q ∈ o :: l ↔ y = z ∧ q ∈ l := by
        rw [List.mem_cons]
        tauto
      simp only [if_neg fun h => lane (And.left h), here]

theorem foldl_moveLanes_settleCount (s : State) (l : List ZoneNo) (t : State) (y : ZoneNo) (q : OpNo) :
    (l.foldl (moveLanes s) t).settleCount y q =
      if y ∈ l ∧ bindingDiffers s y q = true ∧ (t.oper q).tenancy ≠ .absent then t.settleTime else t.settleCount y q := by
  induction l generalizing t with
  | nil => simp
  | cons z l ih =>
    have oper : (moveLanes s t z).oper q = t.oper q := moveLanes_keeps (State.oper · q) (fun _ _ => rfl) (fun _ _ => rfl) ..
    have time : (moveLanes s t z).settleTime = t.settleTime := moveLanes_keeps State.settleTime (fun _ _ => rfl) (fun _ _ => rfl) ..
    rw [List.foldl_cons, ih, oper, time, moveLanes, foldl_moveLane_settleCount]
    by_cases changed : bindingDiffers s y q = true ∧ (t.oper q).tenancy ≠ .absent
    · by_cases hz : y = z
      · subst hz
        simp [changed, allOps]
      · simp [changed, hz]
    · rw [if_neg fun h => changed h.2, if_neg fun h => changed h.2, if_neg fun h => changed h.2]

theorem withSettle_own_settle {t c : State} {v : Vector (Vector Nat 4) 64} (bare : t.bare = (c.withSettle v).bare) :
    t.bare = (c.withSettle t.settle).bare := by
  have settle : t.settle = v := State.congr_bare State.settle bare (fun _ => rfl)
  rw [settle, bare]

/-- The fields that a latch writes outside the Power Share Unit and the queues (R15). -/
theorem takeLatch_frame (s : State) :
    (takeLatch s).bare =
      (((s.withZones (retable (fun _ r => r.latched) s.zones)).withLatch false).withSettle (takeLatch s).settle).bare := by
  rw [← copyBindings_eq]
  exact withSettle_own_settle (takeLatch_bare s)

theorem withSettle_settleCount (s : State) (v : Vector (Vector Nat 4) 64) (z : ZoneNo) (o : OpNo) :
    (s.withSettle v).settleCount z o = laneGet v z o := rfl

/-- The settle counters after a latch (R105). -/
theorem takeLatch_settleCount (s : State) (z : ZoneNo) (o : OpNo) :
    (takeLatch s).settleCount z o =
      if s.working z o ≠ s.active z o ∧ (s.oper o).tenancy ≠ .absent then s.settleTime else s.settleCount z o := by
  have settle : (takeLatch s).settleCount z o = (latchMoves s).settleCount z o :=
    (State.congr_bare (State.settleCount · z o) (takeLatch_bare s) (fun _ => rfl)).trans (withSettle_settleCount ..)
  rw [settle, latchMoves, foldl_moveLanes_settleCount]
  have oper : (copyBindings s).oper o = s.oper o := copyBindings_keeps (State.oper · o) (fun _ _ => rfl) (fun _ _ => rfl) s
  have time : (copyBindings s).settleTime = s.settleTime := copyBindings_keeps State.settleTime (fun _ _ => rfl) (fun _ _ => rfl) s
  have count : (copyBindings s).settleCount z o = s.settleCount z o := copyBindings_keeps (State.settleCount · z o) (fun _ _ => rfl) (fun _ _ => rfl) s
  rw [oper, time, count]
  simp only [allZones, List.mem_finRange, true_and, bindingDiffers, decide_eq_true_eq]

theorem withSettle_zone (s : State) (v : Vector (Vector Nat 4) 64) (z : ZoneNo) : (s.withSettle v).zone z = s.zone z := rfl
theorem withLatch_zone (s : State) (b : Bool) (z : ZoneNo) : (s.withLatch b).zone z = s.zone z := rfl
theorem withZones_zone (s : State) (v : Vector ZoneRec 64) (z : ZoneNo) : (s.withZones v).zone z = v[z] := rfl

/-- The zone records after a latch (R15). -/
theorem takeLatch_zone (s : State) (z : ZoneNo) : (takeLatch s).zone z = (s.zone z).latched := by
  have zones := State.congr_bare (State.zone · z) (takeLatch_frame s) (fun _ => rfl)
  rw [withSettle_zone, withLatch_zone, withZones_zone, retable_getElem] at zones
  exact zones

theorem withSettle_latchPending (s : State) (v : Vector (Vector Nat 4) 64) : (s.withSettle v).latchPending = s.latchPending := rfl

theorem takeLatch_latchPending (s : State) : (takeLatch s).latchPending = false :=
  (State.congr_bare State.latchPending (takeLatch_frame s) (fun _ => rfl)).trans (withSettle_latchPending ..)

/-- A zone with a changed lane is queued by the latch (R15). -/
theorem takeLatch_queued {s : State} {z : ZoneNo} (changed : ∃ o, s.working z o ≠ s.active z o) : z ∈ (takeLatch s).realloc := by
  rw [takeLatch_eq]
  refine mem_inputChanges.mpr (.inl (.inl ?_))
  simpa [allOps, bindingDiffers] using changed

/-- What does not read the latch-pending flag is that of a state that differs in it. -/
theorem congr_bare_withLatch {β : Type} (g : State → β) {x w : State} {b : Bool} (same : x.bare = (w.withLatch b).bare)
    (bare : ∀ s : State, g s.bare = g s) (flag : ∀ (s : State) (b : Bool), g (s.withLatch b) = g s) :
    g x = g w := (State.congr_bare g same bare).trans (flag w b)

theorem own_fields_of_latched {t y : State} {Z : Vector ZoneRec 64} {S : Vector (Vector Nat 4) 64}
    (frame : t.bare = (((y.withZones Z).withLatch false).withSettle S).bare) :
    t.bare = (((y.withZones t.zones).withLatch false).withSettle t.settle).bare := by
  have zones : t.zones = Z := State.congr_bare State.zones frame (fun _ => rfl)
  have settle : t.settle = S := State.congr_bare State.settle frame (fun _ => rfl)
  rw [zones, settle, frame]

/-- What a latch of a state x leaves, told from a state w that differs from x in the latch-pending flag and the queues. -/
theorem latchTaken_of {w x t : State} {b : Bool} (before : x.bare = (w.withLatch b).bare) (after : t.bare = (takeLatch x).bare)
    (queued : ∀ z : ZoneNo, z ∈ (takeLatch x).realloc → AwaitsAllocation t z) : LatchTaken w t := by
  have zone (z : ZoneNo) : x.zone z = w.zone z := congr_bare_withLatch (State.zone · z) before (fun _ => rfl) (fun _ _ => rfl)
  have oper (o : OpNo) : x.oper o = w.oper o := congr_bare_withLatch (State.oper · o) before (fun _ => rfl) (fun _ _ => rfl)
  have count (z : ZoneNo) (o : OpNo) : x.settleCount z o = w.settleCount z o := congr_bare_withLatch (State.settleCount · z o) before (fun _ => rfl) (fun _ _ => rfl)
  have time : x.settleTime = w.settleTime := congr_bare_withLatch State.settleTime before (fun _ => rfl) (fun _ _ => rfl)
  have differs (z : ZoneNo) (o : OpNo) : x.working z o ≠ x.active z o ↔ w.working z o ≠ w.active z o := by
    rw [State.working, State.active, zone]
    rfl
  refine ⟨(State.congr_bare State.latchPending after (fun _ => rfl)).trans (takeLatch_latchPending x), fun z => ?_, fun z o => ?_, fun z changed => ?_⟩
  · rw [State.congr_bare (State.zone · z) after (fun _ => rfl), takeLatch_zone, zone]
    rfl
  · rw [State.congr_bare (State.settleCount · z o) after (fun _ => rfl), takeLatch_settleCount, oper, count, time]
    simp only [differs]
  · obtain ⟨o, other⟩ := changed
    exact queued z (takeLatch_queued ⟨o, (differs z o).mpr other⟩)

theorem latched_frame {w x t : State} {b : Bool} (before : x.bare = (w.withLatch b).bare) (after : t.bare = (takeLatch x).bare) :
    t = (((w.withZones t.zones).withLatch false).withSettle t.settle).leaving t := by
  rw [eq_leaving_iff]
  have same : x.bare = w.bare.withLatch b := before
  have frame (zones : Vector ZoneRec 64) (settle : Vector (Vector Nat 4) 64) :
      (((x.withZones zones).withLatch false).withSettle settle).bare = (((w.withZones zones).withLatch false).withSettle settle).bare :=
    congrArg (fun y => ((y.withZones zones).withLatch false).withSettle settle) same
  exact (own_fields_of_latched (after.trans (takeLatch_frame x))).trans (frame ..)

/-! ## MOVE ZONE (R14, R16) -/

/-- A withdrawal writes the Spread Engine's states and the queues alone. -/
theorem withdrawIf_eq (s : State) (o : OpNo) (test : Proposal → Bool) (why : WithdrawCause) :
    withdrawIf s o test why =
      (s.withSpread (closedWhere s fun q p => decide (q = o) && test p)).withNotices (withdrawIf s o test why).notices := by
  have spread : (withdrawIf s o test why).spread = closedWhere s fun q p => decide (q = o) && test p :=
    congrArg State.spread (withdrawIf_bare s o test why)
  have frame (c : Vector SpreadRec 4) (q : Vector NoticeQueue 5) :
      ((withdrawIf s o test why).withSpread c).withNotices q = (s.withSpread c).withNotices q :=
    withdrawIf_keeps (fun t => (t.withSpread c).withNotices q) (fun _ _ => rfl) (fun _ _ => rfl) s o test why
  rw [← spread]
  exact (withSpread_withNotices_self _).symm.trans (frame ..)

/-- The map and the proposals that MOVE ZONE leaves before any latch. -/
def moved (s : State) (z : ZoneNo) (o : OpNo) (b : Option SectorNo) : State :=
  (setWorking s z o b).withSpread (closedWhere s fun q p => decide (q = o) && decide (p.zone = z))

theorem manualMove_of_running {s : State} (runs : s.transport ≠ .stopped) (z : ZoneNo) (o : OpNo) (b : Option SectorNo) :
    manualMove s z o b = ((moved s z o b).withLatch true).withNotices (manualMove s z o b).notices := by
  have before := withdrawIf_eq (workingWrite s z o b) o (fun p => decide (p.zone = z)) .manualMove
  have still : (withdrawIf (workingWrite s z o b) o (fun p => decide (p.zone = z)) .manualMove).transport ≠ .stopped := by
    rw [before]
    exact runs
  rw [manualMove, latchIfStopped_of_running still]
  exact before

/-- In STOPPED the latch follows the write. -/
theorem manualMove_of_stopped {s : State} (stopped : s.transport = .stopped) (z : ZoneNo) (o : OpNo) (b : Option SectorNo) :
    ∃ x : State, manualMove s z o b = takeLatch x ∧ x.bare = ((moved s z o b).withLatch true).bare ∧ x.ports = s.ports := by
  have before := withdrawIf_eq (workingWrite s z o b) o (fun p => decide (p.zone = z)) .manualMove
  obtain ⟨x, hx⟩ : ∃ x, x = withdrawIf (workingWrite s z o b) o (fun p => decide (p.zone = z)) .manualMove := ⟨_, rfl⟩
  rw [← hx] at before
  refine ⟨x, ?_, ?_, ?_⟩
  · rw [manualMove, ← hx, latchIfStopped, if_pos]
    rw [before]
    exact ⟨stopped, rfl⟩
  · rw [before]
    rfl
  · rw [before]
    rfl

theorem sectorOrNone_sectorByte (b : Option SectorNo) : ∃ c, sectorByte b = [c] ∧ sectorOrNone c = some b := by
  cases b with
  | none => exact ⟨0xFF, rfl, rfl⟩
  | some sec =>
    refine ⟨BitVec.ofNat 8 sec.val, rfl, ?_⟩
    have other : BitVec.ofNat 8 sec.val ≠ 0xFF := by
      have := sec.isLt
      intro h
      have := congrArg BitVec.toNat h
      simp at this
      omega
    rw [sectorOrNone, if_neg other, numBelow_sector]
    rfl

theorem ownMoveZone_bytes (s : State) (z : ZoneNo) (o : OpNo) (b : Option SectorNo) :
    ownMoveZone (u8 z.val ++ u8 o.val ++ sectorByte b) s =
      if (s.zone z).provisioned = false ∨ (s.oper o).tenancy = .absent then refuse s .badState
      else (manualMove s z o b, replyOf .ok) := by
  obtain ⟨c, bytes, decoded⟩ := sectorOrNone_sectorByte b
  rw [bytes]
  simp only [ownMoveZone, u8, List.cons_append, List.nil_append, numBelow_zone, numBelow_operator, decoded]

theorem moveZone_length (z : ZoneNo) (o : OpNo) (b : Option SectorNo) :
    ([3] : List Nat).contains (u8 z.val ++ u8 o.val ++ sectorByte b).length = true := by
  obtain ⟨c, bytes, -⟩ := sectorOrNone_sectorByte b
  rw [bytes]
  rfl

/-- Settles O23: the write waits for the latch, or the latch follows it in STOPPED. -/
theorem moveZoneWritesWorkingMap : Obligations.MoveZoneWritesWorkingMap := by
  intro s z o b frame
  have owner := ownMoveZone_bytes s z o b
  refine ⟨fun bad => ?_, fun present tenant => ?_⟩
  · exact exec_vn_of_owner_only_replies (r := .moveZone) frame rfl (moveZone_length z o b) (owner.trans (if_pos bad))
  · rw [if_neg (by simp [present, tenant])] at owner
    have ports : (manualMove s z o b).ports = s.ports := by
      apply manualMove_keeps State.ports <;> intros <;> rfl
    refine ⟨_, exec_vn_served (r := .moveZone) frame rfl (moveZone_length z o b) owner, served_answers ports, fun runs => ?_,
      fun stopped => ?_⟩
    · have whole := manualMove_of_running runs z o b
      have quiet : endEvent s (manualMove s z o b) = manualMove s z o b := by
        rw [whole]
        exact endEvent_quiet rfl rfl
      rw [served, quiet, whole]
      rfl
    · obtain ⟨x, latched, before, -⟩ := manualMove_of_stopped stopped z o b
      rw [latched]
      exact ⟨latchTaken_of before served_bare fun _ => served_awaits, latched_frame before served_bare⟩

end Sys2Proof.Machine
end

section
/-! What a step can write outside the Power Share Unit, the Allocation Engine, the queues and the ports, one record or table
at a time, and that each such write keeps the invariants. -/

namespace Sys2Proof.Machine

open Sys2Proof

/-! ## The writes -/

/-- A protection record is as its class's mode and R63 have it. -/
def soundRecord (m : ClassMode) (r : ProtRec) : Prop := goodRecord m r ∧ (r.raw = true → m ≠ .ignore → r.latched = true)

/-- A link record that may follow the one of zone z: a link leaves UP and WEAK only when no raw bit is set and no proposal is
open at its zone, and leaves IDLE only for a provisioned zone while the transport runs (R49, R58, R72, R116). -/
structure LinkStep (s : State) (z : ZoneNo) (r : LinkRec) : Prop where
  good : goodLink (s.link z) → goodLink r
  falls : live s z = true → heard r.state = false →
    (∀ c : ClassNo, (s.protRec z c).raw = false) ∧ ∀ (o : OpNo) (p : Proposal), (s.spreadRec o).proposal = some p → p.zone ≠ z
  wakes : (s.link z).state = .idle → r.state ≠ .idle → (s.zone z).provisioned = true ∧ s.transport ≠ .stopped

/-- A protection record that may follow the one of class c at zone z: a raw bit rises at a live zone alone. -/
structure RecordStep (s : State) (z : ZoneNo) (c : ClassNo) (r : ProtRec) : Prop where
  sound : soundRecord (s.mode c) (s.protRec z c) → soundRecord (s.mode c) r
  rises : r.raw = true → (s.protRec z c).raw = true ∨ live s z = true

/-- A proposal that the evaluation of o may open (R108, R111). -/
structure Opens (s : State) (o : OpNo) (p : Proposal) : Prop where
  runs : s.transport ≠ .stopped
  tenant : (s.oper o).tenancy = .active
  lives : live s p.zone = true
  free : (s.zone p.zone).pinned = false
  bound : s.active p.zone o = some p.fromSector
  settled : s.latchPending = true → s.working p.zone o = s.active p.zone o

/-- A spreading state that may follow the one of o: its open proposal is the old one, counted down, or one that opens. -/
structure SpreadStep (s : State) (o : OpNo) (r : SpreadRec) : Prop where
  good : goodOperator (s.oper o) → goodSpread (s.spreadRec o) → goodSpread r
  stands : ∀ p : Proposal, r.proposal = some p →
    (∃ q : Proposal, (s.spreadRec o).proposal = some q ∧ q.zone = p.zone ∧ q.fromSector = p.fromSector) ∨ Opens s o p

/-- Zone records and a latch-pending flag that may follow those of s: bindings alone change, none at an unprovisioned zone and
none that an open proposal is from, and the maps agree where the flag is clear (R13, R15, R16, R111). `whole` says that the step began in a state as MapInv has it. -/
structure MapStep (whole : Prop) (s : State) (v : Vector ZoneRec 64) (flag : Bool) : Prop where
  frame : ∀ z : ZoneNo, v[z] = { s.zone z with working := v[z].working, active := v[z].active }
  absent : whole → ∀ z : ZoneNo, (s.zone z).provisioned = false → (∀ o : OpNo, s.working z o = none ∧ s.active z o = none) →
    ∀ o : OpNo, v[z].working[o] = none ∧ v[z].active[o] = none
  bound : ∀ (o : OpNo) (p : Proposal), (s.oper o).tenancy = .active → (s.spreadRec o).proposal = some p →
    v[p.zone].working[o] = s.working p.zone o
  latched : flag = false → ∀ (z : ZoneNo) (o : OpNo), v[z].working[o] = v[z].active[o]
  stopped : s.transport = .stopped → flag = false

/-- One write of a step. -/
inductive Write (whole : Prop) (s : State) : State → Prop
  | quiet {t : State} (same : t.bare = s.bare) : Write whole s t
  | queue (l : List Instr) : Write whole s { s with pending := l }
  | edges (n : Nat) : Write whole s { s with edges := n }
  | mark (b : Bool) : Write whole s { s with mark := b }
  | window (w : PlanWindow) : Write whole s { s with window := w }
  | stale (n : Nat) (range : n ≤ Config.max16) : Write whole s { s with stale := n }
  | awaitCommit (runs : s.transport ≠ .stopped) : Write whole s { s with commitPending := true }
  | abortCommit : Write whole s { s with commitPending := false }
  | commit : Write whole s (storeCommit s)
  | advance (runs : s.transport ≠ .stopped) : Write whole s (advanceCounts s)
  | drain (running : s.transport = .running) : Write whole s { s with transport := .draining }
  | start (stopped : s.transport = .stopped) : Write whole s (started s)
  | sends (runs : s.transport ≠ .stopped) (d : Option Downlink) : Write whole s { s with downlink := d }
  | planEntry (spoke : SpokeNo) (n : EntryNo) (e : PlanEntry) (good : goodEntry e) : Write whole s (s.setWorkEntry spoke n e)
  | shadow (spoke : SpokeNo) (n : EntryNo) (h : Shadow) (range : h.count ≤ Config.max8) : Write whole s (s.setShadow spoke n h)
  | lostLimit (n : Nat) (low : Config.minLostLimit ≤ n) (high : n ≤ Config.maxLostLimit) : Write whole s { s with lostLimit := n }
  | level (c : ClassNo) (n : Nat) (low : 1 ≤ n) (high : n ≤ Config.max8) : Write whole s (storeLevel s c n)
  | times (a b : Nat) (first : a ≤ 65535) (second : b ≤ 65535) : Write whole s { s with settleTime := a, holdOff := b }
  | budget (z : ZoneNo) (b : Nat) (range : b ≤ 65535) : Write whole s (s.setZone z { s.zone z with budget := b })
  | neighbours (z : ZoneNo) (l : List ZoneNo) (good : goodNeighbours z l = true) :
      Write whole s (s.setZone z { s.zone z with neighbours := l })
  | pin (z : ZoneNo) (b : Bool) (present : (s.zone z).provisioned = true)
      (free : b = true → (s.zone z).pinned = false → ∀ (o : OpNo) (p : Proposal), (s.spreadRec o).proposal = some p → p.zone ≠ z) :
      Write whole s (s.setZone z { s.zone z with pinned := b })
  | provision (z : ZoneNo) : Write whole s (s.setZone z { s.zone z with provisioned := true })
  | retire (z : ZoneNo) (idle : (s.link z).state = .idle)
      (free : whole → ∀ (o : OpNo) (p : Proposal), (s.spreadRec o).proposal = some p → p.zone ≠ z) :
      Write whole s (s.setZone z (s.zone z).retired)
  | bindings (v : Vector ZoneRec 64) (flag : Bool) (each : MapStep whole s v flag) : Write whole s ((s.withZones v).withLatch flag)
  | links (v : Vector LinkRec 64) (each : ∀ z : ZoneNo, LinkStep s z v[z]) : Write whole s (s.withLinks v)
  | records (v : Vector (Vector ProtRec 6) 64) (each : ∀ (z : ZoneNo) (c : ClassNo), RecordStep s z c v[z][c]) :
      Write whole s (s.withProt v)
  | mode (c : ClassNo) (m : ClassMode) (permitted : permits c m = true) : Write whole s (reenterClass s c m)
  | cells (v : Vector (Vector Nat 4) 64)
      (range : (∀ o : OpNo, goodOperator (s.oper o)) → (∀ (z : ZoneNo) (o : OpNo), s.cell z o ≤ Config.maxCell) →
        ∀ (z : ZoneNo) (o : OpNo), laneGet v z o ≤ Config.maxCell) :
      Write whole s (s.withCells v)
  | settles (v : Vector (Vector Nat 4) 64)
      (range : s.settleTime ≤ 65535 → s.holdOff ≤ 65535 → (∀ (z : ZoneNo) (o : OpNo), s.settleCount z o ≤ 65535) →
        ∀ (z : ZoneNo) (o : OpNo), laneGet v z o ≤ 65535) : Write whole s (s.withSettle v)
  | spreads (v : Vector SpreadRec 4) (each : ∀ o : OpNo, SpreadStep s o v[o]) : Write whole s (s.withSpread v)
  | operator (o : OpNo) (r : OpRec) (good : goodOperator (s.oper o) → goodOperator r)
      (leaves : (s.oper o).tenancy = .active → r.tenancy ≠ .active → (s.spreadRec o).proposal = none) : Write whole s (s.setOper o r)

/-- Any number of writes, one after another. -/
def Writes (whole : Prop) : State → State → Prop := Relation.ReflTransGen (Write whole)

theorem Writes.keeps {whole : Prop} {P : State → Prop} (write : ∀ {s t : State}, Write whole s t → P s → P t) {s t : State}
    (h : Writes whole s t)
    (before : P s) : P t := by
  induction h with
  | refl => exact before
  | tail _ last ih => exact write last ih

/-! ## What depends on the bare state alone -/

theorem idleLaw_congr {t u : State} (h : t.bare = u.bare) : IdleLaw t = IdleLaw u := State.congr_bare IdleLaw h (fun _ => rfl)
theorem protectionInv_congr {t u : State} (h : t.bare = u.bare) : ProtectionInv t = ProtectionInv u :=
  State.congr_bare ProtectionInv h (fun _ => rfl)
theorem mapInv_congr {t u : State} (h : t.bare = u.bare) : MapInv t = MapInv u := State.congr_bare MapInv h (fun _ => rfl)
theorem rangesInv_congr {t u : State} (h : t.bare = u.bare) : RangesInv t = RangesInv u := State.congr_bare RangesInv h (fun _ => rfl)

/-- What StoppedInv asks of a transport that is STOPPED. -/
def Stopped (s : State) : Prop :=
  (∀ z : ZoneNo, (s.link z).state = .idle) ∧ s.latchPending = false ∧ s.commitPending = false ∧ s.firstPending = false ∧
    s.downlink = none ∧ ∀ o : OpNo, (s.spreadRec o).proposal = none

theorem stoppedInv_iff (s : State) : StoppedInv s ↔ (s.transport = .stopped → Stopped s) := Iff.rfl

theorem stoppedInv_congr {t u : State} (h : t.bare = u.bare) : StoppedInv t = StoppedInv u := State.congr_bare StoppedInv h (fun _ => rfl)

/-! ## The idle links (R49, R57) -/

theorem advanceCounts_idleLaw {s : State} (law : IdleLaw s) : IdleLaw (advanceCounts s) := by
  have keep := advanceCounts_keeps IdleLaw (fun _ _ => rfl) (fun _ _ => rfl) (fun _ _ => rfl) s
  rwa [keep]

theorem storeLevel_keeps' {β : Type} (g : State → β) (temp : ∀ (s : State) (n : Nat), g { s with tempLevel := n } = g s)
    (reflect : ∀ (s : State) (n : Nat), g { s with reflectLevel := n } = g s) (s : State) (c : ClassNo) (n : Nat) :
    g (storeLevel s c n) = g s := by
  unfold storeLevel
  split
  · exact temp s n
  · exact reflect s n

theorem reenterClass_keeps {β : Type} (g : State → β) (modes : ∀ (s : State) (v : Vector ClassMode 6), g (s.withModes v) = g s)
    (prot : ∀ (s : State) (v : Vector (Vector ProtRec 6) 64), g (s.withProt v) = g s) (s : State) (c : ClassNo) (m : ClassMode) :
    g (reenterClass s c m) = g s := (prot ..).trans (modes ..)

/-- A write to one zone's record keeps what holds of every zone's record and holds of the new one. -/
theorem forall_setZone {s : State} {z : ZoneNo} {r : ZoneRec} {P : ZoneNo → ZoneRec → Prop} (all : ∀ y, P y (s.zone y))
    (new : P z r) (y : ZoneNo) : P y ((s.setZone z r).zone y) := by
  by_cases h : y = z
  · subst h
    rwa [State.setZone_zone]
  · rw [s.setZone_zone_ne r h]
    exact all y

theorem setZone_idleLaw {s : State} {z : ZoneNo} {r : ZoneRec} (law : IdleLaw s)
    (new : r.provisioned = false ∨ s.transport = .stopped → (s.link z).state = .idle) : IdleLaw (s.setZone z r) :=
  forall_setZone (P := fun y r => r.provisioned = false ∨ s.transport = .stopped → (s.link y).state = .idle) law new

theorem idleLaw_of {s t : State} (law : IdleLaw s) (zones : t.zones = s.zones) (links : t.links = s.links)
    (transport : t.transport = s.transport) : IdleLaw t := by
  unfold IdleLaw State.zone State.link at *
  rwa [zones, links, transport]

/-- Every write keeps the idle links. -/
theorem Write.idleLaw {whole : Prop} {s t : State} (h : Write whole s t) (law : IdleLaw s) : IdleLaw t := by
  cases h with
  | quiet same => rwa [idleLaw_congr same]
  | advance => exact advanceCounts_idleLaw law
  | level c n => rwa [storeLevel_keeps' IdleLaw (fun _ _ => rfl) (fun _ _ => rfl)]
  | mode c m => rwa [reenterClass_keeps IdleLaw (fun _ _ => rfl) (fun _ _ => rfl)]
  | drain running =>
    intro z bare
    rcases bare with absent | stopped
    · exact law z (.inl absent)
    · cases stopped
  | start stopped =>
    intro z bare
    rcases bare with absent | running
    · have absent : (s.zone z).provisioned = false := absent
      rw [started_link, if_neg (by simp [absent])]
      exact law z (.inl absent)
    · cases running
  | budget z b => exact setZone_idleLaw law (law z)
  | neighbours z l => exact setZone_idleLaw law (law z)
  | pin z b => exact setZone_idleLaw law (law z)
  | provision z => exact setZone_idleLaw law fun bare => law z (.inr (bare.resolve_left Bool.noConfusion))
  | retire z idle => exact setZone_idleLaw law fun _ => idle
  | bindings v flag each =>
    intro z bare
    have same : v[z].provisioned = (s.zone z).provisioned := (congrArg ZoneRec.provisioned (each.frame z) :)
    exact law z (bare.imp_left same.symm.trans)
  | links v each =>
    intro z bare
    by_contra awake
    obtain ⟨present, runs⟩ := (each z).wakes (law z bare) awake
    rcases bare with absent | stopped
    · exact Bool.false_ne_true (absent.symm.trans present)
    · exact runs stopped
  | _ => exact idleLaw_of law rfl rfl rfl

/-! ## STOPPED -/

theorem stoppedInv_of {s t : State} (inv : StoppedInv s) (transport : t.transport = s.transport) (links : t.links = s.links)
    (latch : t.latchPending = s.latchPending) (commit : t.commitPending = s.commitPending) (first : t.firstPending = s.firstPending)
    (downlink : t.downlink = s.downlink) (spread : t.spread = s.spread) : StoppedInv t := by
  unfold StoppedInv State.link State.spreadRec at *
  rwa [transport, links, latch, commit, first, downlink, spread]

/-- Every write keeps the STOPPED state. -/
theorem Write.stoppedInv {whole : Prop} {s t : State} (h : Write whole s t) (inv : StoppedInv s) : StoppedInv t := by
  cases h with
  | quiet same => rwa [stoppedInv_congr same]
  | awaitCommit runs => exact fun stopped => absurd stopped runs
  | advance runs =>
    have transport : (advanceCounts s).transport = s.transport :=
      advanceCounts_keeps State.transport (fun _ _ => rfl) (fun _ _ => rfl) (fun _ _ => rfl) s
    exact fun stopped => absurd (transport.symm.trans stopped) runs
  | sends runs => exact fun stopped => absurd stopped runs
  | level c n => rwa [storeLevel_keeps' StoppedInv (fun _ _ => rfl) (fun _ _ => rfl)]
  | mode c m => rwa [reenterClass_keeps StoppedInv (fun _ _ => rfl) (fun _ _ => rfl)]
  | abortCommit =>
    intro stopped
    obtain ⟨idle, latch, -, rest⟩ := inv stopped
    exact ⟨idle, latch, rfl, rest⟩
  | commit =>
    intro stopped
    obtain ⟨idle, latch, -, rest⟩ := inv stopped
    exact ⟨idle, latch, rfl, rest⟩
  | drain => exact fun stopped => nomatch stopped
  | start => exact fun running => nomatch (show Transport.running = Transport.stopped from running)
  | bindings v flag each =>
    intro stopped
    obtain ⟨idle, -, rest⟩ := inv stopped
    exact ⟨idle, each.stopped stopped, rest⟩
  | links v each =>
    intro stopped
    obtain ⟨idle, rest⟩ := inv stopped
    refine ⟨fun z => ?_, rest⟩
    by_contra awake
    exact ((each z).wakes (idle z) awake).2 stopped
  | spreads v each =>
    intro stopped
    obtain ⟨idle, latch, commit, first, downlink, closed⟩ := inv stopped
    refine ⟨idle, latch, commit, first, downlink, fun o => ?_⟩
    by_contra standing
    obtain ⟨p, hp⟩ := Option.ne_none_iff_exists'.mp standing
    rcases (each o).stands p hp with ⟨q, hq, -⟩ | opens
    · rw [closed o] at hq
      cases hq
    · exact opens.runs stopped
  | _ => exact stoppedInv_of inv rfl rfl rfl rfl rfl rfl rfl

/-! ## The protection records (R63 to R72) -/

theorem protectionInv_iff (s : State) : ProtectionInv s ↔
    (∀ (z : ZoneNo) (c : ClassNo), soundRecord (s.mode c) (s.protRec z c)) ∧ ModesLaw s ∧ DarkLaw s := by
  constructor
  · rintro ⟨latched, good, modes, dark⟩
    exact ⟨fun z c => ⟨good z c, latched z c⟩, modes, dark⟩
  · rintro ⟨sound, modes, dark⟩
    exact ⟨fun z c => (sound z c).2, fun z c => (sound z c).1, modes, dark⟩

/-- A record re-entered under a mode is sound in it (R66). -/
theorem reenter_sound (m : ClassMode) (r : ProtRec) : soundRecord m (reenter m r) := by
  unfold reenter soundRecord goodRecord
  cases hr : r.raw with
  | false => simp
  | true => by_cases hm : m = .ignore <;> simp [hm]

theorem reenter_raw (m : ClassMode) (r : ProtRec) : (reenter m r).raw = r.raw := by
  unfold reenter
  split
  · split <;> rfl
  · rfl

theorem reenterClass_mode (s : State) (c d : ClassNo) (m : ClassMode) :
    (reenterClass s c m).mode d = if d = c then m else s.mode d := by
  show (s.modes.set c m)[d] = _
  by_cases h : d = c
  · subst h
    simp
  · rw [if_neg h]
    have other : c.val ≠ d.val := fun e => h (Fin.ext e.symm)
    exact Vector.getElem_set_ne _ _ other

theorem withProt_protRec (s : State) (v : Vector (Vector ProtRec 6) 64) (z : ZoneNo) (c : ClassNo) :
    (s.withProt v).protRec z c = v[z][c] := rfl

theorem reenterClass_protRec (s : State) (z : ZoneNo) (c d : ClassNo) (m : ClassMode) :
    (reenterClass s c m).protRec z d = if d = c then reenter m (s.protRec z c) else s.protRec z d := by
  rw [reenterClass, withProt_protRec, retable_getElem]
  by_cases h : d = c
  · subst h
    simp [State.protRec]
  · rw [if_neg h]
    have other : c.val ≠ d.val := fun e => h (Fin.ext e.symm)
    exact Vector.getElem_set_ne _ _ other

theorem protectionInv_of {s t : State} (inv : ProtectionInv s) (prot : t.prot = s.prot) (modes : t.modes = s.modes)
    (zones : t.zones = s.zones) (links : t.links = s.links) : ProtectionInv t := by
  unfold ProtectionInv LatchedLaw ModesLaw DarkLaw live State.protRec State.mode State.zone State.link at *
  rwa [prot, modes, zones, links]

/-- Zone records that are as much provisioned as before keep the protection records. -/
theorem setZone_protectionInv {s : State} {z : ZoneNo} {r : ZoneRec} (inv : ProtectionInv s)
    (same : live (s.setZone z r) z = false → live s z = false ∨ ∀ c, (s.protRec z c).raw = false) :
    ProtectionInv (s.setZone z r) := by
  obtain ⟨sound, modes, dark⟩ := (protectionInv_iff s).mp inv
  refine (protectionInv_iff _).mpr ⟨sound, modes, fun y c unlit => ?_⟩
  by_cases h : y = z
  · subst h
    rcases same unlit with before | clear
    · exact dark y c before
    · exact clear c
  · refine dark y c (Eq.trans ?_ unlit)
    rw [live, live, s.setZone_zone_ne r h]
    rfl

theorem setZone_live (s : State) (z : ZoneNo) (r : ZoneRec) : live (s.setZone z r) z = (r.provisioned && heard (s.link z).state) := by
  rw [live, s.setZone_zone]
  rfl

/-- Every write keeps the protection records. -/
theorem Write.protectionInv {whole : Prop} {s t : State} (h : Write whole s t) (inv : ProtectionInv s) : ProtectionInv t := by
  have kept {z : ZoneNo} {r : ZoneRec} (same : r.provisioned = (s.zone z).provisioned) : ProtectionInv (s.setZone z r) :=
    setZone_protectionInv inv fun dark => .inl (by rwa [setZone_live, same] at dark)
  cases h with
  | quiet same => rwa [protectionInv_congr same]
  | advance => rwa [advanceCounts_keeps ProtectionInv (fun _ _ => rfl) (fun _ _ => rfl) (fun _ _ => rfl) s]
  | level c n => rwa [storeLevel_keeps' ProtectionInv (fun _ _ => rfl) (fun _ _ => rfl)]
  | start stopped =>
    obtain ⟨sound, modes, dark⟩ := (protectionInv_iff s).mp inv
    refine (protectionInv_iff _).mpr ⟨sound, modes, fun z c unlit => dark z c (Eq.trans ?_ unlit)⟩
    rw [live, live, started_heard]
    rfl
  | budget z b => exact kept rfl
  | neighbours z l => exact kept rfl
  | pin z b => exact kept rfl
  | provision z =>
    refine setZone_protectionInv inv fun dark => .inl ?_
    rw [setZone_live, Bool.true_and] at dark
    rw [live, dark, Bool.and_false]
  | retire z idle => exact setZone_protectionInv inv fun _ => .inl (live_of_idle idle)
  | bindings v flag each =>
    obtain ⟨sound, modes, dark⟩ := (protectionInv_iff s).mp inv
    refine (protectionInv_iff _).mpr ⟨sound, modes, fun z c unlit => dark z c (Eq.trans ?_ unlit)⟩
    have same : v[z].provisioned = (s.zone z).provisioned := (congrArg ZoneRec.provisioned (each.frame z) :)
    exact congrArg (· && heard (s.link z).state) same.symm
  | links v each =>
    obtain ⟨sound, modes, dark⟩ := (protectionInv_iff s).mp inv
    refine (protectionInv_iff _).mpr ⟨sound, modes, fun z c unlit => ?_⟩
    cases lit : live s z with
    | false => exact dark z c lit
    | true =>
      obtain ⟨present, up⟩ := Bool.and_eq_true_iff.mp lit
      have unlit : ((s.zone z).provisioned && heard v[z].state) = false := unlit
      rw [present, Bool.true_and] at unlit
      exact ((each z).falls lit unlit).1 c
  | records v each =>
    obtain ⟨sound, modes, dark⟩ := (protectionInv_iff s).mp inv
    refine (protectionInv_iff _).mpr ⟨fun z c => (each z c).sound (sound z c), modes, fun z c unlit => ?_⟩
    by_contra raised
    rcases (each z c).rises (Bool.not_eq_false _ ▸ raised) with before | lit
    · exact Bool.false_ne_true ((dark z c unlit).symm.trans before)
    · exact Bool.false_ne_true (unlit.symm.trans lit)
  | mode c m permitted =>
    obtain ⟨sound, modes, dark⟩ := (protectionInv_iff s).mp inv
    have live_same (z : ZoneNo) : live (reenterClass s c m) z = live s z :=
      reenterClass_keeps (live · z) (fun _ _ => rfl) (fun _ _ => rfl) s c m
    refine (protectionInv_iff _).mpr ⟨fun z d => ?_, fun d => ?_, fun z d unlit => ?_⟩
    · rw [reenterClass_mode, reenterClass_protRec]
      split
      · exact reenter_sound ..
      · exact sound z d
    · rw [reenterClass_mode]
      split
      · next same => rwa [same]
      · exact modes d
    · rw [live_same] at unlit
      rw [reenterClass_protRec]
      split
      · rw [reenter_raw]
        exact dark z c unlit
      · exact dark z d unlit
  | _ => exact protectionInv_of inv rfl rfl rfl rfl

/-! ## The zone map and the proposals (R1, R13, R49, R111) -/

theorem mapInv_of {s t : State} (inv : MapInv s) (zones : t.zones = s.zones) (links : t.links = s.links) (ops : t.ops = s.ops)
    (latch : t.latchPending = s.latchPending) (spread : t.spread = s.spread) : MapInv t := by
  unfold MapInv unprovisionedZone standingProposal live State.working State.active State.zone State.link State.oper
    State.spreadRec at *
  rwa [zones, links, ops, latch, spread]

/-- A new record of one zone that is itself as the map has it keeps the map. -/
theorem setZone_mapInv {s : State} {z : ZoneNo} {r : ZoneRec} (inv : MapInv s)
    (absent : r.provisioned = false → (∀ o : OpNo, r.working[o] = none ∧ r.active[o] = none) ∧ r.pinned = false ∧ (s.link z).state = .idle)
    (neighbours : goodNeighbours z r.neighbours = true)
    (maps : s.latchPending = false → ∀ o : OpNo, r.working[o] = r.active[o])
    (stands : ∀ (o : OpNo) (p : Proposal), (s.spreadRec o).proposal = some p → p.zone = z → standingProposal s o p →
      r.provisioned = true ∧ r.pinned = false ∧ r.working[o] = some p.fromSector) :
    MapInv (s.setZone z r) := by
  obtain ⟨unprovisioned, listed, latched, standing⟩ := inv
  refine ⟨?_, ?_, fun clear => ?_, fun o p hp => ?_⟩
  · exact forall_setZone (P := fun y r => r.provisioned = false →
      (∀ o : OpNo, r.working[o] = none ∧ r.active[o] = none) ∧ r.pinned = false ∧ (s.link y).state = .idle) unprovisioned absent
  · exact forall_setZone (P := fun y r => goodNeighbours y r.neighbours = true) listed neighbours
  · exact forall_setZone (P := fun _ r => ∀ o : OpNo, r.working[o] = r.active[o]) (latched clear) (maps clear)
  · have stood := standing o p hp
    by_cases h : p.zone = z
    · obtain ⟨present, free, bound⟩ := stands o p hp h stood
      obtain ⟨tenant, lit, -, -⟩ := stood
      refine ⟨tenant, ?_, ?_, ?_⟩
      · rw [h] at lit ⊢
        rw [setZone_live, present, Bool.true_and]
        exact (Bool.and_eq_true_iff.mp lit).2
      · rwa [h, s.setZone_zone]
      · rwa [State.working, h, s.setZone_zone]
    · unfold standingProposal live State.working
      rw [s.setZone_zone_ne r h]
      exact stood

theorem proposal_of_step {s : State} {o : OpNo} {p : Proposal} (inv : MapInv s)
    (h : (∃ q : Proposal, (s.spreadRec o).proposal = some q ∧ q.zone = p.zone ∧ q.fromSector = p.fromSector) ∨ Opens s o p) :
    standingProposal s o p := by
  obtain ⟨-, -, latched, standing⟩ := inv
  rcases h with ⟨q, hq, zone, sector⟩ | opens
  · have stood := standing o q hq
    unfold standingProposal at *
    rwa [zone, sector] at stood
  · refine ⟨opens.tenant, opens.lives, opens.free, Eq.trans ?_ opens.bound⟩
    cases latch : s.latchPending with
    | false => exact latched latch ..
    | true => exact opens.settled latch

/-- Every write keeps the zone map and the proposals. -/
theorem Write.mapInv {whole : Prop} (holds : whole) {s t : State} (h : Write whole s t) (inv : MapInv s) : MapInv t := by
  obtain ⟨unprovisioned, listed, latched, standing⟩ := inv
  have inv : MapInv s := ⟨unprovisioned, listed, latched, standing⟩
  cases h with
  | quiet same => rwa [mapInv_congr same]
  | advance => rwa [advanceCounts_keeps MapInv (fun _ _ => rfl) (fun _ _ => rfl) (fun _ _ => rfl) s]
  | level c n => rwa [storeLevel_keeps' MapInv (fun _ _ => rfl) (fun _ _ => rfl)]
  | mode c m => rwa [reenterClass_keeps MapInv (fun _ _ => rfl) (fun _ _ => rfl)]
  | start stopped =>
    refine ⟨fun z absent => ?_, listed, latched, fun o p hp => ?_⟩
    · have absent : (s.zone z).provisioned = false := absent
      obtain ⟨bare, free, idle⟩ := unprovisioned z absent
      refine ⟨bare, free, ?_⟩
      rw [started_link, if_neg (by simp [absent])]
      exact idle
    · obtain ⟨tenant, lit, rest⟩ := standing o p hp
      refine ⟨tenant, ?_, rest⟩
      rw [live, started_heard]
      exact lit
  | budget z b =>
    exact setZone_mapInv inv (unprovisioned z) (listed z) (fun clear o => latched clear z o) fun o p hp here stood => by
      obtain ⟨-, lit, free, bound⟩ := stood
      rw [here] at lit free bound
      exact ⟨(Bool.and_eq_true_iff.mp lit).1, free, bound⟩
  | neighbours z l good =>
    exact setZone_mapInv inv (unprovisioned z) good (fun clear o => latched clear z o) fun o p hp here stood => by
      obtain ⟨-, lit, free, bound⟩ := stood
      rw [here] at lit free bound
      exact ⟨(Bool.and_eq_true_iff.mp lit).1, free, bound⟩
  | pin z b present free =>
    refine setZone_mapInv inv (fun absent => absurd (present.symm.trans absent) Bool.noConfusion) (listed z)
      (fun clear o => latched clear z o) fun o p hp here stood => ?_
    obtain ⟨-, lit, unpinned, bound⟩ := stood
    rw [here] at lit unpinned bound
    refine ⟨present, ?_, bound⟩
    cases b with
    | false => rfl
    | true => exact absurd here (free rfl unpinned o p hp)
  | provision z =>
    exact setZone_mapInv inv (fun absent => Bool.noConfusion absent) (listed z) (fun clear o => latched clear z o)
      fun o p hp here stood => by
        obtain ⟨-, -, free, bound⟩ := stood
        rw [here] at free bound
        exact ⟨rfl, free, bound⟩
  | retire z idle free =>
    have none_ (o : OpNo) : (s.zone z).retired.working[o] = none ∧ (s.zone z).retired.active[o] = none :=
      ⟨vec4_getElem _ o, vec4_getElem _ o⟩
    refine setZone_mapInv inv (fun _ => ⟨none_, rfl, idle⟩) (listed z) (fun _ o => ?_) fun o p hp here _ => absurd here (free holds o p hp)
    rw [(none_ o).1, (none_ o).2]
  | bindings v flag each =>
    have frame {β : Type} (g : ZoneRec → β) (h : ∀ r w a, g { r with working := w, active := a } = g r) (z : ZoneNo) :
        g v[z] = g (s.zone z) := (congrArg g (each.frame z)).trans (h ..)
    have present := frame ZoneRec.provisioned fun _ _ _ => rfl
    have pinned := frame ZoneRec.pinned fun _ _ _ => rfl
    have neighbours := frame ZoneRec.neighbours fun _ _ _ => rfl
    refine ⟨fun z absent => ?_, fun z => ?_, fun clear z o => each.latched clear z o, fun o p hp => ?_⟩
    · have before := (present z).symm.trans absent
      obtain ⟨bare, free, idle⟩ := unprovisioned z before
      exact ⟨each.absent holds z before bare, (pinned z).trans free, idle⟩
    · exact (congrArg (goodNeighbours z) (neighbours z)).trans (listed z)
    · obtain ⟨tenant, lit, free, bound⟩ := standing o p hp
      exact ⟨tenant, (congrArg (· && heard (s.link p.zone).state) (present p.zone)).trans lit, (pinned p.zone).trans free,
        (each.bound o p tenant hp).trans bound⟩
  | links v each =>
    refine ⟨fun z absent => ?_, listed, latched, fun o p hp => ?_⟩
    · obtain ⟨bare, free, idle⟩ := unprovisioned z absent
      refine ⟨bare, free, ?_⟩
      by_contra awake
      exact Bool.false_ne_true (absent.symm.trans ((each z).wakes idle awake).1)
    · obtain ⟨tenant, lit, rest⟩ := standing o p hp
      refine ⟨tenant, ?_, rest⟩
      obtain ⟨present, up⟩ := Bool.and_eq_true_iff.mp lit
      refine Bool.and_eq_true_iff.mpr ⟨present, ?_⟩
      by_contra down
      exact ((each p.zone).falls lit (Bool.not_eq_true _ ▸ down)).2 o p hp rfl
  | spreads v each =>
    refine ⟨unprovisioned, listed, latched, fun o p hp => ?_⟩
    exact (proposal_of_step inv ((each o).stands p hp) : standingProposal s o p)
  | operator o r good leaves =>
    refine ⟨unprovisioned, listed, latched, fun q p hp => ?_⟩
    obtain ⟨tenant, rest⟩ := standing q p hp
    refine ⟨?_, rest⟩
    by_cases h : q = o
    · subst h
      rw [s.setOper_oper]
      by_contra other
      exact absurd ((leaves tenant other).symm.trans hp) (Option.some_ne_none p).symm
    · rwa [s.setOper_oper_ne r h]
  | _ => exact mapInv_of inv rfl rfl rfl rfl rfl

/-! ## Ranges (R1, R7, R23, R31, R49, R84, R97, R120, R141) -/

theorem advanceCounts_range {s : State} (range : s.cycle ≤ Config.lastCycle ∧ s.superframe ≤ Config.lastSuperframe) :
    (advanceCounts s).cycle ≤ Config.lastCycle ∧ (advanceCounts s).superframe ≤ Config.lastSuperframe := by
  obtain ⟨cycle, superframe⟩ := range
  unfold advanceCounts
  split
  · exact ⟨cycle, superframe⟩
  · split
    · next below => exact ⟨below, superframe⟩
    · refine ⟨Nat.zero_le _, ?_⟩
      show (if s.superframe < Config.lastSuperframe then s.superframe + 1 else 0) ≤ _
      split
      · next below => exact below
      · exact Nat.zero_le _

theorem toSearch_good {r : LinkRec} (good : goodLink r) : goodLink r.toSearch := by
  obtain ⟨⟨-, -, -, -, loss⟩, -⟩ := good
  simpa [goodLink, LinkRec.toSearch, LinkRec.reset, Config.goodRunUp, Config.dwellCycles] using loss

theorem toIdle_good {r : LinkRec} (good : goodLink r) : goodLink r.toIdle := by
  obtain ⟨⟨-, -, -, -, loss⟩, -⟩ := good
  simpa [goodLink, LinkRec.toIdle, LinkRec.reset, Config.goodRunUp, Config.dwellCycles] using loss

/-- One entry written in a table of tables. -/
theorem grid_set {α : Type} {m n : Nat} (v : Vector (Vector α m) n) (i x : Fin n) (j y : Fin m) (a : α) :
    (v.set i ((v[i]).set j a))[x][y] = if x = i ∧ y = j then a else v[x][y] := by
  by_cases row : x = i
  · subst row
    by_cases column : y = j
    · subst column
      simp
    · have other : j.val ≠ y.val := fun e => column (Fin.ext e.symm)
      simp [column, Vector.getElem_set_ne _ _ other]
  · have other : i.val ≠ x.val := fun e => row (Fin.ext e.symm)
    simp [row, Vector.getElem_set_ne _ _ other]

theorem setWorkEntry_workEntry (s : State) (spoke x : SpokeNo) (n y : EntryNo) (e : PlanEntry) :
    (s.setWorkEntry spoke n e).workEntry x y = if x = spoke ∧ y = n then e else s.workEntry x y := grid_set ..

theorem setShadow_shadow (s : State) (spoke x : SpokeNo) (n y : EntryNo) (h : Shadow) :
    (s.setShadow spoke n h).shadow x y = if x = spoke ∧ y = n then h else s.shadow x y := grid_set ..

/-- Every write keeps the ranges. -/
theorem Write.rangesInv {whole : Prop} {s t : State} (h : Write whole s t) (inv : RangesInv s) : RangesInv t := by
  obtain ⟨⟨cycle, superframe, stale⟩, zones, operators, lanes, times, plans, limit, temp, reflect⟩ := inv
  have inv : RangesInv s := ⟨⟨cycle, superframe, stale⟩, zones, operators, lanes, times, plans, limit, temp, reflect⟩
  have zone {z : ZoneNo} {r : ZoneRec} (range : r.budget ≤ 65535) : RangesInv (s.setZone z r) := by
    refine ⟨⟨cycle, superframe, stale⟩, ?_, operators, lanes, times, plans, limit, temp, reflect⟩
    exact forall_setZone (P := fun y r => r.budget ≤ 65535 ∧ goodLink (s.link y)) zones ⟨range, (zones z).2⟩
  cases h with
  | quiet same => rwa [rangesInv_congr same]
  | stale n range => exact ⟨⟨cycle, superframe, range⟩, zones, operators, lanes, times, plans, limit, temp, reflect⟩
  | commit =>
    refine ⟨⟨cycle, superframe, stale⟩, zones, operators, lanes, times, fun spoke n => ?_, limit, temp, reflect⟩
    refine ⟨(plans spoke n).1, (plans spoke n).1, ?_⟩
    rw [storeCommit_shadow]
    exact Nat.zero_le _
  | advance =>
    have rest : RangesInv { advanceCounts s with cycle := s.cycle, superframe := s.superframe } := by
      have keep := advanceCounts_keeps (fun x : State => RangesInv { x with cycle := s.cycle, superframe := s.superframe })
        (fun _ _ => rfl) (fun _ _ => rfl) (fun _ _ => rfl) s
      exact keep.mpr inv
    obtain ⟨cycle', superframe'⟩ := advanceCounts_range ⟨cycle, superframe⟩
    obtain ⟨⟨-, -, stale'⟩, parts⟩ := rest
    exact ⟨⟨cycle', superframe', stale'⟩, parts⟩
  | start stopped =>
    refine ⟨⟨Nat.zero_le _, Nat.zero_le _, stale⟩, fun z => ⟨(zones z).1, ?_⟩, operators, lanes, times, plans, limit, temp, reflect⟩
    rw [started_link]
    split
    · exact toSearch_good (zones z).2
    · exact (zones z).2
  | planEntry spoke n e good =>
    refine ⟨⟨cycle, superframe, stale⟩, zones, operators, lanes, times, fun x y => ⟨?_, (plans x y).2⟩, limit, temp, reflect⟩
    rw [setWorkEntry_workEntry]
    split
    · exact good
    · exact (plans x y).1
  | shadow spoke n h range =>
    refine ⟨⟨cycle, superframe, stale⟩, zones, operators, lanes, times, fun x y => ⟨(plans x y).1, (plans x y).2.1, ?_⟩, limit, temp,
      reflect⟩
    rw [setShadow_shadow]
    split
    · exact range
    · exact (plans x y).2.2
  | lostLimit n low high =>
    exact ⟨⟨cycle, superframe, stale⟩, zones, operators, lanes, times, plans, ⟨low, high⟩, temp, reflect⟩
  | level c n low high =>
    unfold storeLevel
    split
    · exact ⟨⟨cycle, superframe, stale⟩, zones, operators, lanes, times, plans, limit, ⟨low, high⟩, reflect⟩
    · exact ⟨⟨cycle, superframe, stale⟩, zones, operators, lanes, times, plans, limit, temp, ⟨low, high⟩⟩
  | times a b first second =>
    exact ⟨⟨cycle, superframe, stale⟩, zones, operators, lanes, ⟨first, second⟩, plans, limit, temp, reflect⟩
  | budget z b range => exact zone range
  | neighbours z l => exact zone (zones z).1
  | pin z b => exact zone (zones z).1
  | provision z => exact zone (zones z).1
  | retire z => exact zone (zones z).1
  | bindings v flag each =>
    refine ⟨⟨cycle, superframe, stale⟩, fun z => ⟨?_, (zones z).2⟩, operators, lanes, times, plans, limit, temp, reflect⟩
    have same : v[z].budget = (s.zone z).budget := (congrArg ZoneRec.budget (each.frame z) :)
    exact same.le.trans (zones z).1
  | links v each =>
    exact ⟨⟨cycle, superframe, stale⟩, fun z => ⟨(zones z).1, (each z).good (zones z).2⟩, operators, lanes, times, plans, limit, temp,
      reflect⟩
  | mode c m => rwa [reenterClass_keeps RangesInv (fun _ _ => rfl) (fun _ _ => rfl)]
  | cells v range =>
    exact ⟨⟨cycle, superframe, stale⟩, zones, operators, fun z o => ⟨range (fun o => (operators o).1) (fun z o => (lanes z o).1) z o, (lanes z o).2⟩, times, plans,
      limit, temp, reflect⟩
  | settles v range =>
    exact ⟨⟨cycle, superframe, stale⟩, zones, operators,
      fun z o => ⟨(lanes z o).1, range times.1 times.2 (fun z o => (lanes z o).2) z o⟩, times, plans, limit, temp, reflect⟩
  | spreads v each =>
    exact ⟨⟨cycle, superframe, stale⟩, zones, fun o => ⟨(operators o).1, (each o).good (operators o).1 (operators o).2⟩, lanes, times,
      plans, limit, temp, reflect⟩
  | operator o r good leaves =>
    refine ⟨⟨cycle, superframe, stale⟩, zones, fun q => ⟨?_, (operators q).2⟩, lanes, times, plans, limit, temp, reflect⟩
    by_cases h : q = o
    · subst h
      rw [s.setOper_oper]
      exact good (operators q).1
    · rw [s.setOper_oper_ne r h]
      exact (operators q).1
  | _ => exact inv

end Sys2Proof.Machine
end

section
/-! Every operation that the commands share, as a sequence of writes. -/

namespace Sys2Proof.Machine

open Sys2Proof

variable {whole : Prop}

/-! ## Sequences of writes -/

theorem Writes.refl (s : State) : Writes whole s s := Relation.ReflTransGen.refl

theorem Write.one {s t : State} (h : Write whole s t) : Writes whole s t := Relation.ReflTransGen.single h

theorem Writes.trans {s t u : State} (h : Writes whole s t) (h' : Writes whole t u) : Writes whole s u := Relation.ReflTransGen.trans h h'

theorem Writes.andThen {s t u : State} (h : Writes whole s t) (h' : Write whole t u) : Writes whole s u := Relation.ReflTransGen.tail h h'

theorem Writes.of_bare {s t u : State} (h : Writes whole s u) (same : t.bare = u.bare) : Writes whole s t := h.andThen (.quiet same)

theorem Writes.quiet {s t : State} (same : t.bare = s.bare) : Writes whole s t := (Write.quiet same).one

/-- A fold whose steps are writes and keep a condition that they need. -/
theorem foldl_writes_of {α : Type} {f : State → α → State} {P : State → Prop} (keeps : ∀ s a, P s → P (f s a))
    (h : ∀ s a, P s → Writes whole s (f s a)) (l : List α) {s : State} (start : P s) : Writes whole s (l.foldl f s) := by
  induction l generalizing s with
  | nil => exact .refl s
  | cons a l ih => exact (h s a start).trans (ih (keeps s a start))

theorem foldl_writes {α : Type} {f : State → α → State} (h : ∀ s a, Writes whole s (f s a)) (l : List α) (s : State) :
    Writes whole s (l.foldl f s) :=
  foldl_writes_of (P := fun _ => True) (fun _ _ _ => trivial) (fun s a _ => h s a) l trivial

/-! ## Spreading states and proposals -/

theorem SpreadStep.same (s : State) (o : OpNo) : SpreadStep s o (s.spreadRec o) :=
  ⟨fun _ good => good, fun p hp => .inl ⟨p, hp, rfl, rfl⟩⟩

theorem setSpread_writes {s : State} {o : OpNo} {r : SpreadRec} (each : SpreadStep s o r) : Writes whole s (s.setSpread o r) := by
  refine (Write.spreads (s.spread.set o r) fun q => ?_).one
  by_cases h : q = o
  · subst h
    rw [show (s.spread.set q r)[q] = r from s.setSpread_spreadRec q r]
    exact each
  · rw [show (s.spread.set o r)[q] = s.spreadRec q from s.setSpread_spreadRec_ne r h]
    exact .same s q

/-- A spreading state whose proposal stays, or is closed, within its ranges. -/
theorem SpreadStep.of_kept {s : State} {o : OpNo} {r : SpreadRec} (good : goodOperator (s.oper o) → goodSpread (s.spreadRec o) → goodSpread r)
    (kept : r.proposal = (s.spreadRec o).proposal ∨ r.proposal = none) : SpreadStep s o r := by
  refine ⟨good, fun p hp => ?_⟩
  rcases kept with same | closed
  · exact .inl ⟨p, same.symm.trans hp, rfl, rfl⟩
  · exact absurd (closed.symm.trans hp) (Option.some_ne_none p).symm

theorem closed_good {r : SpreadRec} {p : Proposal} (open_ : r.proposal = some p) (good : goodSpread r) : goodSpread (r.closed p) := by
  obtain ⟨count, next, -, proposal⟩ := good
  refine ⟨count, next, fun n hn => ?_, fun q hq => nomatch hq⟩
  cases hn
  exact (proposal p open_).1

/-- Proposals are closed. -/
theorem closes_writes {s t : State} {test : OpNo → Proposal → Bool} (same : t.bare = s.bare.withSpread (closedWhere s test)) :
    Writes whole s t := by
  refine Writes.of_bare (u := s.withSpread (closedWhere s test)) (Write.spreads _ fun o => ?_).one same
  rw [closedWhere_getElem]
  split
  · next p hp =>
    split
    · exact .of_kept (fun _ => closed_good hp) (.inr rfl)
    · exact .same s o
  · exact .same s o

theorem withdrawIf_writes (s : State) (o : OpNo) (test : Proposal → Bool) (why : WithdrawCause) :
    Writes whole s (withdrawIf s o test why) := closes_writes (withdrawIf_bare ..)

theorem withdraw_writes (s : State) (o : OpNo) (why : WithdrawCause) : Writes whole s (withdraw s o why) := closes_writes (withdraw_bare ..)

theorem closeProposal_writes {s : State} {o : OpNo} {p : Proposal} (stands : (s.spreadRec o).proposal = some p) :
    Writes whole s (closeProposal s o p) := setSpread_writes (.of_kept (fun _ => closed_good stands) (.inr rfl))

/-- No proposal is open on a zone after the proposals on it are closed. -/
theorem none_on_closed (s : State) (z : ZoneNo) (o : OpNo) (p : Proposal)
    (hp : (closedWhere s fun _ p => decide (p.zone = z))[o].proposal = some p) : p.zone ≠ z := by
  rw [closedWhere_getElem] at hp
  split at hp
  · next q hq =>
    split at hp
    · cases hp
    · next other =>
      rw [hq] at hp
      cases hp
      simpa using other
  · next none_ => exact absurd (none_.symm.trans hp) (Option.some_ne_none p).symm

/-! ## Links -/

theorem LinkStep.same (s : State) (z : ZoneNo) : LinkStep s z (s.link z) :=
  ⟨id, fun lit down => absurd ((Bool.and_eq_true_iff.mp lit).2.symm.trans down) Bool.noConfusion, fun idle awake => absurd idle awake⟩

/-- A link that is heard as before, or is not taken out of UP and WEAK. -/
theorem LinkStep.of_heard {s : State} {z : ZoneNo} {r : LinkRec} (good : goodLink (s.link z) → goodLink r)
    (hears : heard (s.link z).state = true → heard r.state = true) (awake : (s.link z).state ≠ .idle) : LinkStep s z r :=
  ⟨good, fun lit down => absurd ((hears (Bool.and_eq_true_iff.mp lit).2).symm.trans down) Bool.noConfusion, fun idle _ => absurd idle awake⟩

theorem setLink_writes {s : State} {z : ZoneNo} {r : LinkRec} (each : LinkStep s z r) : Writes whole s (s.setLink z r) := by
  refine (Write.links (s.links.set z r) fun y => ?_).one
  by_cases h : y = z
  · subst h
    rw [show (s.links.set y r)[y] = r from s.setLink_link y r]
    exact each
  · rw [show (s.links.set z r)[y] = s.link y from s.setLink_link_ne r h]
    exact .same s y

/-! ## Protection records -/

theorem RecordStep.same (s : State) (z : ZoneNo) (c : ClassNo) : RecordStep s z c (s.protRec z c) := ⟨id, .inl⟩

theorem setProt_writes {s : State} {z : ZoneNo} {c : ClassNo} {r : ProtRec} (each : RecordStep s z c r) : Writes whole s (s.setProt z c r) := by
  refine (Write.records (s.prot.set z ((s.prot[z]).set c r)) fun y d => ?_).one
  by_cases h : y = z ∧ d = c
  · obtain ⟨rfl, rfl⟩ := h
    rw [show ((s.prot.set y ((s.prot[y]).set d r))[y])[d] = r from s.setProt_protRec y d r]
    exact each
  · rw [show ((s.prot.set z ((s.prot[z]).set c r))[y])[d] = s.protRec y d from s.setProt_protRec_of_ne r (by tauto)]
    exact .same s y d

/-- An edge keeps a record as its mode and R63 have it (R69, R70). -/
theorem edgeRecord_sound {m : ClassMode} {r : ProtRec} (sound : soundRecord m r) (bit : Bool) : soundRecord m (edgeRecord m r bit) := by
  obtain ⟨raw, state, latched⟩ := r
  unfold edgeRecord
  cases bit with
  | true =>
    cases raw with
    | true => simpa using sound
    | false =>
      cases state <;> cases m <;> simp_all [soundRecord, goodRecord, risingEdge]
  | false =>
    cases raw with
    | false => simpa using sound
    | true =>
      cases state <;> cases m <;> simp_all [soundRecord, goodRecord, fallingEdge, Config.slowTime, Config.fastTime]

/-- The records of a zone after a vector's edges, taken at a live zone or all falling (R68, R72). -/
theorem edges_writes {s : State} {z : ZoneNo} {v : Vector (Vector ProtRec 6) 64} {bits : Vector Bool 6}
    (rows : ∀ (y : ZoneNo) (c : ClassNo), v[y][c] = if y = z then edgeRecord (s.mode c) (s.protRec z c) bits[c] else s.protRec y c)
    (rises : ∀ c : ClassNo, bits[c] = true → live s z = true) : Write whole s (s.withProt v) := by
  refine Write.records v fun y c => ?_
  rw [rows]
  split
  · next h =>
    subst h
    refine ⟨fun sound => edgeRecord_sound sound _, fun up => .inr (rises c ?_)⟩
    rwa [edgeRecord_raw] at up
  · exact .same s y c

/-! ## Going dark and the words (R51 to R59, R68, R86) -/

/-- A zone that goes dark while its link takes a record: the raw bits fall and the proposals close before the link does. -/
theorem darkened_writes {s old t : State} {z : ZoneNo} {r : LinkRec} {cause : DarkCause} {why : WithdrawCause}
    (same : t.bare = (goDark old (s.setLink z r) z cause why).bare) (good : goodLink (s.link z) → goodLink r)
    (asleep : (s.link z).state = .idle → r.state = .idle) : Writes whole s t := by
  obtain ⟨v, hv⟩ : ∃ v, v = (goDark old (s.setLink z r) z cause why).prot := ⟨_, rfl⟩
  have bare := goDark_bare old (s.setLink z r) z cause why
  have rows (y : ZoneNo) (c : ClassNo) : v[y][c] =
      if y = z then edgeRecord (s.mode c) (s.protRec z c) (Vector.replicate 6 false)[c] else s.protRec y c := by
    have bit : (Vector.replicate 6 false)[c] = false := by simp
    rw [bit, hv]
    exact goDark_protRec old (s.setLink z r) z cause why y c
  rw [← hv] at bare
  have falling : Write whole s (s.withProt v) := edges_writes rows fun c up => by simp at up
  have closing : Writes whole (s.withProt v) ((s.withProt v).withSpread (closedWhere s fun _ p => decide (p.zone = z))) := closes_writes rfl
  have linking : Writes whole ((s.withProt v).withSpread (closedWhere s fun _ p => decide (p.zone = z)))
      (((s.withProt v).withSpread (closedWhere s fun _ p => decide (p.zone = z))).setLink z r) := by
    refine setLink_writes ⟨good, fun _ _ => ⟨fun c => ?_, fun o p hp => none_on_closed s z o p hp⟩, fun idle awake => absurd (asleep idle) awake⟩
    have row := rows z c
    rw [if_pos rfl] at row
    have clear : v[z][c].raw = false := by
      rw [row, edgeRecord_raw]
      simp
    exact clear
  exact (falling.one.trans (closing.trans linking)).of_bare (same.trans bare)

theorem pushHistory_length {h : List Bool} (good : h.length ≤ Config.historyLength) (bit : Bool) :
    (pushHistory h bit).length ≤ Config.historyLength := by
  unfold pushHistory
  split
  · next short => simpa using short
  · simp [Config.historyLength] at *
    omega

theorem saturate_le (bound n : Nat) : saturate bound n ≤ bound := by
  unfold saturate
  omega

theorem heardWord_good {r : LinkRec} (good : goodLink r) (hears : heard r.state = true) (word : Bool) : goodLink (r.heardWord word) := by
  obtain ⟨⟨run, history, missed, dwell, loss⟩, search, lost, -, -⟩ := good
  have state : r.state = .up ∨ r.state = .weak := by cases h : r.state <;> simp_all [heard]
  refine ⟨⟨run, pushHistory_length history word, ?_, dwell, loss⟩, search, lost, fun idle => ?_, fun up weak => ?_⟩
  · show (if word then 0 else saturate Config.max8 (r.missed + 1)) ≤ _
    split
    · exact Nat.zero_le _
    · exact saturate_le ..
  · have idle : r.state = .idle := idle
    simp [idle] at state
  · exact absurd state (not_or.mpr ⟨up, weak⟩)

/-- A good link record moved between UP and WEAK is good. -/
theorem goodLink_heard {r : LinkRec} {state : LinkState} (good : goodLink r) (before : heard r.state = true) (after : heard state = true) :
    goodLink { r with state := state } := by
  obtain ⟨ranges, search, lost, -, -⟩ := good
  have old : r.state = .up ∨ r.state = .weak := by cases h : r.state <;> simp_all [heard]
  have new : state = .up ∨ state = .weak := by cases state <;> simp_all [heard]
  refine ⟨ranges, fun _ => search ?_, fun _ => lost ?_, fun idle => ?_, fun up weak => absurd new (not_or.mpr ⟨up, weak⟩)⟩
  · rcases old with h | h <;> simp [h]
  · rcases old with h | h <;> simp [h]
  · have idle : state = .idle := idle
    simp [idle] at new

theorem heard_awake {state : LinkState} (hears : heard state = true) : state ≠ .idle := by
  rintro rfl
  cases hears

theorem searchWord_writes {s : State} {z : ZoneNo} (search : (s.link z).state = .search) (word : Bool) :
    Writes whole s (searchWord s z word) := by
  have step {r : LinkRec} (good : goodLink (s.link z) → goodLink r) : LinkStep s z r :=
    .of_heard good (by simp [search, heard]) (by simp [search])
  unfold searchWord
  dsimp only
  split
  · split
    · next short =>
      refine setLink_writes (step ?_)
      rintro ⟨⟨-, history, -, dwell, loss⟩, -, lost, idle, empty⟩
      exact ⟨⟨short, history, Nat.zero_le _, dwell, loss⟩, fun other => absurd search other, lost, fun _ => rfl, empty⟩
    · refine Writes.of_bare (setLink_writes (step (r := { s.link z with state := .up, goodRun := 0, missed := 0, history := [] }) ?_)) ?_
      · rintro ⟨⟨-, -, -, dwell, loss⟩, -, lost, -, -⟩
        exact ⟨⟨(by decide : 0 < Config.goodRunUp), Nat.zero_le _, Nat.zero_le _, dwell, loss⟩, fun _ => rfl, fun _ => lost (by simp [search]), fun _ => rfl,
          fun _ _ => rfl⟩
      · exact (inputChange_bare ..).trans (fileZone_bare ..)
  · refine setLink_writes (step ?_)
    rintro ⟨⟨-, history, -, dwell, loss⟩, -, lost, -, empty⟩
    exact ⟨⟨(by decide : 0 < Config.goodRunUp), history, saturate_le .., dwell, loss⟩, fun _ => rfl, lost, fun idle => absurd (search.symm.trans idle) (by simp), empty⟩

theorem heardLinkWord_writes {s : State} {z : ZoneNo} (hears : heard (s.link z).state = true) (word : Bool) :
    Writes whole s (heardLinkWord s z word) := by
  have hears' : heard ((s.link z).heardWord word).state = true := hears
  have step {state : LinkState} (after : heard state = true) :
      Writes whole s (s.setLink z { (s.link z).heardWord word with state := state }) :=
    setLink_writes (.of_heard (fun good => goodLink_heard (heardWord_good good hears word) hears' after) (fun _ => after) (heard_awake hears))
  unfold heardLinkWord
  dsimp only
  split
  · refine darkened_writes (inputChange_bare ..) (fun good => ?_) fun idle => absurd idle (heard_awake hears)
    obtain ⟨⟨run, -, missed, -, -⟩, search, -, -, -⟩ := heardWord_good good hears word
    have zero : ((s.link z).heardWord word).goodRun = 0 := search (by intro h; rw [h] at hears'; cases hears')
    exact ⟨⟨run, Nat.zero_le _, missed, (by decide : 0 < Config.dwellCycles), saturate_le ..⟩, fun _ => zero, fun _ => rfl,
      fun idle => LinkState.noConfusion (idle : LinkState.lost = .idle), fun _ _ => rfl⟩
  · split
    · exact Writes.of_bare (step rfl) (fileLink_bare ..)
    · split
      · exact Writes.of_bare (step rfl) (fileLink_bare ..)
      · exact step hears'

theorem linkWord_writes (s : State) (z : ZoneNo) (word : Bool) : Writes whole s (linkWord s z word) := by
  unfold linkWord
  split
  · exact .refl s
  · next search => exact searchWord_writes search word
  · next up => exact heardLinkWord_writes (by rw [up]; rfl) word
  · next weak => exact heardLinkWord_writes (by rw [weak]; rfl) word
  · exact .refl s

/-- A good word of a live zone leaves it live (R53). -/
theorem linkWord_live {s : State} {z : ZoneNo} (lit : live s z = true) : live (linkWord s z true) z = true := by
  obtain ⟨present, up⟩ := Bool.and_eq_true_iff.mp lit
  have zone : (linkWord s z true).zone z = s.zone z := by apply linkWord_keeps (State.zone · z) <;> intros <;> rfl
  have still : heard ((linkWord s z true).link z).state = true := by
    have set (r : LinkRec) : heard ((s.setLink z r).link z).state = heard r.state := by rw [s.setLink_link]
    have told (r : LinkRec) (k : NoticeKind) : (fileLink (s.setLink z r) z k).link z = (s.setLink z r).link z :=
      State.congr_bare (State.link · z) (fileLink_bare ..) (fun _ => rfl)
    have word : (linkWord s z true) = heardLinkWord s z true := by
      unfold linkWord
      split <;> simp_all [heard]
    rw [word]
    unfold heardLinkWord
    dsimp only
    rw [if_neg (by simp)]
    split
    · rw [told, set]
      rfl
    · split
      · rw [told, set]
        rfl
      · rw [set]
        exact up
  rw [live, zone, present, Bool.true_and]
  exact still

theorem takeVector_writes {s : State} {z : ZoneNo} (lit : live s z = true) (bits : Vector Bool 6) : Writes whole s (takeVector s z bits) :=
  (edges_writes (fun y c => takeEdges_protRec s z bits y c) fun _ _ => lit).one.of_bare
    ((takeOutputs_bare ..).trans ((takeEdges_bare s z bits).trans (withProt_bare ..).symm))

theorem filterCell_range {k y x : Nat} (high : k ≤ 4096) (cell : y ≤ Config.maxCell) (sample : x ≤ 1023) :
    filterCell k y x ≤ Config.maxCell := by
  have full : 64 * x ≤ Config.maxCell := by
    unfold Config.maxCell
    omega
  obtain ⟨-, rise, fall, stay⟩ := filterCell_toward (y := y) (x := x) high
  rcases Nat.lt_trichotomy y (64 * x) with below | same | above
  · exact (rise below).2.trans full
  · exact (stay same).le.trans cell
  · exact (fall above).2.le.trans cell

theorem takeBlock_writes (s : State) (z : ZoneNo) {u : UplinkWord} (samples : ∀ x, u.activity = some x → ∀ o : OpNo, x[o] ≤ 1023) :
    Writes whole s (takeBlock s z u) := by
  unfold takeBlock
  split
  · next x block =>
    split
    · refine (Write.cells _ fun good range y o => ?_).one
      by_cases h : y = z
      · subst h
        simp only [laneGet, Fin.getElem_fin, Vector.getElem_set_self]
        rw [show ∀ v : Vector Nat 4, v[o.val] = v[o] from fun _ => rfl, vec4_getElem]
        split
        · exact filterCell_range (good o).2.2.2.2.1.2 (range y o) (samples x block o)
        · exact range y o
      · have other : z.val ≠ y.val := fun e => h (Fin.ext e.symm)
        simp only [laneGet, Fin.getElem_fin, Vector.getElem_set_ne _ _ other]
        exact range y o
    · exact .refl s
  · exact .refl s

theorem takeWord_writes (s : State) (z : ZoneNo) {w : Option UplinkWord}
    (samples : ∀ u x, w = some u → u.activity = some x → ∀ o : OpNo, x[o] ≤ 1023) : Writes whole s (takeWord s z w) := by
  have link : Writes whole s _ := linkWord_writes s z w.isSome
  unfold takeWord
  dsimp only
  split
  · next u =>
    split
    · next lit => exact link.trans ((takeVector_writes (linkWord_live lit) _).trans (takeBlock_writes _ z fun x => samples u x rfl))
    · exact link
  · exact link

/-! ## The latch and the commit (R15, R36) -/

/-- Settle counters of which each is an old one or the settle time. -/
theorem settles_write {s : State} {v : Vector (Vector Nat 4) 64}
    (each : ∀ (z : ZoneNo) (o : OpNo), laneGet v z o ≤ s.settleCount z o ∨ laneGet v z o = s.settleTime ∨ laneGet v z o = s.holdOff) :
    Write whole s (s.withSettle v) := by
  refine Write.settles v fun time hold range z o => ?_
  rcases each z o with old | settle | hold_
  · exact old.trans (range z o)
  · exact settle.le.trans time
  · exact hold_.le.trans hold

/-- The zone records with every working binding latched. -/
theorem latched_step (s : State) : MapStep whole s (retable (fun _ r => r.latched) s.zones) false where
  frame z := by
    rw [retable_getElem]
    rfl
  absent _ z _ bare o := by
    rw [retable_getElem]
    exact ⟨(bare o).1, (bare o).1⟩
  bound o p _ _ := by
    rw [retable_getElem]
    rfl
  latched _ z o := by
    rw [retable_getElem]
    rfl
  stopped _ := rfl

/-- The bare state that a latch leaves, told from a state in which bindings were written. -/
theorem takeLatch_bare_of {s x : State} {v : Vector ZoneRec 64} {b : Bool} (bare : x.bare = ((s.withZones v).withLatch b).bare) :
    (takeLatch x).bare = (((s.withZones (retable (fun _ r => r.latched) v)).withLatch false).withSettle (takeLatch x).settle).bare := by
  have zones : x.zones = v := State.congr_bare State.zones bare (fun _ => rfl)
  have put (V : Vector ZoneRec 64) (S : Vector (Vector Nat 4) 64) :
      (((x.withZones V).withLatch false).withSettle S).bare = (((s.withZones V).withLatch false).withSettle S).bare :=
    congrArg (fun y : State => ((y.withZones V).withLatch false).withSettle S) bare
  rw [takeLatch_frame, put, zones]

/-- What does not read the map is that of a state that differs in it. -/
theorem congr_bare_withMap {β : Type} (g : State → β) {x s : State} {v : Vector ZoneRec 64} {b : Bool}
    (same : x.bare = ((s.withZones v).withLatch b).bare) (bare : ∀ s : State, g s.bare = g s)
    (map : ∀ (s : State) (v : Vector ZoneRec 64) (b : Bool), g ((s.withZones v).withLatch b) = g s) : g x = g s :=
  (State.congr_bare g same bare).trans (map ..)

/-- Bindings written and latched in one event, whatever stood in between. -/
theorem latched_writes {s x : State} {v : Vector ZoneRec 64} {b : Bool} (bare : x.bare = ((s.withZones v).withLatch b).bare)
    (each : MapStep whole s (retable (fun _ r => r.latched) v) false) : Writes whole s (takeLatch x) := by
  have frame := takeLatch_bare_of bare
  have time : x.settleTime = s.settleTime := congr_bare_withMap State.settleTime bare (fun _ => rfl) (fun _ _ _ => rfl)
  have count (z : ZoneNo) (o : OpNo) : x.settleCount z o = s.settleCount z o := congr_bare_withMap (State.settleCount · z o) bare (fun _ => rfl) (fun _ _ _ => rfl)
  have lane := takeLatch_settleCount x
  generalize takeLatch x = t at frame lane
  generalize retable (fun _ r => ZoneRec.latched r) v = map at each frame
  refine Writes.of_bare ((Write.bindings _ false each).one.andThen (settles_write (v := t.settle) fun z o => ?_)) frame
  rw [show laneGet t.settle z o = t.settleCount z o from rfl, lane, time, count]
  split
  · exact .inr (.inl rfl)
  · exact .inl (Nat.le_refl _)

theorem takeLatch_writes (s : State) : Writes whole s (takeLatch s) :=
  latched_writes (s := s) (v := s.zones) (b := s.latchPending) rfl (latched_step s)

theorem takeCommit_writes (s : State) : Writes whole s (takeCommit s) := Writes.of_bare Write.commit.one (takeCommit_bare s)

end Sys2Proof.Machine
end

section
/-! The choice of an evaluation (R107 to R109): what the folds of the model pick. -/

namespace Sys2Proof.Machine

open Sys2Proof

/-! ## The first of the best of a list -/

/-- Keep the best so far, the earlier of equals. -/
def pickFirst {α κ : Type} [LinearOrder κ] (key : α → κ) (best : Option α) (a : α) : Option α :=
  match best with
  | none => some a
  | some b => if key b < key a then some a else best

/-- An entry of a list with the largest key, the one with the smallest index of those. -/
def FirstBest {α κ : Type} [LinearOrder κ] (key : α → κ) (index : α → Nat) (l : List α) (a : α) : Prop :=
  a ∈ l ∧ ∀ b ∈ l, key b < key a ∨ key b = key a ∧ index a ≤ index b

theorem foldl_pickFirst {α κ : Type} [LinearOrder κ] (key : α → κ) (index : α → Nat) (l : List α)
    (sorted : l.Pairwise fun a b => index a < index b) :
    (l.foldl (pickFirst key) none = none ∧ l = []) ∨ ∃ a, l.foldl (pickFirst key) none = some a ∧ FirstBest key index l a := by
  induction l using List.reverseRecOn with
  | nil => exact .inl ⟨rfl, rfl⟩
  | append_singleton l a ih =>
    obtain ⟨before, -, later⟩ := List.pairwise_append.mp sorted
    rw [List.foldl_append]
    refine .inr ?_
    rcases ih before with ⟨fold, rfl⟩ | ⟨b, fold, mem, best⟩
    · refine ⟨a, by simp [pickFirst], by simp, fun b hb => .inr ?_⟩
      obtain rfl : b = a := by simpa using hb
      exact ⟨rfl, Nat.le_refl _⟩
    · rw [fold]
      by_cases higher : key b < key a
      · refine ⟨a, by simp [pickFirst, higher], by simp, fun c hc => ?_⟩
        rcases List.mem_append.mp hc with old | new
        · rcases best c old with low | ⟨same, -⟩
          · exact .inl (low.trans higher)
          · exact .inl (same ▸ higher)
        · obtain rfl : c = a := by simpa using new
          exact .inr ⟨rfl, Nat.le_refl _⟩
      · refine ⟨b, by simp [pickFirst, higher], List.mem_append_left _ mem, fun c hc => ?_⟩
        rcases List.mem_append.mp hc with old | new
        · exact best c old
        · obtain rfl : c = a := by simpa using new
          rcases lt_or_eq_of_le (not_lt.mp higher) with low | same
          · exact .inl low
          · exact .inr ⟨same, (later b mem c (List.mem_singleton_self c)).le⟩

theorem FirstBest.index_eq {α κ : Type} [LinearOrder κ] {key : α → κ} {index : α → Nat} {l : List α} {a b : α}
    (ha : FirstBest key index l a) (hb : FirstBest key index l b) : index a = index b := by
  rcases ha.2 b hb.1 with low | ⟨same, le⟩
  · rcases hb.2 a ha.1 with low' | ⟨same', -⟩
    · exact absurd (low.trans low') (lt_irrefl _)
    · exact absurd (same' ▸ low) (lt_irrefl _)
  · rcases hb.2 a ha.1 with low' | ⟨-, le'⟩
    · exact absurd (same ▸ low') (lt_irrefl _)
    · exact Nat.le_antisymm le le'

/-- Of a list in index order the fold picks the first of the best. -/
theorem foldl_pickFirst_eq_some {α κ : Type} [LinearOrder κ] {key : α → κ} {index : α → Nat} {l : List α}
    (sorted : l.Pairwise fun a b => index a < index b) {a : α} :
    l.foldl (pickFirst key) none = some a ↔ FirstBest key index l a := by
  rcases foldl_pickFirst key index l sorted with ⟨fold, rfl⟩ | ⟨b, fold, best⟩
  · exact ⟨fun h => absurd (fold.symm.trans h).symm (Option.some_ne_none a), fun h => absurd h.1 (List.not_mem_nil)⟩
  · rw [fold, Option.some_inj]
    refine ⟨fun h => h ▸ best, fun h => ?_⟩
    have unique : l.Pairwise fun a b => index a ≠ index b := sorted.imp fun h => Nat.ne_of_lt h
    have symmetric : Std.Symm fun a b => index a ≠ index b := ⟨fun _ _ h => Ne.symm h⟩
    by_contra other
    exact unique.forall best.1 h.1 other (best.index_eq h)

theorem foldl_pickFirst_eq_none {α κ : Type} [LinearOrder κ] {key : α → κ} {index : α → Nat} {l : List α}
    (sorted : l.Pairwise fun a b => index a < index b) : l.foldl (pickFirst key) none = none ↔ l = [] := by
  rcases foldl_pickFirst key index l sorted with ⟨fold, rfl⟩ | ⟨b, fold, best⟩
  · exact ⟨fun _ => rfl, fun _ => rfl⟩
  · rw [fold]
    exact ⟨fun h => absurd h (Option.some_ne_none b), fun h => absurd (h ▸ best.1) List.not_mem_nil⟩

theorem finRange_sorted (n : Nat) : (List.finRange n).Pairwise fun a b => a.val < b.val := by
  simpa using List.pairwise_lt_finRange n

/-! ## The loaded sector (R107) -/

theorem loadedSector_eq (s : State) (o : OpNo) (loads : Vector Nat 8) :
    loadedSector s o loads = (allSectors.filter fun t => (s.sector o t).enabled).foldl (pickFirst fun t => loads[t]) none := by
  rw [List.foldl_filter]
  unfold loadedSector pickFirst
  congr 1
  funext best t
  split
  · cases best <;> rfl
  · rfl

/-- The sector that the model picks is the loaded one. -/
theorem loadedSector_eq_some {s : State} {o : OpNo} {h : SectorNo} :
    loadedSector s o (Vector.ofFn (sectorLoad s o)) = some h ↔ LoadedSector s o h := by
  rw [loadedSector_eq, allSectors, foldl_pickFirst_eq_some (index := Fin.val) ((finRange_sorted 8).filter _)]
  simp [FirstBest, LoadedSector]

/-! ## The pair of R109 -/

theorem fullestZone_eq (s : State) (o : OpNo) (l : List ZoneNo) :
    fullestZone s o l = l.foldl (pickFirst fun z => s.cell z o) none := by
  unfold fullestZone pickFirst
  congr 1
  funext best z
  cases best <;> rfl

/-- The target and the candidate of its largest cell, where t is a target that has one. -/
def pairOf (s : State) (o : OpNo) (h : SectorNo) (loads : Vector Nat 8) (t : SectorNo) : Option (SectorNo × ZoneNo) :=
  if isTarget s o h loads t then (fullestZone s o (allZones.filter (isCandidate s o h loads t))).map fun z => (t, z) else none

theorem choosePair_eq (s : State) (o : OpNo) (h : SectorNo) (loads : Vector Nat 8) :
    choosePair s o h loads =
      (allSectors.filterMap (pairOf s o h loads)).foldl (pickFirst fun p => OrderDual.toDual loads[p.1]) none := by
  rw [List.foldl_filterMap]
  unfold choosePair
  congr 1
  funext best t
  unfold pairOf
  split
  · split
    · next none_ => rw [none_]; rfl
    · next z some_ =>
      rw [some_]
      cases best <;> rfl
  · rfl

/-- The two tests of the model say that a zone is a candidate for a target (R108). -/
theorem candidate_iff {s : State} {o : OpNo} {h t : SectorNo} {z : ZoneNo} :
    (isTarget s o h (Vector.ofFn (sectorLoad s o)) t = true ∧ isCandidate s o h (Vector.ofFn (sectorLoad s o)) t z = true) ↔
      Candidate s o h t z := by
  simp only [isTarget, isCandidate, Candidate, Bool.and_eq_true, decide_eq_true_eq, Bool.not_eq_true', List.any_eq_true, allZones,
    List.mem_finRange, true_and, Fin.getElem_fin, Vector.getElem_ofFn, Fin.eta]
  tauto

theorem pairOf_eq_some {s : State} {o : OpNo} {h t t' : SectorNo} {z : ZoneNo} :
    pairOf s o h (Vector.ofFn (sectorLoad s o)) t' = some (t, z) ↔ t' = t ∧ Candidate s o h t z ∧
      ∀ z' : ZoneNo, Candidate s o h t z' → s.cell z' o < s.cell z o ∨ s.cell z' o = s.cell z o ∧ z ≤ z' := by
  have zones := (finRange_sorted 64).filter (isCandidate s o h (Vector.ofFn (sectorLoad s o)) t)
  unfold pairOf
  constructor
  · intro pair
    split at pair
    · next target =>
      obtain ⟨y, fullest, same⟩ := Option.map_eq_some_iff.mp pair
      cases same
      rw [fullestZone_eq, allZones, foldl_pickFirst_eq_some zones] at fullest
      obtain ⟨mem, best⟩ := fullest
      refine ⟨rfl, candidate_iff.mp ⟨target, (List.mem_filter.mp mem).2⟩, fun z' other => best z' ?_⟩
      exact List.mem_filter.mpr ⟨List.mem_finRange z', (candidate_iff.mpr other).2⟩
    · cases pair
  · rintro ⟨rfl, candidate, best⟩
    obtain ⟨target, this⟩ := candidate_iff.mpr candidate
    rw [if_pos target, fullestZone_eq, allZones, (foldl_pickFirst_eq_some zones).mpr ⟨List.mem_filter.mpr ⟨List.mem_finRange z, this⟩,
      fun z' mem => best z' (candidate_iff.mp ⟨target, (List.mem_filter.mp mem).2⟩)⟩]
    rfl

/-- A target with a candidate has a pair. -/
theorem pairOf_of_candidate {s : State} {o : OpNo} {h t : SectorNo} {z : ZoneNo} (candidate : Candidate s o h t z) :
    ∃ y, pairOf s o h (Vector.ofFn (sectorLoad s o)) t = some (t, y) := by
  obtain ⟨target, this⟩ := candidate_iff.mpr candidate
  have zones := (finRange_sorted 64).filter (isCandidate s o h (Vector.ofFn (sectorLoad s o)) t)
  unfold pairOf
  rw [if_pos target]
  cases fullest : fullestZone s o (allZones.filter (isCandidate s o h (Vector.ofFn (sectorLoad s o)) t)) with
  | some y => exact ⟨y, rfl⟩
  | none =>
    rw [fullestZone_eq, allZones, foldl_pickFirst_eq_none zones] at fullest
    exact absurd (fullest ▸ List.mem_filter.mpr ⟨List.mem_finRange z, this⟩) List.not_mem_nil

theorem pairs_sorted (s : State) (o : OpNo) (h : SectorNo) :
    (allSectors.filterMap (pairOf s o h (Vector.ofFn (sectorLoad s o)))).Pairwise fun p q => p.1.val < q.1.val := by
  refine List.pairwise_filterMap.mpr ((finRange_sorted 8).imp fun {t t'} below p hp q hq => ?_)
  obtain ⟨x, y⟩ := p
  obtain ⟨x', y'⟩ := q
  obtain ⟨rfl, -⟩ := pairOf_eq_some.mp hp
  obtain ⟨rfl, -⟩ := pairOf_eq_some.mp hq
  exact below

theorem mem_pairs {s : State} {o : OpNo} {h t : SectorNo} {z : ZoneNo} :
    (t, z) ∈ allSectors.filterMap (pairOf s o h (Vector.ofFn (sectorLoad s o))) ↔ Candidate s o h t z ∧
      ∀ z' : ZoneNo, Candidate s o h t z' → s.cell z' o < s.cell z o ∨ s.cell z' o = s.cell z o ∧ z ≤ z' := by
  rw [List.mem_filterMap]
  constructor
  · rintro ⟨t', -, pair⟩
    exact (pairOf_eq_some.mp pair).2
  · intro chosen
    exact ⟨t, List.mem_finRange t, pairOf_eq_some.mpr ⟨rfl, chosen⟩⟩

/-- The pair that the model picks is the one that R109 chooses. -/
theorem choosePair_eq_some {s : State} {o : OpNo} {h t : SectorNo} {z : ZoneNo} :
    choosePair s o h (Vector.ofFn (sectorLoad s o)) = some (t, z) ↔ Chosen s o h t z := by
  rw [choosePair_eq, foldl_pickFirst_eq_some (pairs_sorted s o h), FirstBest, mem_pairs]
  have load (x : SectorNo) : (Vector.ofFn (sectorLoad s o))[x] = sectorLoad s o x := by simp
  constructor
  · rintro ⟨⟨candidate, fullest⟩, best⟩
    refine ⟨candidate, fun t' z' other => ?_, fullest⟩
    obtain ⟨y, pair⟩ := pairOf_of_candidate other
    have among := best (t', y) (mem_pairs.mpr (pairOf_eq_some.mp pair).2)
    simp only [load, OrderDual.toDual_lt_toDual, OrderDual.toDual_inj] at among
    exact among.imp_right fun ⟨same, first⟩ => ⟨same.symm, first⟩
  · rintro ⟨candidate, least, fullest⟩
    refine ⟨⟨candidate, fullest⟩, fun ⟨t', z'⟩ among => ?_⟩
    simp only [load, OrderDual.toDual_lt_toDual, OrderDual.toDual_inj]
    exact (least t' z' (mem_pairs.mp among).1).imp_right fun ⟨same, first⟩ => ⟨same.symm, first⟩

theorem choosePair_eq_none {s : State} {o : OpNo} {h : SectorNo} :
    choosePair s o h (Vector.ofFn (sectorLoad s o)) = none ↔ ∀ t z, ¬ Candidate s o h t z := by
  rw [choosePair_eq, foldl_pickFirst_eq_none (pairs_sorted s o h)]
  constructor
  · intro empty t z candidate
    obtain ⟨y, pair⟩ := pairOf_of_candidate candidate
    exact absurd (empty ▸ mem_pairs.mpr (pairOf_eq_some.mp pair).2) List.not_mem_nil
  · intro none_
    refine List.eq_nil_iff_forall_not_mem.mpr fun ⟨t, z⟩ among => none_ t z (mem_pairs.mp among).1

/-! ## The decision (R107) -/

theorem decideMove_of_open {s : State} {o : OpNo} (stands : (s.spreadRec o).proposal ≠ none) : decideMove s o = .ends .proposalOpen :=
  if_pos (Option.isSome_iff_ne_none.mpr stands)

theorem waits_iff (s : State) (o : OpNo) :
    (s.latchPending && allZones.any fun z => bindingDiffers s z o) = true ↔
      s.latchPending = true ∧ ∃ z : ZoneNo, s.working z o ≠ s.active z o := by
  simp [allZones, bindingDiffers]

theorem decideMove_of_waits {s : State} {o : OpNo} (closed : (s.spreadRec o).proposal = none)
    (waits : s.latchPending = true ∧ ∃ z : ZoneNo, s.working z o ≠ s.active z o) : decideMove s o = .ends .latchPending := by
  unfold decideMove
  rw [if_neg (by simp [closed]), if_pos ((waits_iff s o).mpr waits)]

theorem LoadedSector.unique {s : State} {o : OpNo} {h h' : SectorNo} (one : LoadedSector s o h) (other : LoadedSector s o h') : h = h' :=
  Option.some_inj.mp ((loadedSector_eq_some.mpr one).symm.trans (loadedSector_eq_some.mpr other))

/-- With no proposal open and no binding of the operator waiting, the loads decide. -/
theorem decideMove_of_loads {s : State} {o : OpNo} (closed : (s.spreadRec o).proposal = none)
    (settled : ¬ (s.latchPending = true ∧ ∃ z : ZoneNo, s.working z o ≠ s.active z o)) :
    ((∀ h, LoadedSector s o h → sectorLoad s o h ≤ (s.oper o).high) ∧ decideMove s o = .ends .noPressure) ∨
      ∃ h, LoadedSector s o h ∧ (s.oper o).high < sectorLoad s o h ∧
        (((∀ t z, ¬ Candidate s o h t z) ∧ decideMove s o = .ends .noCandidate) ∨
          ∃ t z, Chosen s o h t z ∧ decideMove s o = .move z h t) := by
  unfold decideMove
  rw [if_neg (by simp [closed]), if_neg fun h => settled ((waits_iff s o).mp h)]
  dsimp only
  split
  · next none_ =>
    refine .inl ⟨fun h loaded => ?_, rfl⟩
    exact absurd ((loadedSector_eq_some.mpr loaded).symm.trans none_) (Option.some_ne_none h)
  · next h some_ =>
    have loaded := loadedSector_eq_some.mp some_
    have load : (Vector.ofFn (sectorLoad s o))[h] = sectorLoad s o h := by simp
    rw [load]
    split
    · next low => exact .inl ⟨fun h' other => loaded.unique other ▸ low, rfl⟩
    · next high =>
      refine .inr ⟨h, loaded, Nat.lt_of_not_le high, ?_⟩
      split
      · next none_ => exact .inl ⟨choosePair_eq_none.mp none_, rfl⟩
      · next t z pair => exact .inr ⟨t, z, choosePair_eq_some.mp pair, rfl⟩

theorem decideMove_of_chosen {s : State} {o : OpNo} {h t : SectorNo} {z : ZoneNo} (closed : (s.spreadRec o).proposal = none)
    (settled : ¬ (s.latchPending = true ∧ ∃ z : ZoneNo, s.working z o ≠ s.active z o)) (loaded : LoadedSector s o h)
    (high : (s.oper o).high < sectorLoad s o h) (chosen : Chosen s o h t z) : decideMove s o = .move z h t := by
  rcases decideMove_of_loads closed settled with ⟨calm, -⟩ | ⟨h', loaded', -, ⟨none_, -⟩ | ⟨t', z', chosen', move⟩⟩
  · exact absurd (calm h loaded) (Nat.not_le.mpr high)
  · exact absurd (loaded.unique loaded' ▸ chosen.1) (none_ t z)
  · obtain rfl := loaded.unique loaded'
    cases (choosePair_eq_some.mpr chosen).symm.trans (choosePair_eq_some.mpr chosen')
    exact move

/-- A move that an evaluation decides on: no proposal is open, and its lane is one that a proposal may stand on (R107, R108). -/
theorem decideMove_opens {s : State} {o : OpNo} {z : ZoneNo} {h t : SectorNo} (move : decideMove s o = .move z h t) :
    (s.spreadRec o).proposal = none ∧ live s z = true ∧ (s.zone z).pinned = false ∧ s.active z o = some h ∧
      (s.latchPending = true → s.working z o = s.active z o) := by
  have closed : (s.spreadRec o).proposal = none := by
    by_contra stands
    rw [decideMove_of_open stands] at move
    cases move
  have settled : ¬ (s.latchPending = true ∧ ∃ z : ZoneNo, s.working z o ≠ s.active z o) := by
    intro waits
    rw [decideMove_of_waits closed waits] at move
    cases move
  rcases decideMove_of_loads closed settled with ⟨-, ends⟩ | ⟨h', -, -, ⟨-, ends⟩ | ⟨t', z', chosen, moves⟩⟩
  · cases ends.symm.trans move
  · cases ends.symm.trans move
  · cases moves.symm.trans move
    obtain ⟨⟨-, ⟨bound, carries, free, -⟩, -⟩, -⟩ := chosen
    obtain ⟨-, lit, -⟩ := carrying_live carries
    refine ⟨closed, lit, free, bound, fun pending => ?_⟩
    by_contra differs
    exact settled ⟨pending, z, differs⟩

/-! ## The evaluation that falls due (R106 to R111) -/

theorem decideMove_setEvalCount (s : State) (o : OpNo) (n : Nat) : decideMove (setEvalCount s o n) o = decideMove s o := by
  have same : ((setEvalCount s o n).spreadRec o).proposal = (s.spreadRec o).proposal := by
    rw [setEvalCount, s.setSpread_spreadRec]
  unfold decideMove
  rw [same]
  rfl

theorem setSpread_setSpread (s : State) (o : OpNo) (r r' : SpreadRec) : (s.setSpread o r).setSpread o r' = s.setSpread o r' := by
  unfold State.setSpread
  simp

theorem setSpread_after_count (s : State) (o : OpNo) (n : Nat) (f : SpreadRec → SpreadRec) :
    (setEvalCount s o n).setSpread o (f ((setEvalCount s o n).spreadRec o)) = s.setSpread o (f { s.spreadRec o with evalCount := n }) := by
  rw [setEvalCount, setSpread_setSpread, s.setSpread_spreadRec]

theorem runEvaluation_of_ends {s : State} {o : OpNo} {e : EvalOutcome} (ends : decideMove s o = .ends e) :
    runEvaluation s o = s.setSpread o { s.spreadRec o with evalCount := 0, outcome := e } := by
  rw [runEvaluation, evaluate, decideMove_setEvalCount, ends]
  exact setSpread_after_count s o 0 fun r => { r with outcome := e }

theorem evaluation_of_due {s : State} {o : OpNo} (runs : s.transport ≠ .stopped) (tenant : Tenant s o)
    (chosen : (s.oper o).policy ≠ .fixed) (due : (s.oper o).period ≤ (s.spreadRec o).evalCount + 1) :
    exec (.evaluation o) s = .next (runEvaluation s o) := by
  have counts : counted s o = true := by simp [counted, show (s.oper o).tenancy = .active from tenant, chosen]
  show Host.Outcome.next (evaluationDue s o) = _
  rw [evaluationDue, if_pos ⟨runs, counts, due⟩]

theorem runEvaluation_of_move {s : State} {o : OpNo} {z : ZoneNo} {h t : SectorNo} (move : decideMove s o = .move z h t) :
    runEvaluation s o =
      if (s.oper o).policy = .auto then setOutcome (workingWrite (setEvalCount s o 0) z o (some t)) o .moved
      else openProposal (setEvalCount s o 0) o z h t := by
  rw [runEvaluation, evaluate, decideMove_setEvalCount, move]
  rfl

/-- Settles O47: the decision of the model is that of R107, and its pair the one that R109 chooses. -/
theorem evaluationDecides : Obligations.EvaluationDecides := by
  intro s o runs tenant policy due
  have execs := evaluation_of_due runs tenant policy due
  have ended {e : EvalOutcome} (ends : decideMove s o = .ends e) :
      exec (.evaluation o) s = .next (s.setSpread o { s.spreadRec o with evalCount := 0, outcome := e }) :=
    execs.trans (next_congr (runEvaluation_of_ends ends))
  refine ⟨fun stands => ended (decideMove_of_open stands), fun closed waits => ended (decideMove_of_waits closed waits),
    fun closed settled => ?_⟩
  have decision := decideMove_of_loads closed settled
  refine ⟨fun calm => ?_, fun h loaded high => ⟨fun none_ => ?_, fun some_ => ?_, fun t z chosen => ?_⟩⟩
  · rcases decision with ⟨-, ends⟩ | ⟨h, loaded, high, -⟩
    · exact ended ends
    · exact absurd (calm h loaded) (Nat.not_le.mpr high)
  · rcases decision with ⟨calm, -⟩ | ⟨h', loaded', -, ⟨-, ends⟩ | ⟨t, z, chosen, -⟩⟩
    · exact absurd (calm h loaded) (Nat.not_le.mpr high)
    · exact ended ends
    · exact absurd (loaded.unique loaded' ▸ chosen.1) (none_ t z)
  · rcases decision with ⟨calm, -⟩ | ⟨h', loaded', -, ⟨none_, -⟩ | ⟨t, z, chosen, -⟩⟩
    · exact absurd (calm h loaded) (Nat.not_le.mpr high)
    · obtain ⟨t, z, candidate⟩ := some_
      exact absurd (loaded.unique loaded' ▸ candidate) (none_ t z)
    · exact ⟨t, z, loaded.unique loaded' ▸ chosen⟩
  · have moves := runEvaluation_of_move (decideMove_of_chosen closed settled loaded high chosen)
    refine ⟨fun auto => execs.trans (next_congr (moves.trans ?_)), fun consult => execs.trans (next_congr (moves.trans ?_))⟩
    · rw [if_pos auto]
      have outcome := setSpread_after_count s o 0 fun r => { r with outcome := .moved }
      exact congrArg (fun u : State => { u with
        zones := s.zones.set z { s.zone z with working := (s.zone z).working.set o (some t) }, latchPending := true }) outcome
    · rw [if_neg (by rw [consult]; decide)]
      have record : (setEvalCount s o 0).spreadRec o = { s.spreadRec o with evalCount := 0 } := s.setSpread_spreadRec ..
      unfold openProposal
      dsimp only
      rw [record, setEvalCount, setSpread_setSpread]
      rfl

end Sys2Proof.Machine
end

section
/-! The operations of the cycle start, of the entry into STOPPED and of the Spread Engine, as sequences of writes. -/

namespace Sys2Proof.Machine

open Sys2Proof

variable {whole : Prop}

/-! ## Working-map writes (R13, R16) -/

/-- Zone records that may follow those of s in a working-map write. -/
structure BindStep (whole : Prop) (s : State) (v : Vector ZoneRec 64) : Prop where
  frame : ∀ z : ZoneNo, v[z] = { s.zone z with working := v[z].working }
  absent : whole → ∀ z : ZoneNo, (s.zone z).provisioned = false → (∀ o : OpNo, s.working z o = none ∧ s.active z o = none) →
    ∀ o : OpNo, v[z].working[o] = none
  bound : ∀ (o : OpNo) (p : Proposal), (s.oper o).tenancy = .active → (s.spreadRec o).proposal = some p →
    v[p.zone].working[o] = s.working p.zone o

theorem BindStep.active {s : State} {v : Vector ZoneRec 64} (h : BindStep whole s v) (z : ZoneNo) : v[z].active = (s.zone z).active :=
  (congrArg ZoneRec.active (h.frame z) :)

theorem BindStep.pending {s : State} {v : Vector ZoneRec 64} (h : BindStep whole s v) (runs : s.transport ≠ .stopped) :
    MapStep whole s v true where
  frame z := (h.frame z).trans (by rw [h.active z])
  absent holds z absent bare o := ⟨h.absent holds z absent bare o, (by rw [h.active z]; exact (bare o).2)⟩
  bound := h.bound
  latched clear := Bool.noConfusion clear
  stopped stopped := absurd stopped runs

theorem BindStep.latched {s : State} {v : Vector ZoneRec 64} (h : BindStep whole s v) :
    MapStep whole s (retable (fun _ r => r.latched) v) false where
  frame z := by
    rw [retable_getElem, h.frame z]
    rfl
  absent holds z absent bare o := by
    rw [retable_getElem]
    exact ⟨h.absent holds z absent bare o, h.absent holds z absent bare o⟩
  bound o p tenant hp := by
    rw [retable_getElem]
    exact h.bound o p tenant hp
  latched _ z o := by
    rw [retable_getElem]
    rfl
  stopped _ := rfl

/-- A working-map write waits for its latch, or is latched at once in STOPPED (R13, R16). -/
theorem latchIfStopped_writes {s x : State} {v : Vector ZoneRec 64} (bare : x.bare = ((s.withZones v).withLatch true).bare)
    (each : BindStep whole s v) : Writes whole s (latchIfStopped x) := by
  have transport : x.transport = s.transport := congr_bare_withMap State.transport bare (fun _ => rfl) (fun _ _ _ => rfl)
  have flag : x.latchPending = true := State.congr_bare State.latchPending bare (fun _ => rfl)
  by_cases stopped : x.transport = .stopped
  · rw [latchIfStopped, if_pos ⟨stopped, flag⟩]
    exact latched_writes bare each.latched
  · rw [latchIfStopped, if_neg fun h => stopped h.1]
    exact Writes.of_bare (Write.bindings v true (each.pending (transport ▸ stopped))).one bare

/-- The zone records after a lane's working binding was written. -/
theorem workingWrite_step {s : State} {z : ZoneNo} {o : OpNo} (b : Option SectorNo) (present : whole → (s.zone z).provisioned = true)
    (free : ∀ p : Proposal, (s.spreadRec o).proposal = some p → p.zone ≠ z) :
    BindStep whole s (s.zones.set z { s.zone z with working := (s.zone z).working.set o b }) := by
  have here : (s.zones.set z { s.zone z with working := (s.zone z).working.set o b })[z] =
      { s.zone z with working := (s.zone z).working.set o b } := s.setZone_zone z _
  have elsewhere {y : ZoneNo} (other : y ≠ z) :
      (s.zones.set z { s.zone z with working := (s.zone z).working.set o b })[y] = s.zone y := s.setZone_zone_ne _ other
  refine ⟨fun y => ?_, fun holds y absent bare q => ?_, fun q p _ hp => ?_⟩
  · by_cases h : y = z
    · subst h
      rw [here]
    · rw [elsewhere h]
  · have other : y ≠ z := fun e => Bool.false_ne_true (absent.symm.trans (e ▸ present holds))
    rw [elsewhere other]
    exact (bare q).1
  · by_cases h : p.zone = z
    · have other : q ≠ o := fun e => free p (e ▸ hp) h
      subst h
      rw [here]
      have ne : o.val ≠ q.val := fun e => other (Fin.ext e.symm)
      exact Vector.getElem_set_ne o.isLt q.isLt ne
    · rw [elsewhere h]
      rfl

/-- A working-map write while the transport runs. -/
theorem workingWrite_writes {s : State} {z : ZoneNo} {o : OpNo} (b : Option SectorNo) (runs : s.transport ≠ .stopped)
    (present : whole → (s.zone z).provisioned = true) (free : ∀ p : Proposal, (s.spreadRec o).proposal = some p → p.zone ≠ z) :
    Writes whole s (workingWrite s z o b) := (Write.bindings _ true ((workingWrite_step b present free).pending runs)).one

/-! ## Entering STOPPED (R29) -/

theorem stopZone_bare_dark {old u : State} {z : ZoneNo} (dark : live old z = false) :
    stopZone old u z = u.setLink z (u.link z).toIdle := by
  unfold stopZone
  simp [dark]

theorem stopZone_link (old u : State) (z y : ZoneNo) :
    (stopZone old u z).link y = if y = z then (u.link z).toIdle else u.link y := by
  have set : (u.setLink z (u.link z).toIdle).link y = if y = z then (u.link z).toIdle else u.link y := by
    split
    · next h =>
      subst h
      exact u.setLink_link ..
    · next h => exact u.setLink_link_ne _ h
  rw [← set]
  unfold stopZone
  dsimp only
  split
  · refine Eq.trans (State.congr_bare (State.link · y) (inputChange_bare ..) (fun _ => rfl)) ?_
    apply goDark_keeps (State.link · y) <;> intros <;> rfl
  · rfl

/-- No zone comes live while the zones are stopped. -/
theorem stopZone_dark {old u : State} {z y : ZoneNo} (lit : live (stopZone old u z) y = true) : live u y = true := by
  have zone : (stopZone old u z).zone y = u.zone y := by apply stopZone_keeps (State.zone · y) <;> intros <;> rfl
  rw [live, zone, stopZone_link] at lit
  split at lit
  · simp [LinkRec.toIdle, LinkRec.reset, heard] at lit
  · exact lit

theorem stopZone_writes {old u : State} (asleep : ∀ y, live u y = true → live old y = true) (z : ZoneNo) :
    Writes whole u (stopZone old u z) := by
  cases dark : live old z with
  | false =>
    rw [stopZone_bare_dark dark]
    refine setLink_writes ⟨toIdle_good, fun lit _ => ?_, fun _ awake => absurd rfl awake⟩
    exact absurd (dark.symm.trans (asleep z lit)) Bool.noConfusion
  | true =>
    unfold stopZone
    simp only [dark, if_true]
    exact darkened_writes (inputChange_bare ..) toIdle_good fun _ => rfl

theorem stopLinks_writes (s : State) : Writes whole (haltTransport s) (stopLinks s) := by
  rw [stopLinks_eq]
  have zones : Writes whole (haltTransport s) (allZones.foldl (stopZone s) (haltTransport s)) :=
    foldl_writes_of (P := fun u => ∀ y, live u y = true → live s y = true) (fun _ _ before _ lit => before _ (stopZone_dark lit))
      (fun _ z before => stopZone_writes before z) allZones fun _ lit => lit
  exact zones.trans (closes_writes (withdrawAll_bare ..))

theorem enterStopped_writes (s : State) : Writes whole (haltTransport s) (enterStopped s) := by
  have latch (u : State) : Writes whole u (latchOnEntry u) := by
    unfold latchOnEntry
    split
    · exact takeLatch_writes u
    · exact .refl u
  have commit (u : State) : Writes whole u (commitOnEntry u) := by
    unfold commitOnEntry
    split
    · exact takeCommit_writes u
    · exact .refl u
  exact (stopLinks_writes s).trans ((latch _).trans (commit _))

/-! ## The Spread Engine (R104 to R112) -/

theorem setSettle_writes {s : State} {z : ZoneNo} {o : OpNo} {n : Nat} (range : n = s.settleTime ∨ n = s.holdOff) :
    Writes whole s (s.setSettle z o n) := by
  refine (settles_write (v := laneSet s.settle z o n) fun y q => ?_).one
  have lane : laneGet (laneSet s.settle z o n) y q = _ := setSettle_settleCount_eq s z o n y q
  rw [lane]
  split
  · exact .inr range
  · exact .inl (Nat.le_refl _)

/-- What the closing of a proposal allows: a working-map write at its lane. -/
theorem closeProposal_none (s : State) (o : OpNo) (p : Proposal) : ((closeProposal s o p).spreadRec o).proposal = none := by
  rw [closeProposal, s.setSpread_spreadRec]

/-- The expiry of an open proposal (R112). -/
theorem expireProposal_writes {s : State} {o : OpNo} {p : Proposal} (stands : (s.spreadRec o).proposal = some p)
    (runs : s.transport ≠ .stopped) (map : whole → MapInv s) : Writes whole s (expireProposal s o p) := by
  have closed : Writes whole s (closeProposal s o p) := closeProposal_writes stands
  unfold expireProposal
  dsimp only
  cases (s.oper o).silence with
  | apply =>
    have present (holds : whole) : ((closeProposal s o p).zone p.zone).provisioned = true := by
      obtain ⟨-, -, -, standing⟩ := map holds
      obtain ⟨-, lit, -, -⟩ := standing o p stands
      exact (Bool.and_eq_true_iff.mp lit).1
    have write : Writes whole (closeProposal s o p) (workingWrite (closeProposal s o p) p.zone o (some p.toSector)) :=
      workingWrite_writes _ runs present fun q hq => absurd ((closeProposal_none s o p).symm.trans hq) (Option.some_ne_none q).symm
    exact Writes.of_bare (closed.trans write) (file_bare ..)
  | drop =>
    have load : Writes whole (closeProposal s o p) ((closeProposal s o p).setSettle p.zone o s.settleTime) :=
      setSettle_writes (.inl rfl)
    exact Writes.of_bare (closed.trans load) (file_bare ..)

theorem countProposal_writes {s : State} (runs : s.transport ≠ .stopped) (map : whole → MapInv s) (o : OpNo) :
    Writes whole s (countProposal s o) := by
  unfold countProposal
  split
  · exact .refl s
  · next p hp =>
    split
    · next more =>
      refine setSpread_writes ⟨fun _ good => ?_, fun q hq => ?_⟩
      · obtain ⟨count, next, closed, open_⟩ := good
        obtain ⟨id, -, high⟩ := open_ p hp
        refine ⟨count, next, closed, fun q hq => ?_⟩
        cases hq
        exact ⟨id, Nat.le_sub_one_of_lt more, (Nat.sub_le ..).trans high⟩
      · cases hq
        exact .inl ⟨p, hp, rfl, rfl⟩
    · exact expireProposal_writes hp runs map

theorem setOutcome_writes (s : State) (o : OpNo) (e : EvalOutcome) : Writes whole s (setOutcome s o e) :=
  setSpread_writes (.of_kept (fun _ good => good) (.inl rfl))

theorem setEvalCount_writes {s : State} {o : OpNo} {n : Nat} (range : goodOperator (s.oper o) → n < Config.filterOne) :
    Writes whole s (setEvalCount s o n) :=
  setSpread_writes (.of_kept (fun op good => ⟨range op, good.2⟩) (.inl rfl))

theorem evaluate_writes {s : State} {o : OpNo} (runs : s.transport ≠ .stopped) (counts : counted s o = true) :
    Writes whole s (evaluate s o) := by
  have tenant : (s.oper o).tenancy = .active := by
    simp only [counted, Bool.and_eq_true, decide_eq_true_eq] at counts
    exact counts.1
  unfold evaluate
  split
  · exact setOutcome_writes ..
  · next z h t move =>
    obtain ⟨closed, lit, free, bound, settled⟩ := decideMove_opens move
    split
    · have write : Writes whole s (workingWrite s z o (some t)) :=
        workingWrite_writes _ runs (fun _ => (Bool.and_eq_true_iff.mp lit).1) fun q hq =>
          absurd (closed.symm.trans hq) (Option.some_ne_none q).symm
      exact write.trans (setOutcome_writes ..)
    · refine Writes.of_bare (setSpread_writes (r := { s.spreadRec o with
        proposal := some { id := (s.spreadRec o).nextId, zone := z, fromSector := h, toSector := t, remaining := (s.oper o).window }
        nextId := ((s.spreadRec o).nextId + 1) % Config.idCount, outcome := .proposed }) ⟨fun op good => ?_, fun q hq => ?_⟩) (file_bare ..)
      · obtain ⟨-, -, -, ⟨low, high⟩, -⟩ := op
        obtain ⟨count, next, last, -⟩ := good
        refine ⟨count, Nat.mod_lt _ (by decide), last, fun q hq => ?_⟩
        cases hq
        exact ⟨next, low, high⟩
      · cases hq
        exact .inr ⟨runs, tenant, lit, free, bound, settled⟩

theorem runEvaluation_writes {s : State} {o : OpNo} (runs : s.transport ≠ .stopped) (counts : counted s o = true) :
    Writes whole s (runEvaluation s o) :=
  (setEvalCount_writes fun _ => by decide).trans (evaluate_writes (s := setEvalCount s o 0) runs counts)

theorem countEvaluation_writes {s : State} (runs : s.transport ≠ .stopped) (o : OpNo) : Writes whole s (countEvaluation s o) := by
  unfold countEvaluation
  split
  · next counts =>
    split
    · next short =>
      refine setEvalCount_writes fun op => ?_
      obtain ⟨-, -, ⟨-, high⟩, -⟩ := op
      exact Nat.lt_of_lt_of_le short high
    · exact runEvaluation_writes runs counts
  · exact .refl s

theorem countSettles_writes (s : State) : Writes whole s (countSettles s) := by
  refine (settles_write (v := retable (fun _ lanes => retable (fun _ n => n - 1) lanes) s.settle) fun z o => .inl ?_).one
  rw [laneGet, retable_getElem, retable_getElem]
  exact Nat.sub_le ..

theorem countProposal_transport (s : State) (o : OpNo) : (countProposal s o).transport = s.transport := by
  apply countProposal_keeps State.transport <;> intros <;> rfl

theorem countEvaluation_transport (s : State) (o : OpNo) : (countEvaluation s o).transport = s.transport := by
  apply countEvaluation_keeps State.transport <;> intros <;> rfl

theorem countProposals_writes {s : State} (runs : s.transport ≠ .stopped) (map : whole → MapInv s) :
    Writes whole s (allOps.foldl countProposal s) := by
  refine foldl_writes_of (P := fun u => u.transport ≠ .stopped ∧ (whole → MapInv u)) (fun u o before => ?_) (fun u o before => ?_) allOps
    ⟨runs, map⟩
  · obtain ⟨still, kept⟩ := before
    refine ⟨by rwa [countProposal_transport], fun holds => ?_⟩
    exact (countProposal_writes (whole := whole) still kept o).keeps (Write.mapInv holds) (kept holds)
  · exact countProposal_writes before.1 before.2 o

theorem countEvaluations_writes {s : State} (runs : s.transport ≠ .stopped) : Writes whole s (allOps.foldl countEvaluation s) :=
  foldl_writes_of (P := fun u => u.transport ≠ .stopped) (fun u o still => by rwa [countEvaluation_transport])
    (fun u o still => countEvaluation_writes still o) allOps runs

theorem countSettles_transport (s : State) : (countSettles s).transport = s.transport := countSettles_keeps State.transport (fun _ _ => rfl) s

/-- The reaction of the Spread Engine to a superframe start (R104). -/
theorem spreadReaction_writes {s : State} (runs : s.transport ≠ .stopped) (map : whole → MapInv s) :
    Writes whole s (spreadReaction s) := by
  have settles : Writes whole s (countSettles s) := countSettles_writes s
  have runs' : (countSettles s).transport ≠ .stopped := by rwa [countSettles_transport]
  have map' (holds : whole) : MapInv (countSettles s) := settles.keeps (Write.mapInv holds) (map holds)
  unfold spreadReaction
  generalize countSettles s = u at *
  refine settles.trans ((countProposals_writes runs' map').trans (countEvaluations_writes ?_))
  rwa [foldl_keeps State.transport countProposal countProposal_transport]

/-! ## Retry timers and acknowledgements (R71, R77) -/

theorem setProt_state_idle_writes {s : State} {z : ZoneNo} {c : ClassNo} {left : Nat} (recovers : (s.protRec z c).state = .recovering left) :
    Writes whole s (s.setProt z c { s.protRec z c with state := .idle }) := by
  refine setProt_writes ⟨fun ⟨good, latched⟩ => ⟨?_, latched⟩, .inl⟩
  simp only [goodRecord, recovers] at good
  exact fun raw => absurd (good.1.symm.trans raw) Bool.noConfusion

theorem expireRetry_writes {s : State} {z : ZoneNo} {c : ClassNo} {left : Nat} (recovers : (s.protRec z c).state = .recovering left) :
    Writes whole s (expireRetry s z c) := Writes.of_bare (setProt_state_idle_writes recovers) (fileAlarm_bare ..)

theorem countRetry_writes (s : State) (z : ZoneNo) (c : ClassNo) : Writes whole s (countRetry s z c) := by
  unfold countRetry
  split
  · next left recovers =>
    split
    · next more =>
      refine setProt_writes ⟨fun ⟨good, latched⟩ => ⟨?_, latched⟩, .inl⟩
      simp only [goodRecord, recovers] at good
      obtain ⟨clear, -, high, mode⟩ := good
      exact ⟨clear, Nat.le_sub_one_of_lt more, (Nat.sub_le ..).trans high, mode⟩
    · exact expireRetry_writes recovers
  · exact .refl s

theorem countZoneRetries_writes (s : State) (z : ZoneNo) : Writes whole s (countZoneRetries s z) :=
  Writes.of_bare (foldl_writes (fun u c => countRetry_writes u z c) allClasses s) (takeOutputs_bare ..)

theorem clearRecord_writes (s : State) (z : ZoneNo) (c : ClassNo) : Writes whole s (clearRecord s z c) := by
  unfold clearRecord
  dsimp only
  split
  · exact .refl s
  · next clear =>
    have clear : (s.protRec z c).raw = false := by simpa using clear
    split
    · refine Writes.of_bare (setProt_writes (r := { s.protRec z c with state := .idle, latched := false }) ⟨fun _ => ⟨?_, ?_⟩, .inl⟩)
        (fileAlarm_bare ..)
      · exact fun raw => absurd (clear.symm.trans raw) Bool.noConfusion
      · exact fun raw => absurd (clear.symm.trans raw) Bool.noConfusion
    · next kept =>
      refine setProt_writes ⟨fun ⟨good, _⟩ => ⟨?_, fun raw => absurd (clear.symm.trans raw) Bool.noConfusion⟩, .inl⟩
      unfold goodRecord at *
      cases state : (s.protRec z c).state with
      | idle => simpa [state] using good
      | active => simpa [state] using good
      | recovering left => simpa [state] using good
      | held => exact absurd state kept

theorem clearZone_writes (s : State) (z : ZoneNo) : Writes whole s (clearZone s z) :=
  Writes.of_bare (foldl_writes (fun u c => clearRecord_writes u z c) allClasses s) (takeOutputs_bare ..)

/-! ## Slot filling and dwells (R30, R34, R56) -/

theorem shadowEntry_writes (s : State) (spoke : SpokeNo) (n : EntryNo) : Writes whole s (shadowEntry s spoke n) := by
  have counts : Write whole s (s.setShadow spoke n { count := saturate Config.max8 ((s.shadow spoke n).count + 1), reported := true }) :=
    Write.shadow spoke n _ (saturate_le ..)
  unfold shadowEntry
  dsimp only
  split
  · exact counts.one
  · exact Writes.of_bare counts.one (file_bare ..)

theorem shadowSpoke_writes (s : State) (spoke : SpokeNo) : Writes whole s (shadowSpoke s spoke) := by
  unfold shadowSpoke
  exact foldl_writes (fun u slot => foldl_writes (fun v n => shadowEntry_writes v spoke n) _ u) allSlots s

theorem shadowSpoke_transport (s : State) (spoke : SpokeNo) : (shadowSpoke s spoke).transport = s.transport := by
  apply shadowSpoke_keeps State.transport <;> intros <;> rfl

theorem fillSlots_writes {s : State} (runs : s.transport ≠ .stopped) : Writes whole s (fillSlots s) := by
  have shadows : Writes whole s (allSpokes.foldl shadowSpoke s) := foldl_writes shadowSpoke_writes allSpokes s
  refine shadows.andThen (Write.sends ?_ _)
  rwa [foldl_keeps State.transport shadowSpoke shadowSpoke_transport]

theorem dwellCount_good {r : LinkRec} (good : goodLink r) : goodLink r.dwellCount := by
  unfold LinkRec.dwellCount
  split
  · next lost =>
    split
    · next short =>
      obtain ⟨⟨run, history, missed, -, loss⟩, search, -, idle, empty⟩ := good
      exact ⟨⟨run, history, missed, short, loss⟩, search, fun other => absurd lost other, idle, empty⟩
    · exact toSearch_good good
  · exact good

theorem dwellCount_step (s : State) (z : ZoneNo) : LinkStep s z (s.link z).dwellCount := by
  cases state : (s.link z).state with
  | lost => exact .of_heard dwellCount_good (by simp [state, heard]) (by simp [state])
  | _ =>
    have same : (s.link z).dwellCount = s.link z := if_neg (by simp [state])
    rw [same]
    exact .same s z

theorem countDwells_writes (s : State) : Writes whole s (countDwells s) := by
  refine (Write.links (retable (fun _ r => r.dwellCount) s.links) fun z => ?_).one
  rw [retable_getElem]
  exact dwellCount_step s z

/-! ## The cycle start (R27) -/

theorem react_transport (s : State) (r : Reaction) : (react s r).transport = s.transport := by
  apply react_keeps State.transport <;> intros <;> rfl

theorem react_writes {s : State} (runs : s.transport ≠ .stopped) (map : whole → MapInv s) (r : Reaction) : Writes whole s (react s r) := by
  cases r with
  | latch =>
    show Writes whole s (latchReaction s)
    unfold latchReaction
    split
    · exact (takeLatch_writes s).andThen (.mark true)
    · exact .refl s
  | commit =>
    show Writes whole s (commitReaction s)
    unfold commitReaction
    split
    · exact (takeCommit_writes s).andThen (.mark true)
    · exact .refl s
  | fill => exact fillSlots_writes runs
  | dwell => exact countDwells_writes s
  | protect =>
    show Writes whole s (if s.cycle = 0 then protectReaction s else s)
    split
    · exact foldl_writes countZoneRetries_writes allZones s
    · exact .refl s
  | spread =>
    show Writes whole s (if s.cycle = 0 then spreadReaction s else s)
    split
    · exact spreadReaction_writes runs map
    · exact .refl s

theorem advanceCounts_transport (s : State) : (advanceCounts s).transport = s.transport :=
  advanceCounts_keeps State.transport (fun _ _ => rfl) (fun _ _ => rfl) (fun _ _ => rfl) s

theorem cycleStart_writes {s : State} (runs : s.transport ≠ .stopped) (map : whole → MapInv s) (order : List Reaction) :
    Writes whole s (cycleStart order s) := by
  have counts : Writes whole s (advanceCounts s) := (Write.advance runs).one
  refine counts.trans (foldl_writes_of (P := fun u => u.transport ≠ .stopped ∧ (whole → MapInv u)) (fun u r before => ?_)
    (fun u r before => react_writes before.1 before.2 r) _
    ⟨by rwa [advanceCounts_transport], fun holds => counts.keeps (Write.mapInv holds) (map holds)⟩)
  obtain ⟨still, kept⟩ := before
  exact ⟨by rwa [react_transport], fun holds => (react_writes (whole := whole) still kept r).keeps (Write.mapInv holds) (kept holds)⟩

end Sys2Proof.Machine
end

section
/-! The entry into STOPPED, field by field, and O30. -/

namespace Sys2Proof.Machine

open Sys2Proof

/-! ## The zones stopped (R57, R58, R72) -/

theorem foldl_stopZone_link (old : State) {l : List ZoneNo} (once : l.Nodup) (u : State) (y : ZoneNo) :
    (l.foldl (stopZone old) u).link y = if y ∈ l then (u.link y).toIdle else u.link y := by
  induction l generalizing u with
  | nil => simp
  | cons z l ih =>
    obtain ⟨fresh, rest⟩ := List.nodup_cons.mp once
    rw [List.foldl_cons, ih rest, stopZone_link]
    by_cases h : y = z
    · subst h
      simp [fresh]
    · simp [h]

theorem stopZone_mode (old u : State) (z : ZoneNo) (c : ClassNo) : (stopZone old u z).mode c = u.mode c := by
  apply stopZone_keeps (State.mode · c) <;> intros <;> rfl

theorem foldl_stopZone_protRec (old : State) {l : List ZoneNo} (once : l.Nodup) (u : State) (y : ZoneNo) (c : ClassNo) :
    (l.foldl (stopZone old) u).protRec y c =
      if live old y = true ∧ y ∈ l then edgeRecord (u.mode c) (u.protRec y c) false else u.protRec y c := by
  induction l generalizing u with
  | nil => simp
  | cons z l ih =>
    obtain ⟨fresh, rest⟩ := List.nodup_cons.mp once
    rw [List.foldl_cons, ih rest, stopZone_protRec, stopZone_mode]
    by_cases h : y = z
    · subst h
      simp [fresh]
    · simp [h]

/-- The fields that the stopping of the zones writes outside the Power Share Unit and the queues. -/
theorem foldl_stopZone_bare (old : State) (l : List ZoneNo) (u : State) :
    (l.foldl (stopZone old) u).bare = ((u.bare.withLinks (l.foldl (stopZone old) u).links).withProt (l.foldl (stopZone old) u).prot).withSpread
      (l.foldl (stopZone old) u).spread :=
  bare_eq_of_keeps (fun x y => ((x.bare.withLinks y.links).withProt y.prot).withSpread y.spread) (fun _ => rfl) fun y =>
    foldl_keeps (fun x => ((x.bare.withLinks y.links).withProt y.prot).withSpread y.spread) _ (fun v z => by
      apply stopZone_keeps (fun x => ((x.bare.withLinks y.links).withProt y.prot).withSpread y.spread) <;> intros <;> rfl) l u

/-- A state whose spreading states are those of u with some proposals closed. -/
def ClosedFrom (u t : State) : Prop := ∃ test, t.spread = closedWhere u test

theorem ClosedFrom.refl (u : State) : ClosedFrom u u :=
  ⟨fun _ _ => false, (closedWhere_eq_self fun _ _ _ => rfl).symm⟩

theorem closedWhere_of_spread {t u : State} (h : t.spread = u.spread) (test : OpNo → Proposal → Bool) :
    closedWhere t test = closedWhere u test := by
  unfold closedWhere State.spreadRec
  rw [h]

theorem ClosedFrom.closes {u t w : State} {test : OpNo → Proposal → Bool} (h : ClosedFrom u t) (more : w.spread = closedWhere t test) :
    ClosedFrom u w := by
  obtain ⟨before, spread⟩ := h
  refine ⟨fun o p => before o p || test o p, ?_⟩
  rw [more, ← closedWhere_closedWhere]
  exact closedWhere_of_spread spread test

theorem withSpread_spread_of_bare {t u : State} {c : Vector SpreadRec 4} (bare : t.bare = u.withSpread c) : t.spread = c :=
  congrArg State.spread bare

theorem goDark_spread (old s : State) (z : ZoneNo) (cause : DarkCause) (why : WithdrawCause) :
    (goDark old s z cause why).spread = closedWhere s fun _ p => decide (p.zone = z) := withSpread_spread_of_bare (goDark_bare ..)

theorem stopZone_closes {old u t : State} (h : ClosedFrom t u) (z : ZoneNo) : ClosedFrom t (stopZone old u z) := by
  cases dark : live old z with
  | false =>
    rw [stopZone_bare_dark dark]
    exact h
  | true =>
    refine h.closes (test := fun _ p => decide (p.zone = z)) ?_
    unfold stopZone
    simp only [dark, if_true]
    exact (State.congr_bare State.spread (inputChange_bare ..) (fun _ => rfl)).trans (goDark_spread ..)

theorem foldl_stopZone_closes (old : State) {t : State} (l : List ZoneNo) {u : State} (h : ClosedFrom t u) :
    ClosedFrom t (l.foldl (stopZone old) u) := by
  induction l generalizing u with
  | nil => exact h
  | cons z l ih => exact ih (stopZone_closes h z)

/-! ## The links stopped -/

theorem closedWhere_all_of {u t : State} (h : ClosedFrom u t) : closedWhere t (fun _ _ => true) = closedWhere u fun _ _ => true := by
  obtain ⟨test, spread⟩ := h
  rw [closedWhere_of_spread (t := t) (u := u.withSpread (closedWhere u test)) spread, closedWhere_closedWhere]
  simp

/-- The state of chapters 1 to 6 after the links were stopped (R29, R57, R72). -/
theorem stopLinks_bare (s : State) :
    (stopLinks s).bare = (((haltTransport s).bare.withLinks (stopLinks s).links).withProt (stopLinks s).prot).withSpread
      (closedWhere s fun _ _ => true) := by
  have zones := foldl_stopZone_bare s allZones (haltTransport s)
  have closed : ClosedFrom s (allZones.foldl (stopZone s) (haltTransport s)) := foldl_stopZone_closes s allZones (.refl s)
  rw [stopLinks_eq]
  generalize allZones.foldl (stopZone s) (haltTransport s) = u at *
  have spread := withdrawAll_bare u .transportStop
  rw [closedWhere_all_of closed] at spread
  have links : (withdrawAll u .transportStop).links = u.links := withdrawAll_keeps State.links (fun _ _ => rfl) (fun _ _ => rfl) ..
  have prot : (withdrawAll u .transportStop).prot = u.prot := withdrawAll_keeps State.prot (fun _ _ => rfl) (fun _ _ => rfl) ..
  rw [links, prot, spread, zones, withSpread_withSpread]

theorem stopLinks_link (s : State) (z : ZoneNo) : (stopLinks s).link z = (s.link z).toIdle := by
  have zones : (allZones.foldl (stopZone s) (haltTransport s)).link z = (s.link z).toIdle := by
    rw [allZones, foldl_stopZone_link s (List.nodup_finRange 64), if_pos (List.mem_finRange z)]
    rfl
  rw [stopLinks_eq, ← zones]
  apply withdrawAll_keeps (State.link · z) <;> intros <;> rfl

theorem stopLinks_protRec (s : State) (z : ZoneNo) (c : ClassNo) :
    (stopLinks s).protRec z c = if live s z then edgeRecord (s.mode c) (s.protRec z c) false else s.protRec z c := by
  have zones : (allZones.foldl (stopZone s) (haltTransport s)).protRec z c =
      if live s z then edgeRecord (s.mode c) (s.protRec z c) false else s.protRec z c := by
    rw [allZones, foldl_stopZone_protRec s (List.nodup_finRange 64)]
    simp only [List.mem_finRange, and_true]
    rfl
  rw [stopLinks_eq, ← zones]
  apply withdrawAll_keeps (State.protRec · z c) <;> intros <;> rfl

/-! ## The latch and the commit on entry (R16, R29, R36) -/

/-- What a latch on entry leaves in the map. -/
theorem latchOnEntry_zone (u : State) (z : ZoneNo) :
    (latchOnEntry u).zone z = if u.latchPending then (u.zone z).latched else u.zone z := by
  unfold latchOnEntry
  split
  · exact takeLatch_zone u z
  · rfl

/-- The fields that the entry into STOPPED leaves or clears before the latch and the commit. -/
def State.steady (s : State) : Transport × Bool × Option Downlink × Nat × Nat × Bool × Vector OpRec 4 ×
    Vector (Vector PlanEntry 64) 8 × Vector ClassMode 6 × Vector (Vector Nat 4) 64 × Nat × PlanWindow :=
  (s.transport, s.firstPending, s.downlink, s.cycle, s.superframe, s.mark, s.ops, s.workPlan, s.modes, s.cells, s.stale, s.window)

theorem steady_bare (s : State) : s.bare.steady = s.steady := rfl

theorem steady_withLinks (s : State) (l : Vector LinkRec 64) : (s.withLinks l).steady = s.steady := rfl
theorem steady_withProt (s : State) (v : Vector (Vector ProtRec 6) 64) : (s.withProt v).steady = s.steady := rfl
theorem steady_withSpread (s : State) (c : Vector SpreadRec 4) : (s.withSpread c).steady = s.steady := rfl

theorem steady_of_bare {t u : State} {l : Vector LinkRec 64} {v : Vector (Vector ProtRec 6) 64} {c : Vector SpreadRec 4}
    (bare : t.bare = ((u.bare.withLinks l).withProt v).withSpread c) : t.steady = u.steady := by
  rw [← steady_bare t, bare, steady_withSpread, steady_withProt, steady_withLinks, steady_bare]

/-- What neither the latch nor the commit on entry writes is as the stopping of the links leaves it. -/
theorem enterStopped_of_stopLinks {β : Type} (g : State → β) (latch : ∀ u, g (latchOnEntry u) = g u)
    (commit : ∀ u, g (commitOnEntry u) = g u) (s : State) : g (enterStopped s) = g (stopLinks s) := (commit _).trans (latch _)

theorem enterStopped_steady (s : State) : (enterStopped s).steady = (haltTransport s).steady := by
  rw [← steady_of_bare (stopLinks_bare s)]
  refine enterStopped_of_stopLinks State.steady (fun u => ?_) (fun u => ?_) s
  · apply latchOnEntry_keeps State.steady <;> intros <;> rfl
  · apply commitOnEntry_keeps State.steady <;> intros <;> rfl

theorem enterStopped_link (s : State) (z : ZoneNo) : (enterStopped s).link z = (s.link z).toIdle := by
  rw [← stopLinks_link]
  refine enterStopped_of_stopLinks (State.link · z) (fun u => ?_) (fun u => ?_) s
  · apply latchOnEntry_keeps (State.link · z) <;> intros <;> rfl
  · apply commitOnEntry_keeps (State.link · z) <;> intros <;> rfl

theorem enterStopped_protRec (s : State) (z : ZoneNo) (c : ClassNo) :
    (enterStopped s).protRec z c = if live s z then edgeRecord (s.mode c) (s.protRec z c) false else s.protRec z c := by
  rw [← stopLinks_protRec]
  refine enterStopped_of_stopLinks (State.protRec · z c) (fun u => ?_) (fun u => ?_) s
  · apply latchOnEntry_keeps (State.protRec · z c) <;> intros <;> rfl
  · apply commitOnEntry_keeps (State.protRec · z c) <;> intros <;> rfl

theorem enterStopped_spread (s : State) : (enterStopped s).spread = closedWhere s fun _ _ => true := by
  rw [← withSpread_spread_of_bare (stopLinks_bare s)]
  refine enterStopped_of_stopLinks State.spread (fun u => ?_) (fun u => ?_) s
  · apply latchOnEntry_keeps State.spread <;> intros <;> rfl
  · apply commitOnEntry_keeps State.spread <;> intros <;> rfl

/-- What the stopping of the links leaves to the latch. -/
def State.unlatched (s : State) : Vector ZoneRec 64 × Bool := (s.zones, s.latchPending)

/-- What the stopping of the links and the latch leave to the commit. -/
def State.uncommitted (s : State) : Bool × Vector (Vector PlanEntry 64) 8 × Vector (Vector PlanEntry 64) 8 × Option Stamp ×
    Vector (Vector Shadow 64) 8 × Nat × Nat :=
  (s.commitPending, s.workPlan, s.activePlan, s.lastCommit, s.shadows, s.superframe, s.cycle)

theorem stopLinks_unlatched (s : State) : (stopLinks s).unlatched = s.unlatched := by
  apply stopLinks_keeps State.unlatched <;> intros <;> rfl

theorem latched_uncommitted (s : State) : (latchOnEntry (stopLinks s)).uncommitted = s.uncommitted := by
  refine Eq.trans ?_ (?_ : (stopLinks s).uncommitted = s.uncommitted)
  · apply latchOnEntry_keeps State.uncommitted <;> intros <;> rfl
  · apply stopLinks_keeps State.uncommitted <;> intros <;> rfl

theorem latchOnEntry_latchPending (u : State) : (latchOnEntry u).latchPending = false := by
  unfold latchOnEntry
  split
  · exact takeLatch_latchPending u
  · next clear => simpa using clear

theorem enterStopped_latchPending (s : State) : (enterStopped s).latchPending = false := by
  rw [← latchOnEntry_latchPending (stopLinks s)]
  apply commitOnEntry_keeps State.latchPending <;> intros <;> rfl

theorem enterStopped_zone (s : State) (z : ZoneNo) :
    (enterStopped s).zone z = if s.latchPending then (s.zone z).latched else s.zone z := by
  have before := stopLinks_unlatched s
  simp only [State.unlatched, Prod.mk.injEq] at before
  obtain ⟨zones, flag⟩ := before
  have latch := latchOnEntry_zone (stopLinks s) z
  simp only [State.zone, zones, flag] at latch
  rw [State.zone, State.zone, ← latch]
  exact commitOnEntry_keeps (fun u : State => u.zones[z]) (fun _ _ => rfl) (fun _ _ => rfl) (fun _ _ => rfl) (fun _ _ => rfl)
    (fun _ _ => rfl) (fun _ _ => rfl) (fun _ _ => rfl) (fun _ _ => rfl) _

/-- What a commit on entry leaves, told from the state before. -/
theorem commitOnEntry_fields (u : State) : (commitOnEntry u).commitPending = false ∧
    (commitOnEntry u).activePlan = (if u.commitPending then u.workPlan else u.activePlan) ∧
    (commitOnEntry u).lastCommit = (if u.commitPending then some u.stamp else u.lastCommit) ∧
    ∀ (spoke : SpokeNo) (n : EntryNo), (commitOnEntry u).shadow spoke n =
      if u.commitPending then { count := 0, reported := false } else u.shadow spoke n := by
  unfold commitOnEntry
  split
  · have bare := takeCommit_bare u
    exact ⟨State.congr_bare State.commitPending bare (fun _ => rfl), State.congr_bare State.activePlan bare (fun _ => rfl), State.congr_bare State.lastCommit bare (fun _ => rfl),
      fun spoke n => (State.congr_bare (State.shadow · spoke n) bare (fun _ => rfl)).trans (storeCommit_shadow u spoke n)⟩
  · next clear => exact ⟨by simpa using clear, rfl, rfl, fun _ _ => rfl⟩

theorem enterStopped_commit (s : State) : (enterStopped s).commitPending = false ∧
    (enterStopped s).activePlan = (if s.commitPending then s.workPlan else s.activePlan) ∧
    (enterStopped s).lastCommit = (if s.commitPending then some s.stamp else s.lastCommit) ∧
    ∀ (spoke : SpokeNo) (n : EntryNo), (enterStopped s).shadow spoke n =
      if s.commitPending then { count := 0, reported := false } else s.shadow spoke n := by
  have before := latched_uncommitted s
  have fields := commitOnEntry_fields (latchOnEntry (stopLinks s))
  rw [← enterStopped] at fields
  generalize latchOnEntry (stopLinks s) = u at *
  simp only [State.uncommitted, Prod.mk.injEq] at before
  obtain ⟨pending, work, active, last, shadows, superframe, cycle⟩ := before
  simpa only [pending, work, active, last, State.stamp, superframe, cycle, State.shadow, shadows] using fields

/-! ## The zones queued and the grants (R126, R127) -/

theorem latchOnEntry_queue (u : State) {z : ZoneNo} (queued : z ∈ u.realloc) : z ∈ (latchOnEntry u).realloc := by
  unfold latchOnEntry
  split
  · exact (takeLatch_clips u).kept z queued
  · exact queued

theorem commitOnEntry_queue (u : State) {z : ZoneNo} (queued : z ∈ u.realloc) : z ∈ (commitOnEntry u).realloc := by
  unfold commitOnEntry
  split
  · exact (takeCommit_clips u).kept z queued
  · exact queued

theorem goDark_realloc (old s : State) (z : ZoneNo) (cause : DarkCause) (why : WithdrawCause) :
    (goDark old s z cause why).realloc = s.realloc := by
  apply goDark_keeps State.realloc <;> intros <;> rfl

theorem mem_stopZone (old u : State) (z y : ZoneNo) :
    y ∈ (stopZone old u z).realloc ↔ (y = z ∧ live old z = true) ∨ y ∈ u.realloc := by
  cases lit : live old z with
  | false =>
    rw [stopZone_bare_dark lit]
    simp only [Bool.false_eq_true, and_false, false_or]
    rfl
  | true =>
    unfold stopZone
    simp only [lit, if_true, and_true]
    rw [mem_inputChange, goDark_realloc]
    rfl

theorem stopLinks_queue {s : State} {z : ZoneNo} (lit : live s z = true) : z ∈ (stopLinks s).realloc := by
  have queue (l : List ZoneNo) (u : State) : z ∈ l ∨ z ∈ u.realloc → z ∈ (l.foldl (stopZone s) u).realloc := by
    induction l generalizing u with
    | nil => exact fun h => h.resolve_left List.not_mem_nil
    | cons y l ih =>
      intro h
      refine ih _ ?_
      rw [mem_stopZone]
      rcases h with here | queued
      · rcases List.mem_cons.mp here with rfl | later
        · exact .inr (.inl ⟨rfl, lit⟩)
        · exact .inl later
      · exact .inr (.inr queued)
  have same : (stopLinks s).realloc = (allZones.foldl (stopZone s) (haltTransport s)).realloc := by
    rw [stopLinks_eq]
    apply withdrawAll_keeps State.realloc <;> intros <;> rfl
  rw [same]
  exact queue allZones _ (.inl (List.mem_finRange z))

theorem enterStopped_queue {s : State} {z : ZoneNo} (lit : live s z = true) : z ∈ (enterStopped s).realloc :=
  commitOnEntry_queue _ (latchOnEntry_queue _ (stopLinks_queue lit))

/-- Grants that kept Law 2 are 0 in STOPPED, where no lane carries. -/
theorem enterStopped_grant {s : State} (law : RequestLaw s) (z : ZoneNo) (o : OpNo) : (enterStopped s).grant z o = 0 := by
  have stopped : (stopLinks s).transport = .stopped := by
    have steady := steady_of_bare (stopLinks_bare s)
    simp only [State.steady, Prod.mk.injEq] at steady
    exact steady.1
  have links : (stopLinks s).grant z o ≤ 0 := by
    have kept := (stopLinks_clips s).requestLaw law z o
    rwa [effRequest_of_idle (carrying_of_stopped stopped z o)] at kept
  have latch : PowerMove (stopLinks s) (latchOnEntry (stopLinks s)) := by
    unfold latchOnEntry
    split
    · exact takeLatch_move _
    · exact .refl _
  have commit (u : State) : PowerMove u (commitOnEntry u) := by
    unfold commitOnEntry
    split
    · exact takeCommit_move u
    · exact .refl u
  exact Nat.le_zero.mp (((commit _).falls z o).trans ((latch.falls z o).trans links))

/-! ## O30 -/

theorem edgeRecord_of_dark (m : ClassMode) (r : ProtRec) (lit : Bool) :
    (if lit then edgeRecord m r false else r).latched = r.latched ∧
      if lit then (if lit then edgeRecord m r false else r).raw = false else (if lit then edgeRecord m r false else r) = r := by
  cases lit with
  | false => exact ⟨rfl, rfl⟩
  | true => exact ⟨edgeRecord_latched_of_falling m r, edgeRecord_raw m r false⟩

/-- What the entry into STOPPED leaves, in any state that shares its bare state, its grants and its queued zones. -/
theorem enteredStopped_of {s t : State} (bare : t.bare = (enterStopped s).bare) (grants : ∀ z o, t.grant z o = (enterStopped s).grant z o)
    (queued : ∀ z, z ∈ (enterStopped s).realloc → AwaitsAllocation t z) : EnteredStopped s t := by
  have steady := enterStopped_steady s
  rw [← steady_bare, ← bare, steady_bare] at steady
  simp only [State.steady, Prod.mk.injEq] at steady
  obtain ⟨transport, first, downlink, cycle, superframe, mark, ops, work, modes, cells, stale, window⟩ := steady
  obtain ⟨commit, plan, last, shadow⟩ := enterStopped_commit s
  refine ⟨⟨transport, first, downlink, (State.congr_bare State.latchPending bare (fun _ => rfl)).trans (enterStopped_latchPending s),
    (State.congr_bare State.commitPending bare (fun _ => rfl)).trans commit, cycle, superframe, mark, ops, work, modes, cells, stale, window⟩,
    fun z => ⟨(State.congr_bare (State.link · z) bare (fun _ => rfl)).trans (enterStopped_link s z), fun lit => queued z (enterStopped_queue lit),
      (State.congr_bare (State.zone · z) bare (fun _ => rfl)).trans (enterStopped_zone s z), fun c => ?_⟩,
    (State.congr_bare State.spread bare (fun _ => rfl)).trans (enterStopped_spread s), (State.congr_bare State.activePlan bare (fun _ => rfl)).trans plan,
    (State.congr_bare State.lastCommit bare (fun _ => rfl)).trans last,
    fun spoke n => (State.congr_bare (State.shadow · spoke n) bare (fun _ => rfl)).trans (shadow spoke n),
    fun law z o => (grants z o).trans (enterStopped_grant law z o)⟩
  have record : t.protRec z c = _ := (State.congr_bare (State.protRec · z c) bare (fun _ => rfl)).trans (enterStopped_protRec s z c)
  rw [record]
  exact edgeRecord_of_dark ..

/-- What StoppedInv asks holds of the state that the entry leaves. -/
theorem enterStopped_stopped (s : State) : Stopped (enterStopped s) := by
  have steady := enterStopped_steady s
  simp only [State.steady, Prod.mk.injEq] at steady
  obtain ⟨-, first, downlink, -⟩ := steady
  refine ⟨fun z => ?_, enterStopped_latchPending s, (enterStopped_commit s).1, first, downlink, fun o => ?_⟩
  · rw [enterStopped_link]
    rfl
  · rw [State.spreadRec, enterStopped_spread, closedWhere_getElem]
    cases h : (s.spreadRec o).proposal with
    | none => exact h
    | some p => rfl

/-- Settles O30: the links stop, and the latch and the commit that were pending follow. -/
theorem transportEntersStopped : Obligations.TransportEntersStopped := by
  intro s
  have ports : (enterStopped s).ports = s.ports := by
    apply enterStopped_keeps State.ports <;> intros <;> rfl
  refine ⟨fun frame runs => ?_, fun draining boundary => ?_⟩
  · have owner : ownFreeze s = (enterStopped s, replyOf .ok) := by rw [ownFreeze, if_neg runs]
    exact ⟨_, exec_vn_served (r := .freeze) frame rfl rfl owner, served_answers ports,
      enteredStopped_of served_bare served_grant fun _ => served_awaits⟩
  · have due : superframeBoundary s = true := by
      rw [superframeBoundary, Bool.or_eq_true, decide_eq_true_eq]
      exact boundary
    refine ⟨endEvent s (enterStopped s), next_congr (if_pos ⟨draining, due⟩), (endEvent_ports' ..).trans ports,
      enteredStopped_of (endEvent_bare ..) (fun z o => ?_) fun _ => endEvent_awaits⟩
    simp only [State.grant, endEvent_grants]

end Sys2Proof.Machine
end

section
/-! Every command as a sequence of writes, and the invariants of the whole part but for the engine's. -/

namespace Sys2Proof.Machine

open Sys2Proof

variable {whole : Prop}

/-! ## Requests of the venue -/

/-- An operator record with its tenancy, within its ranges. -/
theorem operator_writes {s : State} {o : OpNo} {r : OpRec} (good : goodOperator (s.oper o) → goodOperator r)
    (same : r.tenancy = (s.oper o).tenancy) : Writes whole s (s.setOper o r) :=
  (Write.operator o r good fun tenant left => absurd (same.trans tenant) left).one

theorem checkEntry_good (r : RawEntry) : goodEntry (checkEntry r) := by
  unfold goodEntry checkEntry
  split
  · exact Nat.mod_lt _ (Nat.two_pow_pos _)
  · exact Nat.one_pos

theorem writeEntries_writes (l : List RawEntry) (s : State) : Writes whole s (l.foldl writeEntry s) :=
  foldl_writes (fun _ r => (Write.planEntry _ _ _ (checkEntry_good r)).one.andThen (.window _)) l s

theorem readSteps_writes (n : Nat) (s : State) : Writes whole s (readSteps n s).1 := by
  induction n generalizing s with
  | zero => exact .refl s
  | succ n ih => exact (Write.window _).one.trans (ih (stageStep s))

theorem clearZoneCells_writes (s : State) (z : ZoneNo) : Writes whole s (clearZoneCells s z) := by
  refine (Write.cells _ fun _ range y o => ?_).one
  by_cases h : y = z
  · subst h
    simp only [laneGet, Fin.getElem_fin, Vector.getElem_set_self]
    rw [show ∀ v : Vector Nat 4, v[o.val] = v[o] from fun _ => rfl, vec4_getElem]
    exact Nat.zero_le _
  · have other : z.val ≠ y.val := fun e => h (Fin.ext e.symm)
    simp only [laneGet, Fin.getElem_fin, Vector.getElem_set_ne _ _ other]
    exact range y o

theorem provision_writes (s : State) (z : ZoneNo) : Writes whole s (provision s z) := by
  have record : Writes whole s (provisionRecord s z) := (Write.provision z).one.trans (clearZoneCells_writes _ z)
  rw [provision_eq]
  split
  · next h =>
    refine record.trans (setLink_writes ⟨?_, fun lit _ => ?_, fun _ _ => ⟨?_, ?_⟩⟩)
    · rw [provisionRecord_link]
      exact toSearch_good
    · have up := (Bool.and_eq_true_iff.mp lit).2
      rw [provisionRecord_link, h.2] at up
      cases up
    · show ((s.setZone z _).zone z).provisioned = true
      rw [s.setZone_zone]
    · show s.transport ≠ .stopped
      rw [h.1]
      decide
  · exact record

theorem retireLink_link (s : State) (z : ZoneNo) : (retireLink s z).link z = (s.link z).toIdle := by
  have set : (s.setLink z (s.link z).toIdle).link z = (s.link z).toIdle := s.setLink_link ..
  rw [← set]
  unfold retireLink
  dsimp only
  split
  · apply goDark_keeps (State.link · z) <;> intros <;> rfl
  · rfl

theorem retireLink_writes (s : State) (z : ZoneNo) : Writes whole s (retireLink s z) := by
  unfold retireLink
  dsimp only
  split
  · exact darkened_writes rfl toIdle_good fun _ => rfl
  · next dark => exact setLink_writes ⟨toIdle_good, fun lit _ => absurd lit dark, fun _ awake => absurd rfl awake⟩

/-- No proposal is open on a zone whose link was retired. -/
theorem retireLink_free {s : State} (inv : MapInv s) (z : ZoneNo) {o : OpNo} {p : Proposal}
    (hp : ((retireLink s z).spreadRec o).proposal = some p) : p.zone ≠ z := by
  unfold retireLink at hp
  dsimp only at hp
  split at hp
  · rw [State.spreadRec, goDark_spread] at hp
    exact none_on_closed (s.setLink z _) z o p hp
  · next dark =>
    rintro rfl
    obtain ⟨-, -, -, standing⟩ := inv
    exact dark (standing o p hp).2.1

theorem retire_writes {s : State} {z : ZoneNo} (map : whole → MapInv s) : Writes whole s (retire s z) := by
  have link : Writes whole s (retireLink s z) := retireLink_writes s z
  have record : Write whole (retireLink s z) ((retireLink s z).setZone z ((retireLink s z).zone z).retired) :=
    Write.retire z (by rw [retireLink_link]; rfl) fun holds o p hp => retireLink_free (map holds) z hp
  exact Writes.of_bare ((link.andThen record).trans (clearZoneCells_writes _ z)) (inputChange_bare ..)

theorem pin_writes {s : State} {z : ZoneNo} (b : Bool) (present : (s.zone z).provisioned = true) : Writes whole s (setPin s z b) := by
  have closes : Writes whole s (s.withSpread (pinnedSpread s z b)) := by
    unfold pinnedSpread
    split
    · exact closes_writes rfl
    · exact .refl s
  refine Writes.of_bare (closes.andThen (.pin z b present fun set clear o p hp => ?_)) ?_
  · have hp : (pinnedSpread s z b)[o].proposal = some p := hp
    have clear : (s.zone z).pinned = false := clear
    rw [pinnedSpread, if_pos ⟨set, clear⟩] at hp
    exact none_on_closed s z o p hp
  · rw [setPin_eq]
    rfl

theorem clearLoss_writes (s : State) (z : ZoneNo) : Writes whole s (clearLoss s z) := by
  refine setLink_writes ⟨fun good => ?_, fun lit down => ?_, fun idle awake => absurd idle awake⟩
  · obtain ⟨⟨run, history, missed, dwell, -⟩, rest⟩ := good
    exact ⟨⟨run, history, missed, dwell, Nat.zero_le _⟩, rest⟩
  · exact absurd ((Bool.and_eq_true_iff.mp lit).2.symm.trans down) Bool.noConfusion

theorem manualMove_writes {s : State} {z : ZoneNo} (o : OpNo) (b : Option SectorNo) (present : (s.zone z).provisioned = true) :
    Writes whole s (manualMove s z o b) := by
  have before := withdrawIf_eq (workingWrite s z o b) o (fun p => decide (p.zone = z)) .manualMove
  have closes : Writes whole s (s.withSpread (closedWhere s fun q p => decide (q = o) && decide (p.zone = z))) := closes_writes rfl
  refine closes.trans (latchIfStopped_writes (v := s.zones.set z { s.zone z with working := (s.zone z).working.set o b }) ?_ ?_)
  · rw [before]
    rfl
  · refine workingWrite_step (s := s.withSpread _) b (fun _ => present) fun p hp here => ?_
    have hp : (closedWhere s fun q p => decide (q = o) && decide (p.zone = z))[o].proposal = some p := hp
    rw [closedWhere_getElem] at hp
    split at hp
    · next q hq =>
      split at hp
      · cases hp
      · next other =>
        rw [hq] at hp
        cases hp
        exact other (by simp [here])
    · next none_ => exact absurd (none_.symm.trans hp) (Option.some_ne_none p).symm

theorem released_good (r : OpRec) : goodOperator r.released := by
  refine ⟨(by decide : OpRec.reset.high ≤ Config.maxLoad), .inr ⟨rfl, rfl⟩,
    (by decide : 1 ≤ OpRec.reset.period ∧ OpRec.reset.period ≤ Config.filterOne),
    (by decide : 1 ≤ OpRec.reset.window ∧ OpRec.reset.window ≤ Config.filterOne),
    (by decide : 1 ≤ OpRec.reset.weight ∧ OpRec.reset.weight ≤ Config.filterOne), (by decide : OpRec.reset.share ≤ Config.maxShare),
    fun sec => ?_⟩
  show (retable (fun _ (e : SectorEntry) => { SectorEntry.reset with streamUp := e.streamUp }) r.sectors)[sec].request ≤ _
  rw [retable_getElem]
  exact Nat.zero_le _

theorem laneGet_fillOperator {α : Type} (t : Vector (Vector α 4) 64) (o : OpNo) (a : α) (z : ZoneNo) (q : OpNo) :
    laneGet (fillOperator t o a) z q = if q = o then a else laneGet t z q := by
  rw [laneGet, fillOperator, retable_getElem]
  split
  · next h =>
    subst h
    simp
  · next h =>
    have other : o.val ≠ q.val := fun e => h (Fin.ext e.symm)
    exact Vector.getElem_set_ne o.isLt q.isLt other

theorem releaseTenancy_writes (s : State) (o : OpNo) : Writes whole s (releaseTenancy s o) := by
  have absent (u : State) (left : (u.oper o).tenancy = .active → (u.spreadRec o).proposal = none) :
      Writes whole u (setTenancy u o .absent) :=
    (Write.operator o { u.oper o with tenancy := .absent } (fun good => good) fun tenant _ => left tenant).one
  refine Writes.of_bare ?_ (inputChanges_bare ..)
  split
  · refine (withdraw_writes s o .tenancy).trans (absent _ fun _ => ?_)
    rw [State.spreadRec, withSpread_spread_of_bare (withdraw_bare s o .tenancy), closedWhere_getElem]
    cases hp : (s.spreadRec o).proposal with
    | none => exact hp
    | some p => simp [SpreadRec.closed]
  · next other => exact absent s fun tenant => absurd tenant other

theorem releaseRecord_writes {s : State} {o : OpNo} (absent : (s.oper o).tenancy = .absent) : Writes whole s (releaseRecord s o) :=
  Writes.of_bare (Write.operator o (s.oper o).released (fun _ => released_good _) fun tenant => absurd (absent.symm.trans tenant)
    Tenancy.noConfusion).one (releaseRecord_bare s o)

theorem clearCells_write (s : State) (o : OpNo) : Write whole s (s.withCells (fillOperator s.cells o 0)) :=
  Write.cells _ fun _ range z q => by
    rw [laneGet_fillOperator]
    split
    · exact Nat.zero_le _
    · exact range z q

theorem clearSettles_write (s : State) (o : OpNo) : Write whole s (s.withSettle (fillOperator s.settle o 0)) :=
  settles_write fun z q => by
    rw [laneGet_fillOperator]
    split
    · exact .inl (Nat.zero_le _)
    · exact .inl (Nat.le_refl _)

/-- The spreading state of an operator after step 4 of R10. -/
def SpreadRec.restarted (r : SpreadRec) : SpreadRec := { r with evalCount := 0, outcome := .notRun }

theorem releaseCounters_eq (s : State) (o : OpNo) : releaseCounters s o =
    ((s.withCells (fillOperator s.cells o 0)).withSettle (fillOperator s.settle o 0)).setSpread o (s.spreadRec o).restarted := by
  unfold releaseCounters State.withCells State.withSettle SpreadRec.restarted
  rfl

theorem restarted_step (s : State) (o : OpNo) : SpreadStep s o (s.spreadRec o).restarted :=
  .of_kept (fun _ good => ⟨(by decide : 0 < Config.filterOne), good.2⟩) (.inl rfl)

theorem spreadRec_withTables (s : State) (c d : Vector (Vector Nat 4) 64) (o : OpNo) :
    ((s.withCells c).withSettle d).spreadRec o = s.spreadRec o := rfl

theorem settle_withCells (s : State) (c : Vector (Vector Nat 4) 64) : (s.withCells c).settle = s.settle := rfl

theorem releaseCounters_writes (s : State) (o : OpNo) : Writes whole s (releaseCounters s o) := by
  have cells : Write whole s (s.withCells (fillOperator s.cells o 0)) := clearCells_write s o
  have settles := clearSettles_write (whole := whole) (s.withCells (fillOperator s.cells o 0)) o
  rw [settle_withCells] at settles
  have spread := restarted_step ((s.withCells (fillOperator s.cells o 0)).withSettle (fillOperator s.settle o 0)) o
  rw [spreadRec_withTables] at spread
  rw [releaseCounters_eq]
  exact (cells.one.andThen settles).trans (setSpread_writes spread)

/-- The counters and the map are apart. -/
theorem releaseCounters_withMap (s : State) (o : OpNo) (v : Vector ZoneRec 64) (b : Bool) :
    releaseCounters ((s.withZones v).withLatch b) o = ((releaseCounters s o).withZones v).withLatch b := by
  rw [releaseCounters_eq, releaseCounters_eq]
  rfl

/-- The zone records after the working bindings of an operator that is not ACTIVE were taken away (R10 step 3). -/
theorem unbound_step {s : State} {o : OpNo} (absent : (s.oper o).tenancy = .absent) :
    BindStep whole s (retable (fun _ r => r.unbound o) s.zones) := by
  have lane (z : ZoneNo) (q : OpNo) : (retable (fun _ r => r.unbound o) s.zones)[z].working[q] = if q = o then none else s.working z q := by
    rw [retable_getElem]
    split
    · next h =>
      subst h
      simp [ZoneRec.unbound]
    · next h =>
      have other : o.val ≠ q.val := fun e => h (Fin.ext e.symm)
      exact Vector.getElem_set_ne o.isLt q.isLt other
  refine ⟨fun z => ?_, fun _ z _ bare q => ?_, fun q p tenant _ => ?_⟩
  · rw [retable_getElem]
    rfl
  · rw [lane]
    split
    · rfl
    · exact (bare q).1
  · rw [lane, if_neg]
    rintro rfl
    exact absurd (absent.symm.trans tenant) Tenancy.noConfusion

theorem releaseAll_writes (s : State) (o : OpNo) : Writes whole s (releaseAll s o) := by
  have tenancy : Writes whole s (releaseTenancy s o) := releaseTenancy_writes s o
  have absent := releaseTenancy_absent s o
  unfold releaseAll
  generalize releaseTenancy s o = u at *
  have record : Writes whole u (releaseRecord u o) := releaseRecord_writes absent
  have absent : ((releaseRecord u o).oper o).tenancy = .absent := by
    rw [State.congr_bare (State.oper · o) (releaseRecord_bare u o) (fun _ => rfl), u.setOper_oper]
    rfl
  generalize releaseRecord u o = w at *
  have counters : Writes whole w (releaseCounters w o) := releaseCounters_writes w o
  refine tenancy.trans (record.trans (counters.trans (latchIfStopped_writes (v := retable (fun _ r => r.unbound o) w.zones) ?_ ?_)))
  · refine (releaseNotices_keeps State.bare (fun _ _ => rfl) ..).trans ((releasePreview_keeps State.bare (fun _ _ => rfl) ..).trans ?_)
    rw [releaseBindings_eq, releaseCounters_withMap]
  · have zones : (releaseCounters w o).zones = w.zones := releaseCounters_keeps State.zones (fun _ _ => rfl) (fun _ _ => rfl) (fun _ _ => rfl) ..
    have oper : (releaseCounters w o).oper o = w.oper o :=
      releaseCounters_keeps (State.oper · o) (fun _ _ => rfl) (fun _ _ => rfl) (fun _ _ => rfl) ..
    generalize releaseCounters w o = y at *
    rw [← zones]
    exact unbound_step (by rw [oper]; exact absent)

/-! ## Requests of an operator, and stream reports -/

theorem setSector_writes {s : State} {o : OpNo} {sec : SectorNo} {e : SectorEntry}
    (range : goodOperator (s.oper o) → e.request ≤ Config.maxRequest) : Writes whole s (s.setSector o sec e) := by
  refine operator_writes (fun good => ?_) rfl
  obtain ⟨high, order, period, window, weight, share, requests⟩ := good
  refine ⟨high, order, period, window, weight, share, fun x => ?_⟩
  by_cases h : x = sec
  · subst h
    simpa using range ⟨high, order, period, window, weight, share, requests⟩
  · have other : sec.val ≠ x.val := fun e => h (Fin.ext e.symm)
    have entry : ((s.oper o).sectors.set sec e)[x] = (s.oper o).sectors[x] := Vector.getElem_set_ne sec.isLt x.isLt other
    exact entry ▸ requests x

theorem storeEnable_writes (s : State) (o : OpNo) (sec : SectorNo) (on : Bool) : Writes whole s (storeEnable s o sec on) := by
  have stored : Writes whole s (s.setSector o sec { s.sector o sec with enabled := on }) :=
    setSector_writes fun good => good.2.2.2.2.2.2 sec
  unfold storeEnable
  dsimp only
  split
  · exact .refl s
  · refine Writes.of_bare ?_ (inputChanges_bare ..)
    split
    · exact stored
    · exact stored.trans (withdrawIf_writes ..)

theorem storePower_writes (s : State) (o : OpNo) (sec : SectorNo) {n : Nat} (range : n ≤ Config.maxRequest) :
    Writes whole s (storePower s o sec n) := by
  unfold storePower
  split
  · exact .refl s
  · exact Writes.of_bare (setSector_writes fun _ => range) (inputChanges_bare ..)

theorem changePolicy_writes (s : State) (o : OpNo) (m : Policy) : Writes whole s (changePolicy s o m) := by
  have stored : Writes whole s (s.setOper o { s.oper o with policy := m }) := operator_writes (fun good => good) rfl
  unfold changePolicy
  dsimp only
  generalize s.setOper o { s.oper o with policy := m } = u at *
  exact stored.trans ((withdraw_writes u o .policyChanged).trans (setSpread_writes (restarted_step _ o)))

theorem acceptProposal_writes {s : State} {o : OpNo} {p : Proposal} (stands : (s.spreadRec o).proposal = some p)
    (map : whole → MapInv s) : Writes whole s (acceptProposal s o p) := by
  have closes : Writes whole s (closeProposal s o p) := closeProposal_writes stands
  refine closes.trans (latchIfStopped_writes (v := s.zones.set p.zone { s.zone p.zone with
    working := (s.zone p.zone).working.set o (some p.toSector) }) ((file_bare ..).trans rfl) ?_)
  refine workingWrite_step (s := closeProposal s o p) (some p.toSector) (fun holds => ?_) fun q hq =>
    absurd ((closeProposal_none s o p).symm.trans hq) (Option.some_ne_none q).symm
  obtain ⟨-, -, -, standing⟩ := map holds
  obtain ⟨-, lit, -⟩ := standing o p stands
  exact (Bool.and_eq_true_iff.mp lit).1

theorem declineProposal_writes {s : State} {o : OpNo} {p : Proposal} (stands : (s.spreadRec o).proposal = some p) :
    Writes whole s (declineProposal s o p) := by
  have closes : Writes whole s (closeProposal s o p) := closeProposal_writes stands
  have load : Writes whole (closeProposal s o p) ((closeProposal s o p).setSettle p.zone o s.holdOff) := setSettle_writes (.inr rfl)
  exact Writes.of_bare (closes.trans load) (file_bare ..)

theorem streamReport_writes (s : State) (o : OpNo) (sec : SectorNo) (up : Bool) : Writes whole s (streamReport s o sec up) := by
  have stored : Writes whole s (s.setSector o sec { s.sector o sec with streamUp := up }) :=
    setSector_writes fun good => good.2.2.2.2.2.2 sec
  have closes : Writes whole (s.setSector o sec { s.sector o sec with streamUp := up })
      ((s.setSector o sec { s.sector o sec with streamUp := up }).withSpread (if up then s.spread else
        closedWhere s fun q p => decide (q = o) && decide (p.toSector = sec))) := by
    split
    · exact .refl _
    · exact closes_writes rfl
  rw [streamReport_eq]
  split
  · exact .refl s
  · exact Writes.of_bare (stored.trans closes) ((endEvent_bare ..).trans ((inputChanges_bare ..).trans (presenceStored_bare ..)))

/-! ## Requests -/

theorem suspension_writes (s : State) (o : OpNo) : Writes whole s (suspension s o) := by
  have closes : Writes whole s (s.withSpread (closedWhere s fun q _ => decide (q = o))) := closes_writes rfl
  refine Writes.of_bare (closes.andThen (Write.operator o { s.oper o with tenancy := .suspended } (fun good => good) fun _ _ => ?_))
    ((suspension_bare s o).trans rfl)
  show (closedWhere s fun q _ => decide (q = o))[o].proposal = none
  rw [closedWhere_getElem]
  cases hp : (s.spreadRec o).proposal with
  | none => exact hp
  | some p => simp [SpreadRec.closed]

/-- What a request can do: writes, or the entry into STOPPED. -/
theorem venueMove_writes {s t : State} (h : VenueMove s t) (map : whole → MapInv s) :
    Writes whole s t ∨ t = enterStopped s := by
  cases h with
  | freeze => exact .inr rfl
  | start stopped => exact .inl (by rw [ownStart_eq stopped]; exact (Write.start stopped).one)
  | drain running => exact .inl (Write.drain running).one
  | commit => exact .inl (takeCommit_writes s)
  | awaitCommit runs => exact .inl (Write.awaitCommit runs).one
  | abortCommit => exact .inl Write.abortCommit.one
  | window w => exact .inl (Write.window w).one
  | writeEntries l => exact .inl (writeEntries_writes l s)
  | readEntries n => exact .inl (readSteps_writes n s)
  | provision z => exact .inl (provision_writes s z)
  | retire z => exact .inl (retire_writes map)
  | budget z b range => exact .inl (Writes.of_bare (Write.budget z b range).one (storeBudget_bare s z b))
  | neighbours z l good => exact .inl (Write.neighbours z l good).one
  | pin z b present => exact .inl (pin_writes b present)
  | move z o b present => exact .inl (manualMove_writes o b present)
  | admits o other =>
    exact .inl (Writes.of_bare (Write.operator o { s.oper o with tenancy := .active } (fun good => good)
      fun tenant => absurd tenant other).one (admission_bare s o))
  | suspend o => exact .inl (suspension_writes s o)
  | release o => exact .inl (releaseAll_writes s o)
  | lostLimit n low high => exact .inl (Write.lostLimit n low high).one
  | clearLosses zones => exact .inl (foldl_writes clearLoss_writes zones s)
  | mode c m permitted => exact .inl (Writes.of_bare (Write.mode c m permitted).one (changeMode_bare s c m))
  | level c n low high => exact .inl (Writes.of_bare (Write.level c n low high).one (foldl_takeOutputs_bare ..))
  | clearFaults zones => exact .inl (foldl_writes clearZone_writes zones s)
  | spreadTimes a b first second => exact .inl (Write.times a b first second).one
  | share o n range =>
    refine .inl (Writes.of_bare (operator_writes (r := { s.oper o with share := n }) (fun good => ?_) rfl) (storeShare_bare s o n))
    obtain ⟨high, order, period, window, weight, -, requests⟩ := good
    exact ⟨high, order, period, window, weight, range, requests⟩
  | clearStale => exact .inl (Write.stale 0 (Nat.zero_le _)).one

theorem tenantMove_writes {req : Req} {o : OpNo} {s t : State} (h : TenantMove req o s t) (map : whole → MapInv s) : Writes whole s t := by
  cases h with
  | enable sec on => exact storeEnable_writes s o sec on
  | power sec n range => exact storePower_writes s o sec range
  | parameter r same good => exact operator_writes good (by rw [same])
  | policy m => exact changePolicy_writes s o m
  | accept p stands _ => exact acceptProposal_writes stands map
  | decline p stands => exact declineProposal_writes stands

end Sys2Proof.Machine
end

section
/-! What every command comes to, and the invariants that it keeps: O56, O57, O59 and the law of the idle links. -/

namespace Sys2Proof.Machine

open Sys2Proof

variable {whole : Prop}

/-! ## Every command -/

/-- What a command comes to outside the Power Share Unit, the Allocation Engine, the queues and the ports: writes, the entry into
STOPPED, or the reset. -/
inductive Course (whole : Prop) (s : State) : State → Prop
  | writes {t : State} (h : Writes whole s t) : Course whole s t
  | enters {t : State} (bare : t.bare = (enterStopped s).bare) : Course whole s t
  | resets {t : State} (l : List Instr) (n : Nat) (bare : t.bare = ({ State.reset with pending := l, edges := n } : State).bare) :
      Course whole s t

theorem Course.quiet {s t : State} (same : t.bare = s.bare) : Course whole s t := .writes (Writes.quiet same)

theorem portWrite_bare {c : Prop} [Decidable c] (s : State) (p : Port) (r : PortRec) : (if c then s.setPort p r else s).bare = s.bare := by
  split <;> rfl

theorem releaseSelect_bare (s : State) (p : Port) : (releaseSelect s p).bare = s.bare := by
  rw [releaseSelect_eq]
  dsimp only
  split <;> rfl

theorem ownerMove_course {req : Req} {p : Port} {s t : State} (h : OwnerMove req p s t) (map : whole → MapInv s) : Course whole s t := by
  cases h with
  | stays => exact .quiet rfl
  | readNotices n => exact .quiet rfl
  | preview z o n => exact .quiet rfl
  | venue port moved =>
    rcases venueMove_writes moved map with writes | rfl
    · exact .writes writes
    · exact .enters rfl
  | tenant o port moved => exact .writes (tenantMove_writes moved map)

theorem Course.of_bare {s t u : State} (h : Course whole s u) (same : t.bare = u.bare) : Course whole s t := by
  cases h with
  | writes h => exact .writes (h.of_bare same)
  | enters bare => exact .enters (same.trans bare)
  | resets l n bare => exact .resets l n (same.trans bare)

theorem retryExpiry_writes (s : State) (z : ZoneNo) (c : ClassNo) : Writes whole s (retryExpiry s z c) := by
  unfold retryExpiry
  split
  · next h =>
    have due := h.2
    unfold retryDue at due
    split at due
    · next recovers =>
      exact Writes.of_bare (expireRetry_writes recovers) ((endEvent_bare ..).trans (takeOutputs_bare ..))
    · cases due
  · exact .refl s

theorem dwellExpiry_writes (s : State) (z : ZoneNo) : Writes whole s (dwellExpiry s z) := by
  unfold dwellExpiry
  split
  · next h =>
    exact setLink_writes (.of_heard toSearch_good (by simp [h.2.1, heard]) (by simp [h.2.1]))
  · exact .refl s

theorem CommandMove.course {s t : State} (h : CommandMove s t) (map : whole → MapInv s) : Course whole s t := by
  cases h with
  | stays => exact .quiet rfl
  | reset => exact .resets s.pending s.edges rfl
  | selectAsserted p => exact .quiet (portWrite_bare ..)
  | selectReleased p => exact .quiet (releaseSelect_bare s p)
  | headerCompleted p => exact .quiet (portWrite_bare ..)
  | lengthRefused p => exact .quiet (portWrite_bare ..)
  | answered p rep => exact .quiet rfl
  | replyStarted p => exact .quiet (portWrite_bare ..)
  | replyEnded p => exact .quiet (portWrite_bare ..)
  | @served _ p u rep frame moved => exact (ownerMove_course moved map).of_bare ((answer_bare ..).trans (endEvent_bare ..))
  | stream o sec up => exact .writes (streamReport_writes s o sec up)
  | word z w _ _ samples => exact .writes ((takeWord_writes s z samples).of_bare (endEvent_bare ..))
  | cycle order runs => exact .writes ((cycleStart_writes runs map order).of_bare (endEvent_bare ..))
  | drained => exact .enters (endEvent_bare ..)
  | dwelt z => exact .writes (dwellExpiry_writes s z)
  | retried z c => exact .writes (retryExpiry_writes s z c)
  | expired o p stands runs => exact .writes (expireProposal_writes stands runs map)
  | evaluated o runs counts => exact .writes (runEvaluation_writes runs counts)
  | previewed p o q sec z n => exact .quiet ((finishComputation_bare _).trans (completePreview_bare ..))
  | markEnded => exact .writes (Write.mark false).one

theorem Reallocated.writes {s t : State} (h : Reallocated s t) : Writes whole s t := by
  obtain ⟨z, n, -, rfl⟩ := h
  refine Writes.of_bare ?_ (finishComputation_bare _)
  unfold completeReallocation
  split
  · exact (Write.stale _ (saturate_le ..)).one
  · exact .quiet (writeGrants_bare ..)

theorem clockFalls_writes (s : State) : Writes whole s (clockFalls s) := by
  unfold clockFalls
  split
  · refine (Writes.quiet (t := placeNext s (portOf (Config.clockedPort s.edges))) ?_).andThen (.edges _)
    exact portWrite_bare ..
  · exact .refl s

/-- What every write keeps, the entry into STOPPED leaves and the reset establishes is kept by every course. -/
theorem Course.keeps {P : State → Prop} (same : ∀ {t u : State}, t.bare = u.bare → P t = P u)
    (write : ∀ {s t : State}, Write whole s t → P s → P t) (enter : ∀ s, P s → P (enterStopped s)) (reset : P State.reset) {s t : State}
    (h : Course whole s t) (before : P s) : P t := by
  cases h with
  | writes h => exact h.keeps write before
  | enters bare =>
    rw [same bare]
    exact enter s before
  | resets l n bare =>
    rw [same bare]
    have queued : Writes whole State.reset { State.reset with pending := l, edges := n } := (Write.queue l).one.andThen (.edges n)
    exact queued.keeps write reset

/-- What every course keeps is kept by every step. -/
theorem step_keeps_of_writes {P : State → Prop} (same : ∀ {t u : State}, t.bare = u.bare → P t = P u)
    (write : ∀ {s t : State}, Write whole s t → P s → P t) (map : ∀ s, P s → whole → MapInv s) (enter : ∀ s, P s → P (enterStopped s))
    (reset : P State.reset) : ∀ s t : State, P s → step s = .next t → P t :=
  step_keeps (fun _ l before => write (Write.queue l) before) (fun s before => (clockFalls_writes s).keeps write before)
    (fun s _ moved before => (moved.course (map s before)).keeps same write enter reset before)
    fun _ _ moved before => moved.writes.keeps write before

/-! ## The state after RSTn -/

theorem reset_zone (z : ZoneNo) : State.reset.zone z = ZoneRec.reset := by simp [State.zone, State.reset]
theorem reset_link (z : ZoneNo) : State.reset.link z = LinkRec.reset := by simp [State.link, State.reset]
theorem reset_oper (o : OpNo) : State.reset.oper o = OpRec.reset := by simp [State.oper, State.reset]
theorem reset_spreadRec (o : OpNo) : State.reset.spreadRec o = SpreadRec.reset := by simp [State.spreadRec, State.reset]
theorem reset_protRec (z : ZoneNo) (c : ClassNo) : State.reset.protRec z c = ProtRec.reset := by simp [State.protRec, State.reset]

theorem reset_idleLaw : IdleLaw State.reset := by
  intro z _
  rw [reset_link]
  rfl

theorem reset_stopped : Stopped State.reset := by
  refine ⟨fun z => ?_, rfl, rfl, rfl, rfl, fun o => ?_⟩
  · rw [reset_link]
    rfl
  · rw [reset_spreadRec]
    rfl

theorem reset_protectionInv : ProtectionInv State.reset := by
  refine (protectionInv_iff _).mpr ⟨fun z c => ?_, fun c => ?_, fun z c _ => ?_⟩
  · rw [reset_protRec]
    exact ⟨fun raw => Bool.noConfusion raw, fun raw => Bool.noConfusion raw⟩
  · revert c
    decide
  · rw [reset_protRec]
    rfl

theorem reset_mapInv : MapInv State.reset := by
  have lane (z : ZoneNo) (o : OpNo) : State.reset.working z o = none ∧ State.reset.active z o = none := by
    rw [State.working, State.active, reset_zone]
    simp [ZoneRec.reset]
  refine ⟨fun z _ => ⟨fun o => lane z o, ?_, ?_⟩, fun z => ?_, fun _ z o => ?_, fun o p hp => ?_⟩
  · rw [reset_zone]
    rfl
  · rw [reset_link]
    rfl
  · rw [reset_zone]
    rfl
  · rw [(lane z o).1, (lane z o).2]
  · rw [reset_spreadRec] at hp
    cases hp

theorem reset_rangesInv : RangesInv State.reset := by
  have cell (z : ZoneNo) (o : OpNo) : State.reset.cell z o = 0 := by simp [State.cell, laneGet, State.reset]
  have count (z : ZoneNo) (o : OpNo) : State.reset.settleCount z o = 0 := by simp [State.settleCount, laneGet, State.reset]
  have entry (spoke : SpokeNo) (n : EntryNo) : State.reset.workEntry spoke n = PlanEntry.reset ∧
      State.reset.activeEntry spoke n = PlanEntry.reset ∧ State.reset.shadow spoke n = Shadow.reset := by
    simp [State.workEntry, State.activeEntry, State.shadow, State.reset]
  refine ⟨by decide, fun z => ?_, fun o => ?_, fun z o => ?_, by decide, fun spoke n => ?_, by decide, by decide, by decide⟩
  · rw [reset_zone, reset_link]
    exact ⟨by decide, by simp [goodLink, LinkRec.reset, Config.goodRunUp, Config.dwellCycles]⟩
  · rw [reset_oper, reset_spreadRec]
    refine ⟨?_, by simp [goodSpread, SpreadRec.reset, Config.filterOne, Config.idCount]⟩
    have sectors (sec : SectorNo) : OpRec.reset.sectors[sec] = SectorEntry.reset := by simp [OpRec.reset]
    refine ⟨by decide, by decide, by decide, by decide, by decide, by decide, fun sec => ?_⟩
    rw [sectors]
    exact Nat.zero_le _
  · rw [cell, count]
    exact ⟨Nat.zero_le _, Nat.zero_le _⟩
  · obtain ⟨work, active, shadow⟩ := entry spoke n
    have fresh : goodEntry PlanEntry.reset := Nat.one_pos
    rw [work, active, shadow]
    exact ⟨fresh, fresh, Nat.zero_le _⟩

/-! ## The invariants -/

/-- A predicate that the halting of the transport keeps is kept by the whole entry into STOPPED. -/
theorem enterStopped_keeps_of_writes {P : State → Prop} (write : ∀ {s t : State}, Write whole s t → P s → P t) (s : State)
    (halted : P (haltTransport s)) : P (enterStopped s) := (enterStopped_writes s).keeps write halted

/-- Every command keeps the law of the idle links. -/
theorem CommandMove.idleLaw {s t : State} (h : CommandMove s t) (law : IdleLaw s) : IdleLaw t :=
  (h.course (whole := False) False.elim).keeps idleLaw_congr Write.idleLaw (fun s _ z _ => (enterStopped_stopped s).1 z) reset_idleLaw law

/-- Settles O56: every write keeps the records, and so does the entry into STOPPED. -/
theorem stepKeepsProtectionRecords : Obligations.StepKeepsProtectionRecords :=
  step_keeps_of_writes (whole := False) protectionInv_congr Write.protectionInv (fun _ _ => False.elim)
    (fun s inv => enterStopped_keeps_of_writes (whole := False) Write.protectionInv s (protectionInv_of inv rfl rfl rfl rfl))
    reset_protectionInv

/-- Settles O57: every write keeps the map and STOPPED, and the entry into STOPPED establishes what STOPPED asks. -/
theorem stepKeepsZoneMapAndStopped : Obligations.StepKeepsZoneMapAndStopped := by
  refine step_keeps_of_writes (whole := True) (P := fun s => MapInv s ∧ StoppedInv s) (fun same => ?_) (fun write before => ?_)
    (fun s before _ => before.1) (fun s before => ⟨?_, fun _ => enterStopped_stopped s⟩) ⟨reset_mapInv, fun _ => reset_stopped⟩
  · rw [mapInv_congr same, stoppedInv_congr same]
  · exact ⟨write.mapInv trivial before.1, write.stoppedInv before.2⟩
  · exact enterStopped_keeps_of_writes (whole := True) (Write.mapInv trivial) s (mapInv_of before.1 rfl rfl rfl rfl rfl)

/-- Settles O59: every write stays within the ranges, and so does the entry into STOPPED. -/
theorem stepKeepsRanges : Obligations.StepKeepsRanges :=
  step_keeps_of_writes (whole := False) rangesInv_congr Write.rangesInv (fun _ _ => False.elim)
    (fun s inv => enterStopped_keeps_of_writes (whole := False) Write.rangesInv s inv) reset_rangesInv

end Sys2Proof.Machine
end

section
/-! The laws of Power Sharing under the completion of a reallocation, and O55. -/

namespace Sys2Proof.Machine

open Sys2Proof

/-- The grants of an allocation from the inputs as they stand keep Laws 1 and 2 (R124, R126). -/
theorem writeGrants_core {s : State} (core : PowerCore s) (z : ZoneNo) : PowerCore (writeGrants s z (allocate (snapshotOf s z))) := by
  obtain ⟨budget, request, share, queue, fresh⟩ := core
  have bare := writeGrants_bare s z (allocate (snapshotOf s z))
  have realloc : (writeGrants s z (allocate (snapshotOf s z))).realloc = s.realloc :=
    writeGrants_keeps State.realloc (fun _ _ => rfl) (fun _ _ => rfl) (fun _ _ => rfl) ..
  have flight : (writeGrants s z (allocate (snapshotOf s z))).flight = s.flight :=
    writeGrants_keeps State.flight (fun _ _ => rfl) (fun _ _ => rfl) (fun _ _ => rfl) ..
  have grant := writeGrants_grant s z
  refine ⟨fun y => ?_, fun y o => ?_, ?_, ?_, ?_⟩
  · rw [grantSum_eq, effBudget_congr bare]
    have sum : vec4 ((writeGrants s z (allocate (snapshotOf s z))).grant y) =
        if y = z then allocate (snapshotOf s z) else vec4 (s.grant y) := by
      refine Vector.ext fun i hi => ?_
      have entry : (vec4 ((writeGrants s z (allocate (snapshotOf s z))).grant y))[(⟨i, hi⟩ : OpNo)] = _ := vec4_getElem _ _
      refine entry.trans ?_
      rw [grant]
      split
      · rfl
      · exact (vec4_getElem (s.grant y) ⟨i, hi⟩).symm
    rw [sum]
    split
    · next h =>
      subst h
      exact sum4_allocate_le_budget (n := snapshotOf s y) share
    · exact budget y
  · rw [effRequest_congr bare, grant]
    split
    · next h =>
      subst h
      exact (allocate_le_request (n := snapshotOf s y) share o).trans (snapshot_requests s y o).le
    · exact request y o
  · unfold ShareLaw
    rw [show shares (writeGrants s z (allocate (snapshotOf s z))) = shares s from State.congr_bare shares bare (fun _ => rfl)]
    exact share
  · unfold QueueLaw
    rw [realloc]
    exact queue
  · rw [flight, freshFlight_congr bare realloc]
    exact fresh

/-- The completion of a reallocation keeps the laws: it is discarded, or its inputs are those that stand (R145, R146). -/
theorem Reallocated.core {s t : State} (h : Reallocated s t) (laws : PowerCore s) : PowerCore t := by
  obtain ⟨z, n, inFlight, rfl⟩ := h
  refine finishComputation_core ?_
  unfold completeReallocation
  split
  · exact laws
  · next unqueued =>
    have ⟨_, _, _, _, fresh⟩ := laws
    rw [inFlight] at fresh
    rcases fresh with queued | rfl
    · exact absurd queued unqueued
    · exact writeGrants_core laws z

theorem powerInv_iff (s : State) : PowerInv s ↔ PowerCore s ∧ IdleLaw s := by
  unfold PowerInv PowerCore
  tauto

theorem clockFalls_sharing (s : State) : (clockFalls s).sharing = s.sharing := by
  unfold clockFalls
  split
  · exact portWrite_sharing ..
  · rfl

/-- Settles O55: every command is a move that keeps the laws, and so is the completion of a reallocation. -/
theorem stepKeepsPowerLaws : Obligations.StepKeepsPowerLaws := by
  refine step_keeps (fun s l inv => inv) (fun s inv => ?_) (fun s t moved inv => ?_) fun s t moved inv => ?_
  all_goals
    rw [powerInv_iff] at *
    obtain ⟨core, idle⟩ := inv
  · exact ⟨(PowerMove.of_sharing (clockFalls_sharing s)).core core, (clockFalls_writes (whole := False) s).keeps Write.idleLaw idle⟩
  · exact ⟨moved.power.2 idle core, moved.idleLaw idle⟩
  · exact ⟨moved.core core, (moved.writes (whole := False)).keeps Write.idleLaw idle⟩

end Sys2Proof.Machine
end

section
/-! The law of the notice queues under the operations that file (R157). -/

namespace Sys2Proof.Machine

open Sys2Proof

/-! ## Filing -/

theorem NoticeLaw.of_same {s t : State} (law : NoticeLaw s) (same : t.notices = s.notices) : NoticeLaw t := by
  intro p
  rw [State.noticeQueue, same]
  exact law p

theorem NoticeLaw.setNotices {s : State} (law : NoticeLaw s) {p : Port} {q : NoticeQueue}
    (fits : q.records.length ≤ Config.noticeCapacity) : NoticeLaw (s.setNotices p q) := by
  intro x
  by_cases same : x = p
  · rw [same, State.setNotices_noticeQueue]
    exact fits
  · rw [State.setNotices_noticeQueue_ne _ _ same]
    exact law x

theorem foldl_law {α : Type} {f : State → α → State} (step : ∀ {s : State} (a : α), NoticeLaw s → NoticeLaw (f s a)) (l : List α)
    {s : State} (law : NoticeLaw s) : NoticeLaw (l.foldl f s) := by
  induction l generalizing s with
  | nil => exact law
  | cons a l ih => exact ih (step a law)

theorem NoticeLaw.file {s : State} (law : NoticeLaw s) (ports : List Port) (n : Notice) : NoticeLaw (file s ports n) :=
  foldl_law (fun p law => law.setNotices (appendNotice_length_le n (law p))) ports law

theorem NoticeLaw.withdraw {s : State} (law : NoticeLaw s) (o : OpNo) (why : WithdrawCause) : NoticeLaw (withdraw s o why) := by
  unfold Machine.withdraw
  split
  · exact law
  · exact (law.of_same (t := closeProposal s o _) rfl).file _ _

theorem NoticeLaw.withdrawIf {s : State} (law : NoticeLaw s) (o : OpNo) (test : Proposal → Bool) (why : WithdrawCause) :
    NoticeLaw (withdrawIf s o test why) := by
  unfold Machine.withdrawIf
  split
  · exact law
  · split
    · exact law.withdraw _ _
    · exact law

theorem NoticeLaw.withdrawOnZone {s : State} (law : NoticeLaw s) (z : ZoneNo) (why : WithdrawCause) :
    NoticeLaw (withdrawOnZone s z why) := foldl_law (fun o law => law.withdrawIf o _ why) allOps law

/-! ## The Power Share Unit -/

theorem NoticeLaw.judgeShort {s : State} (law : NoticeLaw s) (z : ZoneNo) (o : OpNo) (q : Nat) : NoticeLaw (judgeShort s z o q) := by
  unfold Machine.judgeShort
  split
  · exact (law.of_same (t := s.setShort z o true) rfl).file _ _
  · split
    · exact (law.of_same (t := s.setShort z o false) rfl).file _ _
    · exact law

theorem NoticeLaw.inputChange {s : State} (law : NoticeLaw s) (old : State) (z : ZoneNo) : NoticeLaw (inputChange old s z) := by
  refine (foldl_law (fun o law => ?_) allOps (law.of_same (t := clipZone old s z) rfl)).of_same
    (enqueue_keeps State.notices (fun _ _ => rfl) ..)
  split
  · exact law.judgeShort _ _ _
  · exact law

theorem NoticeLaw.inputChanges {s : State} (law : NoticeLaw s) (old : State) (also : ZoneNo → Bool) :
    NoticeLaw (inputChanges old s also) := foldl_law (fun z law => law.inputChange old z) _ law

theorem NoticeLaw.writeGrants {s : State} (law : NoticeLaw s) (z : ZoneNo) (g : Vector Nat 4) : NoticeLaw (writeGrants s z g) :=
  foldl_law (fun o law => law.judgeShort z o _) allOps (law.of_same (t := setGrants s z g) rfl)

theorem NoticeLaw.arbitrate {s : State} (law : NoticeLaw s) : NoticeLaw (arbitrate s) :=
  law.of_same (arbitrate_keeps State.notices (fun _ _ => rfl) (fun _ _ => rfl) (fun _ _ => rfl) (fun _ _ => rfl) (fun _ _ => rfl) ..)

theorem NoticeLaw.endEvent {s : State} (law : NoticeLaw s) (old : State) : NoticeLaw (endEvent old s) :=
  law.of_same (endEvent_keeps State.notices (fun _ _ => rfl) (fun _ _ => rfl) (fun _ _ => rfl) (fun _ _ => rfl) (fun _ _ => rfl) ..)

theorem NoticeLaw.completePreview {s : State} (law : NoticeLaw s) (p : Port) (o : OpNo) (sec : Option SectorNo) (z : ZoneNo) (n : Snapshot) :
    NoticeLaw (completePreview s p o sec z n) := by
  have filed (c : Prop) [Decidable c] (n : Notice) : NoticeLaw (if c then s else Machine.file s [p] n) := by
    split
    · exact law
    · exact law.file _ _
  exact (filed _ _).of_same (s := ite _ _ _) rfl

/-! ## Alarms, darkness and links -/

theorem NoticeLaw.takeEdge {s : State} (law : NoticeLaw s) (z : ZoneNo) (c : ClassNo) (bit : Bool) : NoticeLaw (takeEdge s z c bit) := by
  unfold Machine.takeEdge
  dsimp only
  have told {r : ProtRec} {told : Bool} (k : NoticeKind) (n : Nat) :
      NoticeLaw (if told then fileAlarm (s.setProt z c r) z c k n else s.setProt z c r) := by
    have edge : NoticeLaw (s.setProt z c r) := law.of_same rfl
    split
    · exact edge.file _ _
    · exact edge
  split
  · exact law
  · split <;> exact told _ _

theorem NoticeLaw.outputNotices {s : State} (law : NoticeLaw s) (old : State) (z : ZoneNo) : NoticeLaw (outputNotices old s z) := by
  unfold Machine.outputNotices
  dsimp only
  have mute : NoticeLaw (if muted old z != muted s z then
      fileZone s z (if muted s z then .zoneMuted else .zoneUnmuted) (derate s z) else s) := by
    split
    · exact law.file _ _
    · exact law
  split
  · exact mute.file _ _
  · exact mute

theorem NoticeLaw.takeOutputs {s : State} (law : NoticeLaw s) (old : State) (z : ZoneNo) : NoticeLaw (takeOutputs old s z) := by
  unfold Machine.takeOutputs
  split
  · exact (law.outputNotices old z).inputChange _ _
  · exact law

theorem NoticeLaw.takeEdges {s : State} (law : NoticeLaw s) (z : ZoneNo) (bits : Vector Bool 6) : NoticeLaw (takeEdges s z bits) :=
  foldl_law (fun c law => law.takeEdge z c _) allClasses law

theorem NoticeLaw.goDark {s : State} (law : NoticeLaw s) (old : State) (z : ZoneNo) (cause : DarkCause) (why : WithdrawCause) :
    NoticeLaw (goDark old s z cause why) :=
  (((law.file _ _).takeEdges z _).outputNotices old z).withdrawOnZone z why

theorem NoticeLaw.heardLinkWord {s : State} (law : NoticeLaw s) (z : ZoneNo) (good : Bool) : NoticeLaw (heardLinkWord s z good) := by
  have stored (r : LinkRec) : NoticeLaw (s.setLink z r) := law.of_same rfl
  unfold Machine.heardLinkWord
  dsimp only
  split
  · exact ((stored _).goDark _ _ _ _).inputChange _ _
  · split
    · exact (stored _).file _ _
    · split
      · exact (stored _).file _ _
      · exact stored _

theorem NoticeLaw.searchWord {s : State} (law : NoticeLaw s) (z : ZoneNo) (good : Bool) : NoticeLaw (searchWord s z good) := by
  have stored (r : LinkRec) : NoticeLaw (s.setLink z r) := law.of_same rfl
  unfold Machine.searchWord
  dsimp only
  split
  · split
    · exact stored _
    · exact ((stored _).file _ _).inputChange _ _
  · exact stored _

theorem NoticeLaw.linkWord {s : State} (law : NoticeLaw s) (z : ZoneNo) (good : Bool) : NoticeLaw (linkWord s z good) := by
  unfold Machine.linkWord
  split
  · exact law
  · exact law.searchWord _ _
  · exact law.heardLinkWord _ _
  · exact law.heardLinkWord _ _
  · exact law

theorem takeBlock_notices (s : State) (z : ZoneNo) (u : UplinkWord) : (takeBlock s z u).notices = s.notices :=
  takeBlock_keeps State.notices (fun _ _ => rfl) s z u

theorem NoticeLaw.takeWord {s : State} (law : NoticeLaw s) (z : ZoneNo) (w : Option UplinkWord) : NoticeLaw (takeWord s z w) := by
  have link : NoticeLaw (Machine.linkWord s z w.isSome) := law.linkWord z _
  unfold Machine.takeWord
  dsimp only
  generalize Machine.linkWord s z w.isSome = t at link
  cases w with
  | none => exact link
  | some u =>
    have vector : NoticeLaw (takeVector t z u.alarms) := (link.takeEdges z u.alarms).takeOutputs t z
    refine (?_ : NoticeLaw (if live s z then takeBlock (takeVector t z u.alarms) z u else t))
    split
    · exact vector.of_same (takeBlock_notices _ z u)
    · exact link

/-! ## The transport -/

theorem NoticeLaw.moveLane {s : State} (law : NoticeLaw s) (old : State) (z : ZoneNo) (o : OpNo) : NoticeLaw (moveLane old s z o) := by
  have filed : NoticeLaw (fileMove old s z o) := law.file _ _
  unfold Machine.moveLane
  dsimp only
  split
  · split
    · exact filed
    · exact filed.of_same rfl
  · exact law

theorem NoticeLaw.moveLanes {s : State} (law : NoticeLaw s) (old : State) (z : ZoneNo) : NoticeLaw (moveLanes old s z) := by
  unfold Machine.moveLanes
  exact foldl_law (fun o law => law.moveLane old z o) allOps law

theorem NoticeLaw.takeLatch {s : State} (law : NoticeLaw s) : NoticeLaw (takeLatch s) := by
  have copied : NoticeLaw (copyBindings s) := law.of_same (copyBindings_keeps State.notices (fun _ _ => rfl) (fun _ _ => rfl) s)
  have moves : NoticeLaw (latchMoves s) := by
    unfold latchMoves
    exact foldl_law (fun z law => law.moveLanes s z) allZones copied
  rw [takeLatch_eq]
  exact moves.inputChanges s _

theorem NoticeLaw.latchIfStopped {s : State} (law : NoticeLaw s) : NoticeLaw (latchIfStopped s) := by
  unfold Machine.latchIfStopped
  split
  · exact law.takeLatch
  · exact law

theorem NoticeLaw.takeCommit {s : State} (law : NoticeLaw s) : NoticeLaw (takeCommit s) := by
  have stored : NoticeLaw (storeCommit s) := law.of_same rfl
  exact stored.inputChanges s _

theorem NoticeLaw.stopZone {s : State} (law : NoticeLaw s) (old : State) (z : ZoneNo) : NoticeLaw (stopZone old s z) := by
  have idle : NoticeLaw (s.setLink z (s.link z).toIdle) := law.of_same rfl
  unfold Machine.stopZone
  dsimp only
  split
  · exact (idle.goDark _ _ _ _).inputChange _ _
  · exact idle

theorem NoticeLaw.enterStopped {s : State} (law : NoticeLaw s) : NoticeLaw (enterStopped s) := by
  have halted : NoticeLaw (haltTransport s) := law.of_same rfl
  have links : NoticeLaw (stopLinks s) := by
    rw [stopLinks_eq]
    exact foldl_law (fun o law => law.withdraw o _) allOps (foldl_law (fun z law => law.stopZone s z) allZones halted)
  have latch : NoticeLaw (latchOnEntry (stopLinks s)) := by
    unfold latchOnEntry
    split
    · exact links.takeLatch
    · exact links
  unfold Machine.enterStopped commitOnEntry
  split
  · exact latch.takeCommit
  · exact latch

theorem NoticeLaw.shadowEntry {s : State} (law : NoticeLaw s) (spoke : SpokeNo) (n : EntryNo) : NoticeLaw (shadowEntry s spoke n) := by
  have counted (r : Shadow) : NoticeLaw (s.setShadow spoke n r) := law.of_same rfl
  unfold Machine.shadowEntry
  dsimp only
  split
  · exact counted _
  · exact (counted _).file _ _

theorem NoticeLaw.shadowSpoke {s : State} (law : NoticeLaw s) (spoke : SpokeNo) : NoticeLaw (shadowSpoke s spoke) := by
  unfold Machine.shadowSpoke
  dsimp only
  exact foldl_law (fun _ law => foldl_law (fun n law => law.shadowEntry spoke n) _ law) allSlots law

theorem NoticeLaw.fillSlots {s : State} (law : NoticeLaw s) : NoticeLaw (fillSlots s) := by
  have shadowed : NoticeLaw (allSpokes.foldl Machine.shadowSpoke s) := foldl_law (fun spoke law => law.shadowSpoke spoke) allSpokes law
  unfold Machine.fillSlots
  generalize allSpokes.foldl Machine.shadowSpoke s = t at shadowed
  exact shadowed.of_same rfl

theorem NoticeLaw.countZoneRetries {s : State} (law : NoticeLaw s) (z : ZoneNo) : NoticeLaw (countZoneRetries s z) := by
  refine NoticeLaw.takeOutputs (foldl_law (fun {t} c law => ?_) allClasses law) s z
  have stored (r : ProtRec) : NoticeLaw (t.setProt z c r) := law.of_same rfl
  unfold countRetry
  split
  · split
    · exact stored _
    · exact (stored _).file _ _
  · exact law

/-! ## The Spread Engine -/

theorem NoticeLaw.expireProposal {s : State} (law : NoticeLaw s) (o : OpNo) (p : Proposal) : NoticeLaw (expireProposal s o p) := by
  have closed {t : State} (law : NoticeLaw t) : NoticeLaw (closeProposal t o p) := law.of_same rfl
  have ruled : NoticeLaw (match (s.oper o).silence with
      | .apply => workingWrite s p.zone o (some p.toSector)
      | .drop => s.setSettle p.zone o s.settleTime) := by
    split
    · exact law.of_same rfl
    · exact law.of_same rfl
  exact (closed ruled).file _ _

theorem NoticeLaw.countProposal {s : State} (law : NoticeLaw s) (o : OpNo) : NoticeLaw (countProposal s o) := by
  unfold Machine.countProposal
  split
  · exact law
  · split
    · exact law.of_same rfl
    · exact law.expireProposal _ _

theorem NoticeLaw.evaluate {s : State} (law : NoticeLaw s) (o : OpNo) : NoticeLaw (evaluate s o) := by
  have outcome {t : State} (law : NoticeLaw t) (e : EvalOutcome) : NoticeLaw (setOutcome t o e) := law.of_same rfl
  have written (z : ZoneNo) (b : Option SectorNo) : NoticeLaw (workingWrite s z o b) := law.of_same rfl
  have opened (r : SpreadRec) : NoticeLaw (s.setSpread o r) := law.of_same rfl
  unfold Machine.evaluate
  split
  · exact outcome law _
  · split
    · exact outcome (written _ _) _
    · exact (opened _).file _ _

theorem NoticeLaw.runEvaluation {s : State} (law : NoticeLaw s) (o : OpNo) : NoticeLaw (runEvaluation s o) :=
  (law.of_same (t := setEvalCount s o 0) rfl).evaluate o

theorem NoticeLaw.countEvaluation {s : State} (law : NoticeLaw s) (o : OpNo) : NoticeLaw (countEvaluation s o) := by
  unfold Machine.countEvaluation
  split
  · split
    · exact law.of_same rfl
    · exact law.runEvaluation o
  · exact law

/-! ## A cycle start -/

theorem NoticeLaw.react {s : State} (law : NoticeLaw s) (r : Reaction) : NoticeLaw (react s r) := by
  cases r with
  | latch =>
    refine (?_ : NoticeLaw (latchReaction s))
    unfold latchReaction
    split
    · exact law.takeLatch.of_same rfl
    · exact law
  | commit =>
    refine (?_ : NoticeLaw (commitReaction s))
    unfold commitReaction
    split
    · exact law.takeCommit.of_same rfl
    · exact law
  | fill => exact law.fillSlots
  | dwell => exact law.of_same (countDwells_keeps State.notices (fun _ _ => rfl) s)
  | protect =>
    refine (?_ : NoticeLaw (if s.cycle = 0 then protectReaction s else s))
    split
    · exact foldl_law (fun z law => law.countZoneRetries z) allZones law
    · exact law
  | spread =>
    refine (?_ : NoticeLaw (if s.cycle = 0 then spreadReaction s else s))
    split
    · exact foldl_law (fun o law => law.countEvaluation o) allOps (foldl_law (fun o law => law.countProposal o) allOps
        (law.of_same (countSettles_keeps State.notices (fun _ _ => rfl) s)))
    · exact law

theorem NoticeLaw.cycleStart {s : State} (law : NoticeLaw s) (order : List Reaction) : NoticeLaw (cycleStart order s) :=
  foldl_law (fun r law => law.react r) _
    (law.of_same (advanceCounts_keeps State.notices (fun _ _ => rfl) (fun _ _ => rfl) (fun _ _ => rfl) s))

/-! ## The requests -/

theorem NoticeLaw.retire {s : State} (law : NoticeLaw s) (z : ZoneNo) : NoticeLaw (retire s z) := by
  have idle : NoticeLaw (s.setLink z (s.link z).toIdle) := law.of_same rfl
  have link : NoticeLaw (retireLink s z) := by
    unfold retireLink
    dsimp only
    split
    · exact idle.goDark _ _ _ _
    · exact idle
  unfold Machine.retire
  dsimp only
  generalize retireLink s z = t at link
  have cleared : NoticeLaw (clearZoneCells (t.setZone z (t.zone z).retired) z) := link.of_same rfl
  exact cleared.inputChange s z

theorem NoticeLaw.setPin {s : State} (law : NoticeLaw s) (z : ZoneNo) (pin : Bool) : NoticeLaw (setPin s z pin) := by
  have stored : NoticeLaw (s.setZone z { s.zone z with pinned := pin }) := law.of_same rfl
  unfold Machine.setPin
  dsimp only
  split
  · exact stored.withdrawOnZone _ _
  · exact stored

theorem NoticeLaw.manualMove {s : State} (law : NoticeLaw s) (z : ZoneNo) (o : OpNo) (b : Option SectorNo) : NoticeLaw (manualMove s z o b) :=
  ((law.of_same (t := workingWrite s z o b) rfl).withdrawIf o _ _).latchIfStopped

theorem NoticeLaw.admission {s : State} (law : NoticeLaw s) (o : OpNo) : NoticeLaw (admission s o) :=
  ((law.of_same (t := setTenancy s o .active) rfl).file _ _).inputChanges _ _

theorem NoticeLaw.suspension {s : State} (law : NoticeLaw s) (o : OpNo) : NoticeLaw (suspension s o) :=
  (((law.of_same (t := setTenancy s o .suspended) rfl).file _ _).withdraw o _).inputChanges _ _

theorem NoticeLaw.releaseAll {s : State} (law : NoticeLaw s) (o : OpNo) : NoticeLaw (releaseAll s o) := by
  have tenancy : NoticeLaw (releaseTenancy s o) := by
    have withdrawn : NoticeLaw (if (s.oper o).tenancy = .active then Machine.withdraw s o .tenancy else s) := by
      split
      · exact law.withdraw _ _
      · exact law
    have left : NoticeLaw (setTenancy _ o .absent) := withdrawn.of_same rfl
    exact left.inputChanges _ _
  have quiet (t : State) : (releasePreview (releaseCounters (releaseBindings (releaseRecord t o) o) o) o).notices = t.notices :=
    (releasePreview_keeps State.notices (fun _ _ => rfl) ..).trans ((releaseCounters_keeps State.notices (fun _ _ => rfl)
      (fun _ _ => rfl) (fun _ _ => rfl) ..).trans ((releaseBindings_keeps State.notices (fun _ _ => rfl) (fun _ _ => rfl) ..).trans
      (releaseRecord_keeps State.notices (fun _ _ => rfl) (fun _ _ => rfl) ..)))
  exact (((tenancy.of_same (quiet _)).setNotices (Nat.zero_le _)).file _ _).latchIfStopped

theorem NoticeLaw.changePolicy {s : State} (law : NoticeLaw s) (o : OpNo) (m : Policy) : NoticeLaw (changePolicy s o m) :=
  ((law.of_same (t := s.setOper o { s.oper o with policy := m }) rfl).withdraw o .policyChanged).of_same rfl

theorem NoticeLaw.storeEnable {s : State} (law : NoticeLaw s) (o : OpNo) (sec : SectorNo) (on : Bool) : NoticeLaw (storeEnable s o sec on) := by
  have stored : NoticeLaw (s.setSector o sec { s.sector o sec with enabled := on }) := law.of_same rfl
  unfold Machine.storeEnable
  dsimp only
  split
  · exact law
  · refine NoticeLaw.inputChanges ?_ s _
    split
    · exact stored
    · exact stored.withdrawIf _ _ _

theorem NoticeLaw.storePower {s : State} (law : NoticeLaw s) (o : OpNo) (sec : SectorNo) (n : Nat) : NoticeLaw (storePower s o sec n) := by
  have stored : NoticeLaw (s.setSector o sec { s.sector o sec with request := n }) := law.of_same rfl
  unfold Machine.storePower
  split
  · exact law
  · exact stored.inputChanges _ _

theorem NoticeLaw.presenceStored {s : State} (law : NoticeLaw s) (o : OpNo) (sec : SectorNo) (up : Bool) :
    NoticeLaw (presenceStored s o sec up) := by
  have stored : NoticeLaw (s.setSector o sec { s.sector o sec with streamUp := up }) := law.of_same rfl
  unfold Machine.presenceStored
  dsimp only
  split
  · exact stored.file _ _
  · exact (stored.file _ _).withdrawIf _ _ _

theorem NoticeLaw.clearZone {s : State} (law : NoticeLaw s) (z : ZoneNo) : NoticeLaw (clearZone s z) := by
  refine NoticeLaw.takeOutputs (foldl_law (fun {t} c law => ?_) allClasses law) s z
  have stored (r : ProtRec) : NoticeLaw (t.setProt z c r) := law.of_same rfl
  unfold clearRecord
  dsimp only
  split
  · exact law
  · split
    · exact (stored _).file _ _
    · exact stored _

end Sys2Proof.Machine
end

section
/-! The Allocation Engine, the notice queues and the ports after every step: O58, and the state after RSTn: O60. -/

namespace Sys2Proof.Machine

open Sys2Proof

/-! ## The engine (R141, R142) -/

/-- What the computation in flight and the slots say of each other, whether or not work waits (R141). -/
def EngineCore (s : State) : Prop := slotsMatch s ∧ flightMatches s s.flight ∧ s.consecutive ≤ Config.maxConsecutive

theorem engineInv_iff (s : State) : EngineInv s ↔ freeEngine s ∧ EngineCore s := Iff.rfl

/-- What the engine and the ports hold that no block but themselves writes: the computation in flight, the slots, the count of
reallocations in a row, and the port records. -/
def State.duties (s : State) : (Option Computation × Vector (Option PreviewSlot) 5) × Nat × Vector PortRec 5 :=
  ((s.flight, s.previews), s.consecutive, s.ports)

theorem duties_parts {s t : State} (same : t.duties = s.duties) :
    t.flight = s.flight ∧ t.previews = s.previews ∧ t.consecutive = s.consecutive ∧ t.ports = s.ports :=
  ⟨congrArg (·.1.1) same, congrArg (·.1.2) same, congrArg (·.2.1) same, congrArg (·.2.2) same⟩

theorem EngineCore.of_same {s t : State} (core : EngineCore s) (flight : t.flight = s.flight) (previews : t.previews = s.previews)
    (consecutive : t.consecutive = s.consecutive) : EngineCore t := by
  have slot : t.previewSlot = s.previewSlot := funext fun p => by simp only [State.previewSlot, previews]
  obtain ⟨slots, flying, bound⟩ := core
  refine ⟨fun p e => ?_, ?_, consecutive ▸ bound⟩
  · rw [slot, flight]
    exact slots p e
  · rw [flight]
    unfold flightMatches at *
    rw [slot]
    exact flying

/-- With no preview in flight no slot is RUNNING, and none is cancelled. -/
theorem slotsMatch_of_idle {s : State} (waits : ∀ p e, s.previewSlot p = some e → e.running = false ∧ e.cancelled = false)
    (none_flies : ∀ p o q sec z n, s.flight ≠ some { kind := .preview p o q sec, zone := z, snapshot := n }) : slotsMatch s := by
  intro p e slot
  refine ⟨fun _ => (waits p e slot).2, fun runs => ?_, fun ⟨o, q, sec, z, n, flies⟩ => absurd flies (none_flies p o q sec z n)⟩
  rw [(waits p e slot).1] at runs
  cases runs

/-- With the preview of port p in flight its slot alone is RUNNING. -/
theorem slotsMatch_of_flying {s : State} {p : Port} {e : PreviewSlot} {o : OpNo} {q : Nat} {sec : Option SectorNo}
    {z : ZoneNo} {n : Snapshot} (slot : s.previewSlot p = some e) (runs : e.running = true) 
    (flies : s.flight = some { kind := .preview p o q sec, zone := z, snapshot := n })
    (waits : ∀ x y, x ≠ p → s.previewSlot x = some y → y.running = false ∧ y.cancelled = false) : slotsMatch s := by
  intro x y held
  by_cases same : x = p
  · subst same
    cases slot.symm.trans held
    exact ⟨fun idle => absurd (runs.symm.trans idle) nofun, fun _ => ⟨o, q, sec, _, _, flies⟩, fun _ => runs⟩
  · obtain ⟨idle, uncancelled⟩ := waits x y same held
    refine ⟨fun _ => uncancelled, fun run => absurd (idle.symm.trans run) nofun, fun ⟨_, _, _, _, _, other⟩ => ?_⟩
    have kinds := congrArg Computation.kind (Option.some.inj (flies.symm.trans other))
    cases kinds
    exact absurd rfl same

/-- The next preview is that of a WAITING slot (R143). -/
theorem nextPreview_waits {s : State} {p : Port} {e : PreviewSlot} (h : nextPreview s = some (p, e)) :
    s.previewSlot p = some e ∧ e.running = false := by
  obtain ⟨x, -, found⟩ := List.exists_of_findSome?_eq_some h
  obtain ⟨y, waits, pair⟩ := Option.map_eq_some_iff.mp found
  cases pair
  exact waitingPreview_eq_some_iff.mp waits

theorem EngineCore.waiting {s : State} (core : EngineCore s)
    (none_flies : ∀ p o q sec z n, s.flight ≠ some { kind := .preview p o q sec, zone := z, snapshot := n }) {p : Port} {e : PreviewSlot}
    (slot : s.previewSlot p = some e) : e.running = false ∧ e.cancelled = false := by
  obtain ⟨idle, runs⟩ := core.1 p e slot
  have waits : e.running = false := by
    rw [← Bool.not_eq_true, runs]
    exact fun ⟨o, q, sec, z, n, flies⟩ => none_flies p o q sec z n flies
  exact ⟨waits, idle waits⟩

/-- An arbitration leaves the engine as chapter 8 has it (R143). -/
theorem EngineCore.arbitrate {s : State} (core : EngineCore s) (free : s.flight = none) : EngineInv (arbitrate s) := by
  have waiting {p : Port} {e : PreviewSlot} : s.previewSlot p = some e → e.running = false ∧ e.cancelled = false :=
    core.waiting (by simp [free])
  rcases arbitrate_cases s with ⟨empty, no_preview, result⟩ | ⟨z, rest, queue, -, result⟩ | ⟨p, e, chosen, -, result⟩
  · rw [result]
    refine ⟨fun _ => ⟨empty, fun p => ?_⟩, core.1, core.2.1, Nat.zero_le _⟩
    refine Option.eq_none_iff_forall_ne_some.mpr fun e slot => ?_
    exact nextPreview_eq_none_iff.mp no_preview p e ⟨slot, (waiting slot).1⟩
  · rw [result]
    refine ⟨fun flight => ?_, slotsMatch_of_idle (fun p e => waiting) fun p o q sec y n flies => ?_, trivial, saturate_le ..⟩
    · exact absurd flight (Option.some_ne_none _)
    · exact absurd (congrArg Computation.kind (Option.some.inj flies)) nofun
  · have slot := nextPreview_waits chosen
    rw [result]
    refine ⟨fun flight => absurd flight (Option.some_ne_none _), slotsMatch_of_flying (e := { e with running := true }) ?_ rfl rfl
      fun x y other held => ?_, ⟨e.cancelled, ?_⟩, Nat.zero_le _⟩
    · exact State.setPreview_previewSlot (s := { s with consecutive := 0 }) ..
    · exact waiting ((State.setPreview_previewSlot_ne (s := { s with consecutive := 0 }) _ other).symm.trans held)
    · exact State.setPreview_previewSlot (s := { s with consecutive := 0 }) ..

/-- The end of an event leaves the engine as chapter 8 has it: with the engine FREE before, what waits has just come (R142). -/
theorem EngineCore.endEvent {old s : State} (core : EngineCore s) (free : freeEngine old) (flight : s.flight = old.flight) :
    EngineInv (endEvent old s) := by
  rcases hold : s.flight with _ | c
  · by_cases arrived : workArrived old s = true
    · rw [show Machine.endEvent old s = Machine.arbitrate s from if_pos (by simp [hold, arrived])]
      exact core.arbitrate hold
    · rw [show Machine.endEvent old s = s from if_neg (by simp [arrived])]
      obtain ⟨empty, no_slot⟩ := free (flight.symm.trans hold)
      simp only [workArrived, empty, List.length_nil, Bool.or_eq_true, decide_eq_true_eq, List.any_eq_true, no_slot, not_or, not_exists,
        not_and, Nat.not_lt, Nat.le_zero, List.length_eq_zero_iff, Option.isNone_none, Bool.true_and, Bool.not_eq_true,
        Option.isSome_eq_false_iff, Option.isNone_iff_eq_none] at arrived
      exact ⟨fun _ => ⟨arrived.1, fun p => arrived.2 p (mem_allPorts p)⟩, core⟩
  · rw [show Machine.endEvent old s = s from if_neg (by simp [hold])]
    exact ⟨fun idle => absurd (hold.symm.trans idle) (Option.some_ne_none c), core⟩

theorem EngineCore.finishComputation {s : State} (slots : ∀ p e, s.previewSlot p = some e → e.running = false ∧ e.cancelled = false)
    (bound : s.consecutive ≤ Config.maxConsecutive) : EngineInv (finishComputation s) := by
  have idle : EngineCore { s with flight := none } := ⟨slotsMatch_of_idle slots (by simp), trivial, bound⟩
  exact idle.arbitrate rfl

/-! ## The requests -/

/-- What a request's owner leaves of the engine and the ports before the event ends. -/
def Attends (s t : State) : Prop := (EngineCore s → EngineCore t) ∧ t.flight = s.flight ∧ t.ports = s.ports

theorem Attends.of_duties {s t : State} (same : t.duties = s.duties) : Attends s t := by
  obtain ⟨flight, previews, consecutive, ports⟩ := duties_parts same
  exact ⟨fun core => core.of_same flight previews consecutive, flight, ports⟩

theorem changeMode_duties (s : State) (c : ClassNo) (m : ClassMode) : (changeMode s c m).duties = s.duties := by
  apply changeMode_keeps State.duties <;> intros <;> rfl

/-- RELEASE empties a WAITING slot and cancels a RUNNING one (R10). -/
theorem releasePreview_attends (s : State) (o : OpNo) : Attends s (releasePreview s o) := by
  unfold releasePreview
  split
  · exact .of_duties rfl
  · next e slot =>
    refine ⟨fun core => ?_, rfl, rfl⟩
    obtain ⟨slots, flies, bound⟩ := core
    have here := State.setPreview_previewSlot (s := s) (.op o)
    have away {x : Port} (other : x ≠ .op o) (held : Option PreviewSlot) := State.setPreview_previewSlot_ne (s := s) held other
    refine ⟨fun x y held => ?_, ?_, bound⟩
    · by_cases same : x = .op o
      · subst same
        rw [here] at held
        split at held
        · next runs =>
          cases held
          exact ⟨fun idle => absurd (runs.symm.trans idle) nofun, (slots _ e slot).2⟩
        · cases held
      · rw [away same] at held
        exact slots x y held
    · refine (?_ : flightMatches _ s.flight)
      unfold flightMatches at *
      split
      · next p q n sec z v inFlight =>
        rw [inFlight] at flies
        obtain ⟨cancelled, held⟩ := flies
        by_cases same : p = .op o
        · subst same
          cases slot.symm.trans held
          exact ⟨true, here _⟩
        · exact ⟨cancelled, (away same _).trans held⟩
      · trivial

theorem Attends.trans {s u t : State} (first : Attends s u) (second : Attends u t) : Attends s t :=
  ⟨fun core => second.1 (first.1 core), second.2.1.trans first.2.1, second.2.2.trans first.2.2⟩

theorem releaseAll_attends (s : State) (o : OpNo) : Attends s (releaseAll s o) := by
  have tenancy : Attends s (releaseTenancy s o) := .of_duties (by apply releaseTenancy_keeps State.duties <;> intros <;> rfl)
  have record (t : State) : Attends t (releaseRecord t o) := .of_duties (releaseRecord_keeps State.duties (fun _ _ => rfl) (fun _ _ => rfl) t o)
  have bindings (t : State) : Attends t (releaseBindings t o) :=
    .of_duties (by apply releaseBindings_keeps State.duties <;> intros <;> rfl)
  have counters (t : State) : Attends t (releaseCounters t o) :=
    .of_duties (by apply releaseCounters_keeps State.duties <;> intros <;> rfl)
  have notices (t : State) : Attends t (releaseNotices t o) := .of_duties (releaseNotices_keeps State.duties (fun _ _ => rfl) t o)
  have latch (t : State) : Attends t (latchIfStopped t) := .of_duties (by apply latchIfStopped_keeps State.duties <;> intros <;> rfl)
  exact (((((tenancy.trans (record _)).trans (bindings _)).trans (counters _)).trans (releasePreview_attends _ o)).trans (notices _)).trans
    (latch _)

theorem VenueMove.attends {s t : State} (h : VenueMove s t) : Attends s t := by
  cases h with
  | release o => exact releaseAll_attends s o
  | start _ => exact .of_duties (by apply ownStart_keeps State.duties <;> intros <;> rfl)
  | freeze _ => exact .of_duties (by apply enterStopped_keeps State.duties <;> intros <;> rfl)
  | commit _ => exact .of_duties (by apply takeCommit_keeps State.duties <;> intros <;> rfl)
  | writeEntries l => exact .of_duties (foldl_keeps State.duties _ (fun _ _ => by apply writeEntry_keeps State.duties <;> intros <;> rfl) l s)
  | readEntries n => exact .of_duties (readSteps_keeps State.duties (fun _ _ => rfl) n s)
  | provision z _ => exact .of_duties (by rw [provision_eq]; split <;> rfl)
  | retire z _ => exact .of_duties (by apply retire_keeps State.duties <;> intros <;> rfl)
  | budget z b _ => exact .of_duties (by apply storeBudget_keeps State.duties <;> intros <;> rfl)
  | pin z b _ => exact .of_duties (by apply setPin_keeps State.duties <;> intros <;> rfl)
  | move z o b _ _ => exact .of_duties (by apply manualMove_keeps State.duties <;> intros <;> rfl)
  | admits o _ => exact .of_duties (by apply admission_keeps State.duties <;> intros <;> rfl)
  | suspend o _ => exact .of_duties (by apply suspension_keeps State.duties <;> intros <;> rfl)
  | clearLosses zones => exact .of_duties (foldl_keeps State.duties _ (fun u z => clearLoss_keeps State.duties (fun _ _ => rfl) u z) zones s)
  | mode c m _ _ => exact .of_duties (changeMode_duties s c m)
  | level c n _ _ => exact .of_duties ((foldl_keeps State.duties _ (fun _ _ => by apply takeOutputs_keeps State.duties <;> intros <;> rfl) allZones _).trans
      (by apply storeLevel_keeps State.duties <;> intros <;> rfl))
  | clearFaults zones => exact .of_duties (foldl_keeps State.duties _ (fun _ _ => by apply clearZone_keeps State.duties <;> intros <;> rfl) zones s)
  | share o n _ _ => exact .of_duties (by apply storeShare_keeps State.duties <;> intros <;> rfl)
  | drain _ => exact .of_duties rfl
  | awaitCommit _ => exact .of_duties rfl
  | abortCommit => exact .of_duties rfl
  | window w => exact .of_duties rfl
  | neighbours z l _ => exact .of_duties rfl
  | lostLimit n _ _ => exact .of_duties rfl
  | spreadTimes a b _ _ => exact .of_duties rfl
  | clearStale => exact .of_duties rfl

theorem TenantMove.attends {req : Req} {o : OpNo} {s t : State} (h : TenantMove req o s t) : Attends s t := by
  cases h with
  | enable sec on => exact .of_duties (by apply storeEnable_keeps State.duties <;> intros <;> rfl)
  | power sec n _ => exact .of_duties (by apply storePower_keeps State.duties <;> intros <;> rfl)
  | parameter r _ _ => exact .of_duties rfl
  | policy m => exact .of_duties (by apply changePolicy_keeps State.duties <;> intros <;> rfl)
  | accept p _ _ => exact .of_duties (by apply acceptProposal_keeps State.duties <;> intros <;> rfl)
  | decline p _ => exact .of_duties (by apply declineProposal_keeps State.duties <;> intros <;> rfl)

theorem VenueMove.noticeLaw {s t : State} (h : VenueMove s t) (law : NoticeLaw s) : NoticeLaw t := by
  cases h with
  | start _ => exact law.of_same (by apply ownStart_keeps State.notices <;> intros <;> rfl)
  | freeze _ => exact law.enterStopped
  | commit _ => exact law.takeCommit
  | writeEntries l =>
    exact law.of_same (foldl_keeps State.notices _ (fun _ _ => by apply writeEntry_keeps State.notices <;> intros <;> rfl) l s)
  | readEntries n => exact law.of_same (readSteps_keeps State.notices (fun _ _ => rfl) n s)
  | provision z _ => exact law.of_same (by rw [provision_eq]; split <;> rfl)
  | retire z _ => exact law.retire z
  | budget z b _ =>
    have stored : NoticeLaw (s.setZone z { s.zone z with budget := b }) := law.of_same rfl
    unfold storeBudget
    split
    · exact law
    · exact stored.inputChange _ _
  | pin z b _ => exact law.setPin z b
  | move z o b _ _ => exact law.manualMove z o b
  | admits o _ => exact law.admission o
  | suspend o _ => exact law.suspension o
  | release o => exact law.releaseAll o
  | clearLosses zones => exact law.of_same (foldl_keeps State.notices _ (fun u z => clearLoss_keeps State.notices (fun _ _ => rfl) u z) zones s)
  | mode c m _ _ =>
    have entered : NoticeLaw (reenterClass s c m) := 
      law.of_same (reenterClass_keeps State.notices (fun _ _ => rfl) (fun _ _ => rfl) s c m)
    rw [changeMode_eq]
    exact foldl_law (fun z law => law.takeOutputs s z) allZones entered
  | level c n _ _ =>
    have stored : NoticeLaw (storeLevel s c n) := law.of_same (storeLevel_keeps State.notices (fun _ _ => rfl) (fun _ _ => rfl) s c n)
    exact foldl_law (fun z law => law.takeOutputs s z) allZones stored
  | clearFaults zones => exact foldl_law (fun z law => law.clearZone z) zones law
  | share o n _ _ => exact law.of_same (by apply storeShare_keeps State.notices <;> intros <;> rfl)
  | drain _ => exact law.of_same rfl
  | awaitCommit _ => exact law.of_same rfl
  | abortCommit => exact law.of_same rfl
  | window w => exact law.of_same rfl
  | neighbours z l _ => exact law.of_same rfl
  | lostLimit n _ _ => exact law.of_same rfl
  | spreadTimes a b _ _ => exact law.of_same rfl
  | clearStale => exact law.of_same rfl

theorem TenantMove.noticeLaw {req : Req} {o : OpNo} {s t : State} (h : TenantMove req o s t) (law : NoticeLaw s) : NoticeLaw t := by
  have written (z : ZoneNo) (b : Option SectorNo) : NoticeLaw (workingWrite s z o b) := law.of_same rfl
  have settled (z : ZoneNo) (n : Nat) : NoticeLaw (s.setSettle z o n) := law.of_same rfl
  have closed {u : State} (p : Proposal) (law : NoticeLaw u) : NoticeLaw (closeProposal u o p) := law.of_same rfl
  cases h with
  | enable sec on => exact law.storeEnable o sec on
  | power sec n _ => exact law.storePower o sec n
  | parameter r _ _ => exact law.of_same rfl
  | policy m => exact law.changePolicy o m
  | accept p _ _ => exact ((closed p (written _ _)).file _ _).latchIfStopped
  | decline p _ => exact (closed p (settled _ _)).file _ _

theorem OwnerMove.attends {req : Req} {p : Port} {s t : State} (h : OwnerMove req p s t) : Attends s t := by
  cases h with
  | stays => exact .of_duties rfl
  | readNotices n => exact .of_duties rfl
  | venue port moved => exact moved.attends
  | tenant o port moved => exact moved.attends
  | preview z o n own empty =>
    refine ⟨fun core => ?_, rfl, rfl⟩
    obtain ⟨slots, flies, bound⟩ := core
    have away {x : Port} (other : x ≠ p) (held : Option PreviewSlot) := State.setPreview_previewSlot_ne (s := s) held other
    have elsewhere {x : Port} {e : PreviewSlot} (held : s.previewSlot x = some e) : x ≠ p := by
      rintro rfl
      cases empty.symm.trans held
    refine ⟨fun x y held => ?_, (?_ : flightMatches _ s.flight), bound⟩
    · by_cases same : x = p
      · subst same
        rw [State.setPreview_previewSlot] at held
        cases held
        refine ⟨fun _ => rfl, nofun, fun ⟨q, k, sec, v, m, inFlight⟩ => ?_⟩
        have flies' := flies
        rw [show s.flight = _ from inFlight] at flies'
        obtain ⟨_, held⟩ := flies'
        exact absurd rfl (elsewhere held)
      · rw [away same] at held
        exact slots x y held
    · unfold flightMatches at *
      split
      · next q k c sec v m inFlight =>
        rw [inFlight] at flies
        obtain ⟨cancelled, held⟩ := flies
        exact ⟨cancelled, (away (elsewhere held) _).trans held⟩
      · trivial

theorem OwnerMove.noticeLaw {req : Req} {p : Port} {s t : State} (h : OwnerMove req p s t) (law : NoticeLaw s) : NoticeLaw t := by
  cases h with
  | stays => exact law
  | readNotices n => exact law.setNotices ((List.length_drop ..).le.trans ((Nat.sub_le ..).trans (law p)))
  | preview z o n own empty => exact law.of_same rfl
  | venue port moved => exact moved.noticeLaw law
  | tenant o port moved => exact moved.noticeLaw law

/-! ## The ports (R164, R165, R168) -/

/-- A port record as `PortInv` has every port's. -/
def goodPort (r : PortRec) : Prop :=
  r.reply.isSome = replyStands r.frame ∧ r.placed ≤ 8 ∧ (r.frame = .receiving false → 1 ≤ r.placed)

theorem PortInv.setPort {s : State} (inv : PortInv s) {p : Port} {r : PortRec} (good : goodPort r) : PortInv (s.setPort p r) := by
  intro x
  by_cases same : x = p
  · rw [same, State.setPort_port]
    exact good
  · rw [State.setPort_port_ne _ _ same]
    exact inv x

theorem PortInv.of_same {s t : State} (inv : PortInv s) (same : t.ports = s.ports) : PortInv t := by
  intro p
  rw [State.port, same]
  exact inv p

theorem goodPort_released {r : PortRec} (good : goodPort r) : goodPort r.released := by
  obtain ⟨reply, placed, -⟩ := good
  refine ⟨?_, placed, nofun⟩
  unfold PortRec.released
  dsimp only
  split
  · next idle =>
    rw [reply, idle]
  · rfl

theorem PortInv.releaseSelect {s : State} (inv : PortInv s) (p : Port) : PortInv (releaseSelect s p) := by
  have released : PortInv (s.setPort p (s.port p).released) := inv.setPort (goodPort_released (inv p))
  rw [releaseSelect_eq]
  dsimp only
  split
  · exact released.of_same rfl
  · exact released

theorem NoticeLaw.releaseSelect {s : State} (law : NoticeLaw s) (p : Port) : NoticeLaw (releaseSelect s p) := by
  have released : NoticeLaw (s.setPort p (s.port p).released) := law.of_same rfl
  rw [releaseSelect_eq]
  dsimp only
  split
  · exact released.setNotices (law p)
  · exact released

theorem PortInv.clockFalls {s : State} (inv : PortInv s) : PortInv (clockFalls s) := by
  have places (p : Port) : PortInv (placeNext s p) := by
    obtain ⟨reply, -, -⟩ := inv p
    unfold placeNext
    split
    · next more => exact inv.setPort ⟨reply, more.2, fun _ => Nat.le_add_left 1 _⟩
    · exact inv
  unfold Machine.clockFalls
  split
  · exact (places _).of_same rfl
  · exact inv

/-! ## The three together -/

/-- What O58 says of a state. -/
def QueuesAndPorts (s : State) : Prop := EngineInv s ∧ NoticeLaw s ∧ PortInv s

/-- A write of one port record leaves the engine and the notices. -/
theorem QueuesAndPorts.setPort {s : State} (inv : QueuesAndPorts s) {p : Port} {r : PortRec} (good : goodPort r) :
    QueuesAndPorts (s.setPort p r) := ⟨inv.1, inv.2.1, inv.2.2.setPort good⟩

/-- An event that leaves the engine and the ports to their own rules and ends keeps all three. -/
theorem QueuesAndPorts.endEvent {s u : State} (inv : QueuesAndPorts s) (attends : Attends s u) (law : NoticeLaw u) :
    QueuesAndPorts (endEvent s u) := by
  obtain ⟨⟨free, core⟩, -, ports⟩ := inv
  obtain ⟨keeps, flight, same⟩ := attends
  exact ⟨(keeps core).endEvent free flight, law.endEvent s, ports.of_same ((endEvent_ports s u).trans same)⟩

/-- An event that brings the engine no work and the ports nothing keeps all three. -/
theorem QueuesAndPorts.of_same {s t : State} (inv : QueuesAndPorts s) (duties : t.duties = s.duties) (queue : t.realloc = s.realloc)
    (law : NoticeLaw t) : QueuesAndPorts t := by
  obtain ⟨⟨free, core⟩, -, ports⟩ := inv
  obtain ⟨flight, previews, consecutive, same⟩ := duties_parts duties
  refine ⟨⟨fun idle => ?_, EngineCore.of_same core flight previews consecutive⟩, law, ports.of_same same⟩
  obtain ⟨empty, slots⟩ := free (flight.symm.trans idle)
  exact ⟨queue.trans empty, fun p => by rw [State.previewSlot, previews]; exact slots p⟩

theorem reset_queuesAndPorts : QueuesAndPorts State.reset := by
  have slot (p : Port) : State.reset.previewSlot p = none := by simp [State.previewSlot, State.reset]
  have queue (p : Port) : (State.reset.noticeQueue p).records = [] := by simp [State.noticeQueue, State.reset]
  have port (p : Port) : State.reset.port p = PortRec.reset := by simp [State.port, State.reset]
  refine ⟨⟨fun _ => ⟨rfl, slot⟩, fun p e held => ?_, trivial, Nat.zero_le _⟩, fun p => ?_, fun p => ?_⟩
  · rw [slot] at held
    cases held
  · rw [queue]
    exact Nat.zero_le _
  · rw [port]
    exact ⟨rfl, Nat.zero_le _, nofun⟩

/-- The completion of a computation leaves the engine to an arbitration; what it leaves waiting is uncancelled (R142, R145, R149). -/
theorem QueuesAndPorts.finishComputation {s t : State} (inv : QueuesAndPorts s) (consecutive : t.consecutive = s.consecutive)
    (slots : ∀ p e, t.previewSlot p = some e → e.running = false ∧ e.cancelled = false) (law : NoticeLaw t) (ports : t.ports = s.ports) :
    QueuesAndPorts (finishComputation t) := by
  have done : NoticeLaw { t with flight := none } := law.of_same rfl
  refine ⟨EngineCore.finishComputation slots (consecutive ▸ inv.1.2.2.2), done.arbitrate, inv.2.2.of_same ?_⟩
  exact (finishComputation_keeps State.ports (fun _ _ => rfl) (fun _ _ => rfl) (fun _ _ => rfl) (fun _ _ => rfl) (fun _ _ => rfl) t).trans ports

/-- An event whose blocks leave the engine's duties and keep the queues, and which then ends. -/
theorem QueuesAndPorts.ends {s u : State} (inv : QueuesAndPorts s) (duties : u.duties = s.duties) (law : NoticeLaw s → NoticeLaw u) :
    QueuesAndPorts (Machine.endEvent s u) := inv.endEvent (.of_duties duties) (law inv.2.1)

theorem takeWord_duties (s : State) (z : ZoneNo) (w : Option UplinkWord) : (takeWord s z w).duties = s.duties := by
  apply takeWord_keeps State.duties <;> intros <;> rfl

theorem cycleStart_duties (s : State) (order : List Reaction) : (cycleStart order s).duties = s.duties := by
  apply cycleStart_keeps State.duties <;> intros <;> rfl

theorem enterStopped_duties (s : State) : (enterStopped s).duties = s.duties := by
  apply enterStopped_keeps State.duties <;> intros <;> rfl

theorem presenceStored_duties (s : State) (o : OpNo) (sec : SectorNo) (up : Bool) : (presenceStored s o sec up).duties = s.duties := by
  have filed (t : State) (l : List Port) (n : Notice) : (file t l n).duties = t.duties := file_keeps State.duties (fun _ _ => rfl) t l n
  unfold presenceStored
  dsimp only
  split
  · exact filed _ _ _
  · exact (withdrawIf_keeps State.duties (fun _ _ => rfl) (fun _ _ => rfl) ..).trans (filed _ _ _)

theorem QueuesAndPorts.retryExpiry {s : State} (inv : QueuesAndPorts s) (z : ZoneNo) (c : ClassNo) :
    QueuesAndPorts (retryExpiry s z c) := by
  have expired (law : NoticeLaw s) : NoticeLaw (expireRetry s z c) :=
    (law.of_same (t := s.setProt z c { s.protRec z c with state := .idle }) rfl).file _ _
  unfold Machine.retryExpiry
  split
  · refine inv.ends ((takeOutputs_keeps State.duties ?_ ?_ ?_ ?_ ..).trans ?_) fun law => (expired law).takeOutputs s z
    iterate 4 intros; rfl
    exact expireRetry_keeps State.duties (fun _ _ => rfl) (fun _ _ => rfl) s z c
  · exact inv

/-- The completion of a preview empties the slot that was RUNNING (R149). -/
theorem QueuesAndPorts.completePreview {s : State} (inv : QueuesAndPorts s) {p : Port} {o : OpNo} {q : Nat} {sec : Option SectorNo}
    {z : ZoneNo} {n : Snapshot} (inFlight : s.flight = some { kind := .preview p o q sec, zone := z, snapshot := n }) :
    QueuesAndPorts (Machine.finishComputation (completePreview s p o sec z n)) := by
  obtain ⟨slots, -, -⟩ := inv.1.2
  have filed (c : Prop) [Decidable c] (l : Notice) : (if c then s else file s [p] l).previews = s.previews := by
    split
    · rfl
    · exact file_keeps State.previews (fun _ _ => rfl) ..
  have previews : (Machine.completePreview s p o sec z n).previews = s.previews.set (portNumber p) none :=
    congrArg (fun v : Vector (Option PreviewSlot) 5 => v.set (portNumber p) none) (filed _ _)
  have slot (x : Port) : (Machine.completePreview s p o sec z n).previewSlot x = (s.setPreview p none).previewSlot x := by
    rw [State.previewSlot, previews]
    rfl
  refine inv.finishComputation (completePreview_keeps State.consecutive (fun _ _ => rfl) (fun _ _ => rfl) ..) (fun x e held => ?_)
    (inv.2.1.completePreview p o sec z n) (completePreview_keeps State.ports (fun _ _ => rfl) (fun _ _ => rfl) ..)
  rw [slot] at held
  by_cases same : x = p
  · rw [same, State.setPreview_previewSlot] at held
    cases held
  · rw [State.setPreview_previewSlot_ne s none same] at held
    obtain ⟨idle, runs⟩ := slots x e held
    have waits : e.running = false := by
      rw [← Bool.not_eq_true, runs]
      rintro ⟨o', q', sec', z', n', other⟩
      cases congrArg Computation.kind (Option.some.inj (inFlight.symm.trans other))
      exact same rfl
    exact ⟨waits, idle waits⟩

/-- A stale or a written reallocation leaves the slots, none of which was RUNNING (R145, R146). -/
theorem Reallocated.queuesAndPorts {s t : State} (h : Reallocated s t) (inv : QueuesAndPorts s) : QueuesAndPorts t := by
  obtain ⟨z, n, inFlight, rfl⟩ := h
  have duties : (completeReallocation s z n).duties = s.duties := by apply completeReallocation_keeps State.duties <;> intros <;> rfl
  obtain ⟨-, previews, consecutive, ports⟩ := duties_parts duties
  refine inv.finishComputation consecutive (fun p e held => ?_) ?_ ports
  · rw [State.previewSlot, previews] at held
    exact EngineCore.waiting inv.1.2 (by simp [inFlight]) held
  · unfold completeReallocation
    split
    · exact inv.2.1.of_same rfl
    · exact inv.2.1.writeGrants _ _

theorem QueuesAndPorts.streamReport {s : State} (inv : QueuesAndPorts s) (o : OpNo) (sec : SectorNo) (up : Bool) :
    QueuesAndPorts (streamReport s o sec up) := by
  rw [streamReport_eq]
  split
  · exact inv
  · refine inv.ends ((inputChanges_keeps State.duties ?_ ?_ ?_ ?_ ..).trans (presenceStored_duties s o sec up))
      fun law => (law.presenceStored o sec up).inputChanges s _
    all_goals intros; rfl

theorem CommandMove.queuesAndPorts {s t : State} (h : CommandMove s t) (inv : QueuesAndPorts s) : QueuesAndPorts t := by
  have good (p : Port) : goodPort (s.port p) := inv.2.2 p
  cases h with
  | stays => exact inv
  | reset => exact reset_queuesAndPorts
  | selectAsserted p =>
    unfold assertSelect
    split
    · exact inv.setPort ⟨rfl, Nat.le_add_left 1 7, fun _ => Nat.le_refl 1⟩
    · exact inv
  | selectReleased p =>
    refine ⟨?_, ?_, inv.2.2.releaseSelect p⟩
    · rw [releaseSelect_eq]
      dsimp only
      split <;> exact inv.1
    · exact inv.2.1.releaseSelect p
  | headerCompleted p =>
    unfold headerDone
    split
    · next header =>
      refine inv.setPort ⟨?_, Nat.le_refl 8, nofun⟩
      rw [(good p).1, header]
      rfl
    · exact inv
  | lengthRefused p =>
    unfold lengthError
    split
    · next frame =>
      refine inv.setPort ⟨?_, (good p).2.1, nofun⟩
      rw [(good p).1, frame]
      rfl
    · exact inv
  | answered p rep => exact inv.setPort ⟨rfl, (good p).2.1, nofun⟩
  | replyStarted p =>
    unfold startReply
    split
    · next waits =>
      refine inv.setPort ⟨?_, (good p).2.1, nofun⟩
      rw [(good p).1, waits]
      rfl
    · exact inv
  | replyEnded p =>
    unfold endReply
    split
    · next replying =>
      refine inv.setPort ⟨?_, (good p).2.1, nofun⟩
      rw [(good p).1, replying]
      rfl
    · exact inv
  | @served _ p u rep frame moved =>
    have ended := inv.endEvent moved.attends (moved.noticeLaw inv.2.1)
    exact ended.setPort ⟨rfl, (ended.2.2 p).2.1, nofun⟩
  | stream o sec up => exact inv.streamReport o sec up
  | word z w _ _ _ => exact inv.ends (takeWord_duties s z w) (·.takeWord z w)
  | cycle order _ => exact inv.ends (cycleStart_duties s order) (·.cycleStart order)
  | drained _ => exact inv.ends (enterStopped_duties s) (·.enterStopped)
  | dwelt z =>
    exact inv.of_same (dwellExpiry_keeps State.duties (fun _ _ => rfl) s z) (dwellExpiry_keeps State.realloc (fun _ _ => rfl) s z)
      (inv.2.1.of_same (dwellExpiry_keeps State.notices (fun _ _ => rfl) s z))
  | retried z c => exact inv.retryExpiry z c
  | expired o p _ _ =>
    refine inv.of_same ?_ ?_ (inv.2.1.expireProposal o p)
    · apply expireProposal_keeps State.duties <;> intros <;> rfl
    · apply expireProposal_keeps State.realloc <;> intros <;> rfl
  | evaluated o _ _ =>
    refine inv.of_same ?_ ?_ (inv.2.1.runEvaluation o)
    · apply runEvaluation_keeps State.duties <;> intros <;> rfl
    · apply runEvaluation_keeps State.realloc <;> intros <;> rfl
  | previewed p o q sec z n inFlight => exact inv.completePreview inFlight
  | markEnded => exact inv

/-! ## The statements -/

/-- Settles O58: every command is a move that leaves the engine to the arbitration at its end, files to bounded queues, and
writes the port records by the frame's rules. -/
theorem stepKeepsEngineQueuesAndPorts : Obligations.StepKeepsEngineQueuesAndPorts := by
  refine step_keeps (P := QueuesAndPorts) (fun s l inv => inv) (fun s inv => ?_) (fun s t moved inv => moved.queuesAndPorts inv)
    fun s t moved inv => moved.queuesAndPorts inv
  refine ⟨?_, ?_, inv.2.2.clockFalls⟩
  · rw [clockFalls_eq]
    exact inv.1
  · rw [clockFalls_eq]
    exact inv.2.1

/-- Settles O60. -/
theorem resetSatisfiesInvariants : Obligations.ResetSatisfiesInvariants :=
  ⟨(powerInv_iff _).mpr ⟨reset_core State.reset, reset_idleLaw⟩, reset_protectionInv, ⟨reset_mapInv, fun _ => reset_stopped⟩, reset_queuesAndPorts,
    reset_rangesInv⟩

end Sys2Proof.Machine
end

section
/-! The notices and the short flags that the clips of an event leave (R135, R136), and what a request on an operator's port
reaches: O54. -/

namespace Sys2Proof.Machine

open Sys2Proof

/-! ## The judgement of a lane -/

/-- The notices of the judgement of lane (z, o) against its grant g and its effective request q (R135, R136). -/
def judgement (s : State) (z : ZoneNo) (o : OpNo) (g q : Nat) : List Notice :=
  let told (k : NoticeKind) : Notice := { notice s k with zone := some z, operator := some o, value := some g }
  if (s.oper o).tenancy = .absent then []
  else if g < q ∧ s.isShort z o = false then [told .grantShort]
  else if g = q ∧ s.isShort z o = true then [told .grantFull]
  else []

theorem judgement_congr {s t : State} (bare : t.bare = s.bare) {z : ZoneNo} {o : OpNo} (short : t.isShort z o = s.isShort z o) (g q : Nat) :
    judgement t z o g q = judgement s z o g q := by
  have stamp : t.stamp = s.stamp := State.congr_bare State.stamp bare (fun _ => rfl)
  have oper : t.oper o = s.oper o := State.congr_bare (·.oper o) bare (fun _ => rfl)
  simp only [judgement, notice, stamp, oper, short]

theorem fileGrant_noticeQueue (s : State) (z : ZoneNo) (o : OpNo) (k : NoticeKind) :
    (fileGrant s z o k).noticeQueue (.op o) = if (s.oper o).tenancy = .absent then s.noticeQueue (.op o) else
      appendNotice (s.noticeQueue (.op o)) { notice s k with zone := some z, operator := some o, value := some (s.grant z o) } := by
  unfold fileGrant unlessAbsent
  split
  · rfl
  · exact fileOne_noticeQueue ..

theorem fileGrant_noticeQueue_ne (s : State) {p : Port} (z : ZoneNo) {o : OpNo} (k : NoticeKind) (other : p ≠ .op o) :
    (fileGrant s z o k).noticeQueue p = s.noticeQueue p := by
  refine file_noticeQueue_of_notMem _ _ ?_
  unfold unlessAbsent
  split
  · exact List.not_mem_nil
  · exact fun h => other (List.mem_singleton.mp h)

theorem judgeShort_noticeQueue (s : State) (z : ZoneNo) (o : OpNo) (q : Nat) :
    (judgeShort s z o q).noticeQueue (.op o) =
      (judgement s z o (s.grant z o) q).foldl appendNotice (s.noticeQueue (.op o)) := by
  unfold judgeShort judgement
  dsimp only
  by_cases absent : (s.oper o).tenancy = .absent
  · rw [if_pos absent]
    split
    · exact (fileGrant_noticeQueue ..).trans (if_pos absent)
    · split
      · exact (fileGrant_noticeQueue ..).trans (if_pos absent)
      · rfl
  · rw [if_neg absent]
    split
    · exact (fileGrant_noticeQueue ..).trans (if_neg absent)
    · split
      · exact (fileGrant_noticeQueue ..).trans (if_neg absent)
      · rfl

theorem judgeShort_noticeQueue_ne (s : State) (z : ZoneNo) {o p : OpNo} (q : Nat) (other : p ≠ o) :
    (judgeShort s z o q).noticeQueue (.op p) = s.noticeQueue (.op p) := by
  rcases judgeShort_cases s z o q with same | ⟨b, k, judged⟩
  · rw [same]
  · rw [judged, fileGrant_noticeQueue_ne _ _ _ (by simpa using other), State.setShort_noticeQueue]

theorem judgeShort_bare (s : State) (z : ZoneNo) (o : OpNo) (q : Nat) : (judgeShort s z o q).bare = s.bare :=
  judgeShort_keeps State.bare (fun _ _ => rfl) (fun _ _ => rfl) s z o q

/-! ## The clips of a zone -/

/-- The notices of the clip of lane (z, o) for an event that took `old` to s as far as the inputs go (R127, R135). -/
def clipNotices (old s : State) (o : OpNo) (z : ZoneNo) : List Notice :=
  if clipWrote old s z o then
    judgement s z o (clippedGrant (s.grant z o) (effBudget old z) (effBudget s z) (effRequest old z o) (effRequest s z o)) (effRequest s z o)
  else []

theorem clipWrote_congr {old s t : State} (bare : t.bare = s.bare) {z : ZoneNo} {o : OpNo} :
    clipWrote old t z o = clipWrote old s z o := by
  unfold clipWrote
  rw [effBudget_congr bare, effRequest_congr bare]

theorem clipNotices_congr {old s t : State} (bare : t.bare = s.bare) {o : OpNo} {z : ZoneNo} (short : t.isShort z o = s.isShort z o)
    (grant : t.grant z o = s.grant z o) : clipNotices old t o z = clipNotices old s o z := by
  unfold clipNotices
  rw [clipWrote_congr bare, effBudget_congr bare, effRequest_congr bare, grant, judgement_congr bare short]

/-- The judgement of the lanes of zone z whose grant the clips wrote, in operator order (R127). -/
def judgeClipped (old s : State) (z : ZoneNo) (t : State) (o : OpNo) : State :=
  if clipWrote old s z o then judgeShort t z o (effRequest s z o) else t

theorem inputChange_eq (old s : State) (z : ZoneNo) :
    inputChange old s z = enqueue (allOps.foldl (judgeClipped old s z) (clipZone old s z)) z := rfl

theorem judgeClipped_other (old s t : State) {z y : ZoneNo} {o p : OpNo} (other : p ≠ o) :
    (judgeClipped old s z t o).noticeQueue (.op p) = t.noticeQueue (.op p) ∧ (judgeClipped old s z t o).isShort y p = t.isShort y p := by
  unfold judgeClipped
  split
  · exact ⟨judgeShort_noticeQueue_ne _ _ _ other, judgeShort_isShort_of_ne _ _ (.inr other)⟩
  · exact ⟨rfl, rfl⟩

theorem judgeClipped_grant (old s t : State) (z y : ZoneNo) (o p : OpNo) : (judgeClipped old s z t o).grant y p = t.grant y p := by
  unfold judgeClipped
  split
  · exact judgeShort_grant ..
  · rfl

theorem judgeClipped_bare (old s t : State) (z : ZoneNo) (o : OpNo) : (judgeClipped old s z t o).bare = t.bare := by
  unfold judgeClipped
  split
  · exact judgeShort_bare ..
  · rfl

/-- The judgements of other operators leave a lane. -/
theorem foldl_judgeClipped_others (old s : State) {z y : ZoneNo} {p : OpNo} {l : List OpNo} (absent : p ∉ l) (t : State) :
    (l.foldl (judgeClipped old s z) t).noticeQueue (.op p) = t.noticeQueue (.op p) ∧
      (l.foldl (judgeClipped old s z) t).isShort y p = t.isShort y p := by
  induction l generalizing t with
  | nil => exact ⟨rfl, rfl⟩
  | cons o l ih =>
    obtain ⟨other, tail⟩ := not_or.mp (mt List.mem_cons.mpr absent)
    obtain ⟨queue, short⟩ := ih tail (judgeClipped old s z t o)
    obtain ⟨queueHead, shortHead⟩ := judgeClipped_other (y := y) old s t (z := z) other
    exact ⟨queue.trans queueHead, short.trans shortHead⟩

/-- The judgements of a zone's lanes file an operator the notices of its own lane. -/
theorem foldl_judgeClipped_noticeQueue (old s : State) (z : ZoneNo) {p : OpNo} {l : List OpNo} (once : l.Nodup) (present : p ∈ l)
    (t : State) : (l.foldl (judgeClipped old s z) t).noticeQueue (.op p) =
      (if clipWrote old s z p then judgement t z p (t.grant z p) (effRequest s z p) else []).foldl appendNotice
        (t.noticeQueue (.op p)) := by
  induction l generalizing t with
  | nil => cases present
  | cons o l ih =>
    obtain ⟨fresh, once⟩ := List.nodup_cons.mp once
    rw [List.foldl_cons]
    by_cases same : p = o
    · subst same
      rw [(foldl_judgeClipped_others (y := z) old s fresh _).1]
      unfold judgeClipped
      split
      · exact judgeShort_noticeQueue ..
      · rfl
    · obtain ⟨queue, short⟩ := judgeClipped_other (y := z) old s t (z := z) same
      rw [ih once ((List.mem_cons.mp present).resolve_left same), queue, judgeClipped_grant,
        judgement_congr (judgeClipped_bare ..) short]

theorem inputChange_noticeQueue (old s : State) (z : ZoneNo) (o : OpNo) :
    (inputChange old s z).noticeQueue (.op o) = (clipNotices old s o z).foldl appendNotice (s.noticeQueue (.op o)) := by
  have once : allOps.Nodup := List.nodup_finRange 4
  rw [inputChange_eq]
  refine (enqueue_keeps (State.noticeQueue · (.op o)) (fun _ _ => rfl) ..).trans ?_
  rw [foldl_judgeClipped_noticeQueue old s z once (List.mem_finRange o)]
  have clipped : (clipZone old s z).grant z o =
      clippedGrant (s.grant z o) (effBudget old z) (effBudget s z) (effRequest old z o) (effRequest s z o) := by
    simp [clipZone, setGrants, State.grant, laneGet, vec4]
  rw [clipped]
  rfl

theorem inputChange_isShort_ne (old s : State) {z y : ZoneNo} (o : OpNo) (other : y ≠ z) :
    (inputChange old s z).isShort y o = s.isShort y o := by
  rw [inputChange_eq]
  refine (enqueue_keeps (State.isShort · y o) (fun _ _ => rfl) ..).trans
    ((foldl_keeps (State.isShort · y o) _ (fun t p => ?_) allOps _).trans rfl)
  unfold judgeClipped
  split
  · exact judgeShort_isShort_of_ne _ _ (.inl other)
  · rfl

theorem inputChange_isShort_of_unclipped (old s : State) (z y : ZoneNo) {o : OpNo} (spared : clipWrote old s z o = false) :
    (inputChange old s z).isShort y o = s.isShort y o := by
  rw [inputChange_eq]
  refine (enqueue_keeps (State.isShort · y o) (fun _ _ => rfl) ..).trans
    ((foldl_keeps (State.isShort · y o) _ (fun t p => ?_) allOps _).trans rfl)
  by_cases same : o = p
  · subst same
    rw [judgeClipped, spared]
    rfl
  · exact (judgeClipped_other old s t same).2

/-! ## The clips of an event -/

theorem foldl_inputChange_noticeQueue (old : State) (o : OpNo) {l : List ZoneNo} (once : l.Nodup) (s : State) :
    (l.foldl (inputChange old) s).noticeQueue (.op o) = (l.flatMap (clipNotices old s o)).foldl appendNotice (s.noticeQueue (.op o)) := by
  induction l generalizing s with
  | nil => rfl
  | cons z l ih =>
    obtain ⟨fresh, once⟩ := List.nodup_cons.mp once
    have rest : l.flatMap (clipNotices old (inputChange old s z) o) = l.flatMap (clipNotices old s o) := by
      refine List.flatMap_congr fun y present => ?_
      have other : y ≠ z := fun same => fresh (same ▸ present)
      refine clipNotices_congr (inputChange_bare old s z) (inputChange_isShort_ne _ _ _ other) ?_
      rw [inputChange_grant, if_neg other]
    rw [List.foldl_cons, ih once, rest, inputChange_noticeQueue, List.flatMap_cons, List.foldl_append]

/-- The notices of an event's input changes, in zone order (R127, R136). -/
theorem inputChanges_noticeQueue (old s : State) (also : ZoneNo → Bool) (o : OpNo) :
    (inputChanges old s also).noticeQueue (.op o) =
      ((allZones.filter fun z => also z || carryChanged old s z).flatMap (clipNotices old s o)).foldl appendNotice
        (s.noticeQueue (.op o)) :=
  foldl_inputChange_noticeQueue old o ((List.nodup_finRange 64).filter _) s

theorem inputChanges_noticeQueue_vn (old s : State) (also : ZoneNo → Bool) :
    (inputChanges old s also).noticeQueue .vn = s.noticeQueue .vn :=
  foldl_keeps (State.noticeQueue · .vn) _ (inputChange_noticeQueue_vn old) _ s

/-- An operator none of whose lanes is clipped hears nothing, and its short flags stay. -/
theorem inputChanges_of_unclipped {old s : State} (also : ZoneNo → Bool) {o : OpNo} (spared : ∀ z, clipWrote old s z o = false) :
    (inputChanges old s also).noticeQueue (.op o) = s.noticeQueue (.op o) ∧
      ∀ z, (inputChanges old s also).isShort z o = s.isShort z o := by
  have silent : clipNotices old s o = fun _ => [] := funext fun z => by rw [clipNotices, spared z]; rfl
  refine ⟨?_, fun z => ?_⟩
  · rw [inputChanges_noticeQueue, silent, List.flatMap_eq_nil_iff.mpr fun _ _ => rfl]
    rfl
  · have kept (l : List ZoneNo) (t : State) (bare : t.bare = s.bare) : (l.foldl (inputChange old) t).isShort z o = t.isShort z o := by
      induction l generalizing t with
      | nil => rfl
      | cons y l ih =>
        rw [List.foldl_cons, ih _ ((inputChange_bare ..).trans bare)]
        refine inputChange_isShort_of_unclipped _ _ _ _ ?_
        rw [clipWrote_congr bare]
        exact spared y
    exact kept _ s rfl

end Sys2Proof.Machine
end

section
/-! What a request on an operator's port reaches: O54. -/

namespace Sys2Proof.Machine

open Sys2Proof

/-! ## The lanes of other operators -/

theorem effBudget_setOper_withSpread (s : State) (o : OpNo) (r : OpRec) (v : Vector SpreadRec 4) (z : ZoneNo) :
    effBudget ((s.setOper o r).withSpread v) z = effBudget s z := rfl

/-- A write of one operator's record leaves the requests of the other operators' lanes. -/
theorem effRequest_operator_ne (s : State) {o q : OpNo} (r : OpRec) (v : Vector SpreadRec 4) (z : ZoneNo) (other : q ≠ o) :
    effRequest ((s.setOper o r).withSpread v) z q = effRequest s z q :=
  (effRequest_of_snapshot (snapshot_withSpread ..) q).trans (effRequest_setOper_ne s r other z)

/-- The event of one operator's record clips no lane of another. -/
theorem clipWrote_of_operator {s u : State} {o q : OpNo} {r : OpRec} {v : Vector SpreadRec 4}
    (bare : u.bare = ((s.setOper o r).withSpread v).bare) (other : q ≠ o) (z : ZoneNo) : clipWrote s u z q = false := by
  rw [clipWrote_congr bare, clipWrote, effBudget_setOper_withSpread, effRequest_operator_ne _ _ _ _ other]
  simp

/-! ## Reach -/

/-- The state s with the fields of t in which an operator's own fields lie. -/
def State.owned (s t : State) : State :=
  { s with zones := t.zones, latchPending := t.latchPending, ops := t.ops, spread := t.spread, settle := t.settle }

/-- What a request on the port of operator o may reach (R174). -/
structure Reaches (o : OpNo) (s t : State) : Prop where
  bare : t.bare = (s.owned t).bare
  zone : ∀ z, t.zone z = { s.zone z with working := (t.zone z).working }
  records : ∀ q, q ≠ o → t.oper q = s.oper q ∧ t.spreadRec q = s.spreadRec q ∧ t.noticeQueue (.op q) = s.noticeQueue (.op q)
  lanes : ∀ q, q ≠ o → ∀ z, t.working z q = s.working z q ∧ t.settleCount z q = s.settleCount z q ∧
    t.grant z q = s.grant z q ∧ t.isShort z q = s.isShort z q

/-- A request that leaves every block's state and the clips' reaches nothing. -/
theorem Reaches.of_quiet {o : OpNo} {s t : State} (bare : t.bare = s.bare) (grants : t.grants = s.grants) (short : t.short = s.short)
    (queues : ∀ q, q ≠ o → t.noticeQueue (.op q) = s.noticeQueue (.op q)) : Reaches o s t where
  bare := by
    rw [bare, State.owned, State.congr_bare State.zones bare (fun _ => rfl), State.congr_bare State.latchPending bare (fun _ => rfl), State.congr_bare State.ops bare (fun _ => rfl),
      State.congr_bare State.spread bare (fun _ => rfl), State.congr_bare State.settle bare (fun _ => rfl)]
  zone z := by rw [State.congr_bare (·.zone z) bare (fun _ => rfl)]
  records q other := ⟨State.congr_bare (·.oper q) bare (fun _ => rfl), State.congr_bare (·.spreadRec q) bare (fun _ => rfl), queues q other⟩
  lanes q other z := ⟨State.congr_bare (·.working z q) bare (fun _ => rfl), State.congr_bare (·.settleCount z q) bare (fun _ => rfl),
    by simp only [State.grant, grants], by simp only [State.isShort, short]⟩

theorem owned_withSpread (s : State) (o : OpNo) (r : OpRec) (v : Vector SpreadRec 4) :
    s.owned ((s.setOper o r).withSpread v) = (s.setOper o r).withSpread v := rfl

theorem owned_congr {s t u : State} (bare : t.bare = u.bare) : s.owned t = s.owned u := by
  rw [State.owned, State.congr_bare State.zones bare (fun _ => rfl), State.congr_bare State.latchPending bare (fun _ => rfl), State.congr_bare State.ops bare (fun _ => rfl),
    State.congr_bare State.spread bare (fun _ => rfl), State.congr_bare State.settle bare (fun _ => rfl)]
  rfl

/-- The write of the operator's own record and of its own spreading state. -/
theorem Reaches.of_operator {o : OpNo} {s t : State} {r : OpRec} {v : Vector SpreadRec 4}
    (bare : t.bare = ((s.setOper o r).withSpread v).bare) (spread : ∀ q : OpNo, q ≠ o → v[q] = s.spreadRec q)
    (queues : ∀ q, q ≠ o → t.noticeQueue (.op q) = s.noticeQueue (.op q))
    (power : ∀ q, q ≠ o → ∀ z, t.grant z q = s.grant z q ∧ t.isShort z q = s.isShort z q) : Reaches o s t where
  bare := by rw [owned_congr bare, owned_withSpread, bare]
  zone z := by rw [show t.zone z = s.zone z from (State.congr_bare (·.zone z) bare (fun _ => rfl)).trans rfl]
  records q other := by
    have oper : t.oper q = (s.setOper o r).oper q := (State.congr_bare (·.oper q) bare (fun _ => rfl)).trans rfl
    have record : t.spreadRec q = v[q] := (State.congr_bare (·.spreadRec q) bare (fun _ => rfl)).trans rfl
    exact ⟨oper.trans (State.setOper_oper_ne s r other), record.trans (spread q other), queues q other⟩
  lanes q other z := ⟨(State.congr_bare (·.working z q) bare (fun _ => rfl)).trans rfl, (State.congr_bare (·.settleCount z q) bare (fun _ => rfl)).trans rfl,
    power q other z⟩

/-- The event of the operator's own record with its input changes. -/
theorem Reaches.of_inputChanges {o : OpNo} {s u : State} {r : OpRec} {v : Vector SpreadRec 4} {also : ZoneNo → Bool}
    (bare : u.bare = ((s.setOper o r).withSpread v).bare) (spread : ∀ q : OpNo, q ≠ o → v[q] = s.spreadRec q)
    (queues : ∀ q, q ≠ o → u.noticeQueue (.op q) = s.noticeQueue (.op q)) (short : u.short = s.short)
    (clips : Clips s (inputChanges s u also)) : Reaches o s (inputChanges s u also) := by
  have after : (inputChanges s u also).bare = ((s.setOper o r).withSpread v).bare := (inputChanges_bare ..).trans bare
  refine .of_operator after spread (fun q other => ?_) fun q other z => ⟨?_, ?_⟩
  · exact (inputChanges_of_unclipped also (clipWrote_of_operator bare other)).1.trans (queues q other)
  · refine clips.grant_of_same ((effBudget_congr after z).trans (effBudget_setOper_withSpread ..)) ?_
    rw [effRequest_congr after, effRequest_operator_ne _ _ _ _ other]
  · refine ((inputChanges_of_unclipped also (clipWrote_of_operator bare other)).2 z).trans ?_
    simp only [State.isShort, short]

/-- The owner's answer and the end of the event reach the port and the engine alone. -/
theorem Reaches.served {o : OpNo} {s u : State} (h : Reaches o s u) (p : Port) (rep : Reply) :
    Reaches o s (answer (endEvent s u) p rep) := by
  have bare : (answer (endEvent s u) p rep).bare = u.bare := served_bare ..
  refine ⟨?_, fun z => ?_, fun q other => ?_, fun q other z => ?_⟩
  · rw [owned_congr bare, bare, h.bare]
  · have zone : (answer (endEvent s u) p rep).zone z = u.zone z := State.congr_bare (·.zone z) bare (fun _ => rfl)
    rw [zone]
    exact h.zone z
  · obtain ⟨oper, record, queue⟩ := h.records q other
    exact ⟨(State.congr_bare (·.oper q) bare (fun _ => rfl)).trans oper, (State.congr_bare (·.spreadRec q) bare (fun _ => rfl)).trans record,
      (served_noticeQueue ..).trans queue⟩
  · obtain ⟨working, settle, grant, short⟩ := h.lanes q other z
    refine ⟨(State.congr_bare (·.working z q) bare (fun _ => rfl)).trans working, (State.congr_bare (·.settleCount z q) bare (fun _ => rfl)).trans settle,
      (served_grant ..).trans grant, ?_⟩
    rw [State.isShort, show (answer (endEvent s u) p rep).short = u.short from served_short ..]
    exact short

/-! ## The moves of an operator's port -/

theorem closedWhere_own_ne (s : State) (o : OpNo) (test : Proposal → Bool) {q : OpNo} (other : q ≠ o) :
    (closedWhere s fun x p => decide (x = o) && test p)[q] = s.spreadRec q := by
  rw [closedWhere_getElem]
  cases (s.spreadRec q).proposal <;> simp [other]

/-- A withdrawal of an operator tells that operator and VN alone (R116). -/
theorem withdrawIf_noticeQueue_ne (s : State) {o q : OpNo} (test : Proposal → Bool) (why : WithdrawCause) (other : q ≠ o) :
    (withdrawIf s o test why).noticeQueue (.op q) = s.noticeQueue (.op q) := by
  unfold withdrawIf
  split
  · rfl
  · split
    · unfold withdraw
      split
      · rfl
      · exact file_noticeQueue_of_notMem _ _ (by simpa using other)
    · rfl

theorem storeEnable_reaches (s : State) (o : OpNo) (sec : SectorNo) (on : Bool) : Reaches o s (storeEnable s o sec on) := by
  have clips := storeEnable_clips s o sec on
  unfold storeEnable at *
  dsimp only at *
  split
  · exact .of_quiet rfl rfl rfl fun _ _ => rfl
  · next new =>
    rw [if_neg new] at clips
    refine .of_inputChanges (storeEnable_start_bare s o sec on) (fun q other => ?_) (fun q other => ?_) ?_ clips
    · cases on with
      | true => rfl
      | false => exact closedWhere_own_ne s o _ other
    · split
      · rfl
      · exact withdrawIf_noticeQueue_ne _ _ _ other
    · split
      · rfl
      · exact withdrawIf_keeps State.short (fun _ _ => rfl) (fun _ _ => rfl) ..

theorem storePower_reaches (s : State) (o : OpNo) (sec : SectorNo) (n : Nat) : Reaches o s (storePower s o sec n) := by
  have clips := storePower_clips s o sec n
  unfold storePower at *
  split
  · exact .of_quiet rfl rfl rfl fun _ _ => rfl
  · next new =>
    rw [if_neg new] at clips
    exact .of_inputChanges (v := s.spread) rfl (fun _ _ => rfl) (fun _ _ => rfl) rfl clips

theorem changePolicy_noticeQueue_ne (s : State) {o q : OpNo} (m : Policy) (other : q ≠ o) :
    (changePolicy s o m).noticeQueue (.op q) = s.noticeQueue (.op q) := by
  unfold changePolicy
  rw [withdraw_eq_withdrawIf]
  exact withdrawIf_noticeQueue_ne (s.setOper o { s.oper o with policy := m }) _ _ other

theorem changePolicy_reaches (s : State) (o : OpNo) (m : Policy) : Reaches o s (changePolicy s o m) := by
  have grants : (changePolicy s o m).grants = s.grants := by apply changePolicy_keeps State.grants <;> intros <;> rfl
  have short : (changePolicy s o m).short = s.short := by apply changePolicy_keeps State.short <;> intros <;> rfl
  refine .of_operator ((congrArg State.bare (changePolicy_eq s o m)).trans rfl) (fun q other => ?_)
    (fun q other => changePolicy_noticeQueue_ne s m other) fun q other z => ⟨?_, ?_⟩
  · exact Vector.getElem_set_ne _ _ (Fin.val_ne_of_ne (Ne.symm other))
  · simp only [State.grant, grants]
  · simp only [State.isShort, short]

/-- The answer to a proposal writes one lane of the operator, closes the proposal and tells VN. -/
theorem Reaches.of_answered {o : OpNo} {s u : State} (p : Proposal) (n : Notice) (owned : (closeProposal u o p).bare = (s.owned (closeProposal u o p)).bare)
    (zone : ∀ z, u.zone z = { s.zone z with working := (u.zone z).working }) (spread : u.spread = s.spread) (ops : u.ops = s.ops)
    (notices : u.notices = s.notices) (grants : u.grants = s.grants) (short : u.short = s.short)
    (lanes : ∀ q, q ≠ o → ∀ z, u.working z q = s.working z q ∧ u.settleCount z q = s.settleCount z q) :
    Reaches o s (file (closeProposal u o p) [.vn] n) := by
  have bare : (file (closeProposal u o p) [.vn] n).bare = (closeProposal u o p).bare := file_bare ..
  have power := file_keeps (fun x : State => (x.grants, x.short)) (fun _ _ => rfl) (closeProposal u o p) [.vn] n
  refine ⟨?_, fun z => ?_, fun q other => ⟨?_, ?_, ?_⟩, fun q other z => ⟨?_, ?_, ?_, ?_⟩⟩
  · rw [owned_congr bare, bare, owned]
  · rw [show (file (closeProposal u o p) [.vn] n).zone z = u.zone z from (State.congr_bare (·.zone z) bare (fun _ => rfl)).trans rfl]
    exact zone z
  · exact (State.congr_bare (·.oper q) bare (fun _ => rfl)).trans (oper_of_ops (show (closeProposal u o p).ops = s.ops from ops) q)
  · refine (State.congr_bare (·.spreadRec q) bare (fun _ => rfl)).trans ((State.setSpread_spreadRec_ne u _ other).trans ?_)
    simp only [State.spreadRec, spread]
  · refine (file_noticeQueue_of_notMem _ _ (by simp)).trans ?_
    simp only [State.noticeQueue, show (closeProposal u o p).notices = s.notices from notices]
  · exact ((State.congr_bare (·.working z q) bare (fun _ => rfl)).trans rfl).trans (lanes q other z).1
  · exact ((State.congr_bare (·.settleCount z q) bare (fun _ => rfl)).trans rfl).trans (lanes q other z).2
  · exact congrArg (fun g : Vector (Vector Nat 4) 64 => laneGet g z q) ((congrArg Prod.fst power).trans grants)
  · exact congrArg (fun g : Vector (Vector Bool 4) 64 => laneGet g z q) ((congrArg Prod.snd power).trans short)

theorem workingWrite_zone (s : State) (z : ZoneNo) (o : OpNo) (b : Option SectorNo) :
    (workingWrite s z o b).zone z = { s.zone z with working := (s.zone z).working.set o b } := s.setZone_zone z _

theorem acceptProposal_reaches {s : State} (runs : s.transport ≠ .stopped) (o : OpNo) (p : Proposal) :
    Reaches o s (acceptProposal s o p) := by
  rw [acceptProposal_of_running runs]
  dsimp only
  obtain ⟨-, -, lanes, zones⟩ := workingWrite_working s p.zone o (some p.toSector)
  refine .of_answered p _ rfl (fun z => ?_) rfl rfl rfl rfl rfl fun q other z => ⟨?_, rfl⟩
  · by_cases here : z = p.zone
    · rw [here, workingWrite_zone]
    · rw [zones z here]
  · by_cases here : z = p.zone
    · rw [here]
      exact lanes q other
    · rw [State.working, zones z here]
      rfl

theorem declineProposal_reaches (s : State) (o : OpNo) (p : Proposal) : Reaches o s (declineProposal s o p) := by
  refine .of_answered p _ rfl (fun z => rfl) rfl rfl rfl rfl rfl fun q other z => ⟨rfl, ?_⟩
  rw [setSettle_settleCount_eq, if_neg fun h => other h.2]

/-- Settles O54: a request that passes the tests makes one of the moves of its operator's port, and each reaches its own
operator's fields alone. -/
theorem operatorPortReachesItsOwnOperator : Obligations.OperatorPortReachesItsOwnOperator := by
  intro r o payload s taken
  suffices reaches : ∃ t, exec (r.toInstr (.op o) payload) s = .next t ∧ Reaches o s t by
    obtain ⟨t, runs, h⟩ := reaches
    refine ⟨t, runs, eq_leaving_iff.mpr h.bare, h.zone, fun q other => ⟨h.records q other, h.lanes q other⟩⟩
  have quiet : Reaches o s s := .of_quiet rfl rfl rfl fun _ _ => rfl
  have answered (rep : Reply) : Reaches o s (answer s (.op o) rep) := .of_quiet rfl rfl rfl fun _ _ => rfl
  rw [exec_toInstr]
  refine ⟨_, rfl, ?_⟩
  by_cases frame : FrameIn s (.op o)
  case neg => rwa [serve_closed frame]
  case pos =>
    cases tests : testsBeforeOwner s (.op o) r payload.length with
    | some x =>
      rw [serve_refused frame tests]
      exact answered _
    | none =>
      rw [serve_taken frame tests]
      generalize ownerOf r (.op o) payload s = outcome, owner_outcome tests = h
      cases h with
      | refused x =>
        simp only [refuse, endEvent_self]
        exact answered _
      | @taken u rep moved accepted =>
        refine Reaches.served ?_ (.op o) rep
        cases moved with
        | stays => exact quiet
        | readNotices n => exact .of_quiet rfl rfl rfl fun q other => State.setNotices_noticeQueue_ne _ _ (by simpa using other)
        | preview z x n _ _ => exact .of_quiet rfl rfl rfl fun _ _ => rfl
        | venue port => cases port
        | tenant x port moved =>
          cases port
          cases moved with
          | enable sec on => exact storeEnable_reaches s o sec on
          | power sec n _ => exact storePower_reaches s o sec n
          | parameter x _ _ =>
            exact .of_operator (v := s.spread) rfl (fun _ _ => rfl) (fun _ _ => rfl) fun _ _ _ => ⟨rfl, rfl⟩
          | policy m => exact changePolicy_reaches s o m
          | accept p _ asked => exact acceptProposal_reaches (taken.resolve_left (absurd asked)) o p
          | decline p _ => exact declineProposal_reaches s o p

end Sys2Proof.Machine
end

section
/-! Events of one operator's record: what the clips leave its lanes and tell it. O24, O26 and O35. -/

namespace Sys2Proof.Machine

open Sys2Proof

theorem portNumber_portOf (n : Fin 5) : portNumber (portOf n) = n := by
  revert n
  decide

theorem notices_ext {t u : State} (h : ∀ p, t.noticeQueue p = u.noticeQueue p) : t.notices = u.notices := by
  refine Vector.ext fun i hi => ?_
  have queue := h (portOf ⟨i, hi⟩)
  simp only [State.noticeQueue, portNumber_portOf] at queue
  exact queue

theorem short_ext {t u : State} (h : ∀ z o, t.isShort z o = u.isShort z o) : t.short = u.short := by
  refine Vector.ext fun i hi => Vector.ext fun j hj => ?_
  exact h ⟨i, hi⟩ ⟨j, hj⟩

/-! ## The event before its input changes -/

/-- An event took s to u as far as the record r of operator o and the spreading states v go. -/
structure OperatorEvent (s : State) (o : OpNo) (r : OpRec) (v : Vector SpreadRec 4) (u : State) : Prop where
  bare : u.bare = ((s.setOper o r).withSpread v).bare
  power : SamePower u s
  short : u.short = s.short

namespace OperatorEvent

variable {s u : State} {o : OpNo} {r : OpRec} {v : Vector SpreadRec 4}

theorem budget (event : OperatorEvent s o r v u) (z : ZoneNo) : effBudget u z = effBudget s z :=
  (effBudget_congr event.bare z).trans (effBudget_setOper_withSpread ..)

theorem request_ne (event : OperatorEvent s o r v u) (z : ZoneNo) {q : OpNo} (other : q ≠ o) : effRequest u z q = effRequest s z q :=
  (effRequest_congr event.bare z q).trans (effRequest_operator_ne _ _ _ _ other)

theorem carrying_eq (event : OperatorEvent s o r v u) (z : ZoneNo) (q : OpNo) : carrying u z q = carrying (s.setOper o r) z q :=
  (carrying_congr event.bare z q).trans rfl

theorem request_eq (event : OperatorEvent s o r v u) (z : ZoneNo) (q : OpNo) : effRequest u z q = effRequest (s.setOper o r) z q :=
  (effRequest_congr event.bare z q).trans (effRequest_of_snapshot (snapshot_withSpread ..) q)

theorem tenancy (event : OperatorEvent s o r v u) : (u.oper o).tenancy = r.tenancy := by
  have own : u.oper o = (s.setOper o r).oper o := (State.congr_bare (·.oper o) event.bare (fun _ => rfl)).trans rfl
  rw [own, State.setOper_oper]

/-- The notices of the clip of the operator's own lane, where the lanes that a test names stop carrying and no other asks less. -/
theorem clipNotices (event : OperatorEvent s o r v u) (present : r.tenancy ≠ .absent) {test : ZoneNo → Bool} {z : ZoneNo}
    (idle : test z = true → carrying u z o = false) (kept : test z = false → effRequest s z o ≤ effRequest u z o) :
    clipNotices s u o z = if test z && (s.isShort z o && decide (0 < effRequest s z o)) then
      [{ kind := .grantFull, stamp := s.stamp, zone := some z, operator := some o, fromSector := none, toSector := none,
         alarmClass := none, proposalId := none, value := some 0 }] else [] := by
  have short : u.isShort z o = s.isShort z o := by simp only [State.isShort, event.short]
  have stamp : u.stamp = s.stamp := (State.congr_bare State.stamp event.bare (fun _ => rfl)).trans rfl
  unfold Machine.clipNotices
  rw [clipWrote, event.budget]
  cases named : test z with
  | false => simp [Nat.not_lt.mpr (kept named)]
  | true =>
    have asks : effRequest u z o = 0 := effRequest_of_idle (idle named)
    rw [asks]
    by_cases asked : 0 < effRequest s z o
    · have cut : clippedGrant (u.grant z o) (effBudget s z) (effBudget s z) (effRequest s z o) 0 = 0 := by
        simp [clippedGrant, asked]
      rw [cut, judgement, event.tenancy, if_neg present, short]
      simp [asked, notice, stamp]
    · simp [asked]

end OperatorEvent

/-- A list of at most one notice for each zone that a test names. -/
theorem flatMap_filter_eq_map {α β : Type} (l : List α) (also test : α → Bool) (f : α → β) (covered : ∀ a, test a = true → also a = true) :
    ((l.filter also).flatMap fun a => if test a then [f a] else []) = (l.filter test).map f := by
  induction l with
  | nil => rfl
  | cons a l ih =>
    by_cases named : test a = true
    · rw [List.filter_cons_of_pos (covered a named), List.filter_cons_of_pos named, List.flatMap_cons, List.map_cons, ih, if_pos named]
      rfl
    · rw [List.filter_cons_of_neg named]
      by_cases more : also a = true
      · rw [List.filter_cons_of_pos more, List.flatMap_cons, ih, if_neg named]
        rfl
      · rw [List.filter_cons_of_neg more, ih]

/-- A lane that starts or stops carrying has its zone queued (R20). -/
theorem inputChanges_queued {s u : State} (also : ZoneNo → Bool) {z : ZoneNo} {q : OpNo}
    (changed : carrying s z q ≠ carrying u z q) : z ∈ (inputChanges s u also).realloc :=
  mem_inputChanges.mpr (.inl (.inr ⟨q, changed⟩))

/-- A lane that carries no more has no grant where the grants kept Law 2. -/
theorem inputChanges_grant_idle {s u : State} {also : ZoneNo → Bool} (clips : Clips s (inputChanges s u also)) (law : RequestLaw s)
    {z : ZoneNo} {q : OpNo} (idle : carrying u z q = false) : (inputChanges s u also).grant z q = 0 :=
  clips.grant_of_idle law ((carrying_congr (inputChanges_bare ..) z q).trans idle)

namespace OperatorEvent

variable {s u : State} {o : OpNo} {r : OpRec} {v : Vector SpreadRec 4}

/-- The lanes that stop carrying bring their operator a GRANT_FULL for each short one, in zone order (R136). -/
theorem noticeQueue_own (event : OperatorEvent s o r v u) (present : r.tenancy ≠ .absent) {test : ZoneNo → Bool}
    (idle : ∀ z, test z = true → carrying u z o = false) (kept : ∀ z, test z = false → effRequest s z o ≤ effRequest u z o)
    (also : ZoneNo → Bool) :
    (inputChanges s u also).noticeQueue (.op o) = (fullNotices s o test).foldl appendNotice (u.noticeQueue (.op o)) := by
  have each : Machine.clipNotices s u o = fun z => _ := funext fun z => event.clipNotices present (idle z) (kept z)
  rw [inputChanges_noticeQueue, each, flatMap_filter_eq_map _ _ _ _ fun z full => ?_]
  · rfl
  · rw [Bool.and_eq_true, Bool.and_eq_true, decide_eq_true_eq] at full
    obtain ⟨named, -, asks⟩ := full
    have carries : carrying s z o = true := by
      rw [← Bool.not_eq_false]
      exact fun h => absurd (effRequest_of_idle h) asks.ne'
    have changed : carryChanged s u z = true := List.any_eq_true.mpr ⟨o, List.mem_finRange o, by rw [carries, idle z named]; rfl⟩
    rw [changed, Bool.or_true]

/-- The lanes of other operators keep their grants. -/
theorem grant_ne (event : OperatorEvent s o r v u) {also : ZoneNo → Bool} (clips : Clips s (inputChanges s u also)) (z : ZoneNo)
    {q : OpNo} (other : q ≠ o) : (inputChanges s u also).grant z q = s.grant z q := by
  refine clips.grant_of_same ((effBudget_congr (inputChanges_bare ..) z).trans (event.budget z)) ?_
  rw [effRequest_congr (inputChanges_bare ..), event.request_ne z other]

/-- A lane that asks no less keeps its grant. -/
theorem grant_own (event : OperatorEvent s o r v u) {also : ZoneNo → Bool} (clips : Clips s (inputChanges s u also)) {z : ZoneNo}
    (more : effRequest s z o ≤ effRequest u z o) : (inputChanges s u also).grant z o = s.grant z o := by
  refine clips.grant_of_same ((effBudget_congr (inputChanges_bare ..) z).trans (event.budget z)) ?_
  rwa [effRequest_congr (inputChanges_bare ..)]

theorem unclipped_ne (event : OperatorEvent s o r v u) {q : OpNo} (other : q ≠ o) (z : ZoneNo) : clipWrote s u z q = false :=
  clipWrote_of_operator event.bare other z

theorem noticeQueue_ne (event : OperatorEvent s o r v u) (also : ZoneNo → Bool) {q : OpNo} (other : q ≠ o) :
    (inputChanges s u also).noticeQueue (.op q) = u.noticeQueue (.op q) :=
  (inputChanges_of_unclipped also (event.unclipped_ne other)).1

end OperatorEvent

/-! ## The notices before the clips -/

theorem file_noticeQueue_both (s : State) (o : OpNo) (n : Notice) {p : Port} (named : p = .vn ∨ p = .op o) :
    (file s [.op o, .vn] n).noticeQueue p = appendNotice (s.noticeQueue p) n := by
  refine file_noticeQueue_of_mem s n (by simp) ?_
  rcases named with rfl | rfl <;> simp

theorem file_noticeQueue_both_ne (s : State) {o q : OpNo} (n : Notice) (other : q ≠ o) :
    (file s [.op o, .vn] n).noticeQueue (.op q) = s.noticeQueue (.op q) := file_noticeQueue_of_notMem s n (by simpa using other)

/-- The notice of a new tenancy state. -/
def tenancyNotice (s : State) (o : OpNo) (code : Nat) : Notice :=
  { kind := .tenancyChanged, stamp := s.stamp, zone := none, operator := some o, fromSector := none, toSector := none,
    alarmClass := none, proposalId := none, value := some code }

theorem fileTenancy_setTenancy (s : State) (o : OpNo) (x : Tenancy) :
    fileTenancy (setTenancy s o x) o = file (setTenancy s o x) [.op o, .vn] (tenancyNotice s o x.code) := by
  have code : ((setTenancy s o x).oper o).tenancy = x := by rw [setTenancy_eq, State.setOper_oper]
  unfold fileTenancy
  rw [code]
  rfl

/-- A withdrawal appends its notice for the operator and for VN, where there is a proposal that the test names (R116). -/
theorem withdrawIf_noticeQueue (s : State) (o : OpNo) (test : Proposal → Bool) (why : WithdrawCause) {p : Port} (named : p = .vn ∨ p = .op o) :
    (withdrawIf s o test why).noticeQueue p = (match (s.spreadRec o).proposal with
      | none => s.noticeQueue p
      | some x => if test x then appendNotice (s.noticeQueue p) (proposalNotice s .proposalWithdrawn o x why.code)
        else s.noticeQueue p) := by
  unfold withdrawIf
  cases proposal : (s.spreadRec o).proposal with
  | none => rfl
  | some x =>
    dsimp only
    split
    · simp only [withdraw, proposal]
      exact file_noticeQueue_both _ _ _ named
    · rfl

/-! ## ADMIT and SUSPEND (R8, R9) -/

theorem admission_event (s : State) (o : OpNo) : OperatorEvent s o { s.oper o with tenancy := .active } s.spread
    (fileTenancy (setTenancy s o .active) o) where
  bare := admission_start_bare s o
  power := (fileTenancy_power ..).trans (setTenancy_power ..)
  short := fileTenancy_keeps State.short (fun _ _ => rfl) ..

theorem suspension_event (s : State) (o : OpNo) : OperatorEvent s o { s.oper o with tenancy := .suspended }
    (closedWhere s fun q _ => decide (q = o)) (withdraw (fileTenancy (setTenancy s o .suspended) o) o .tenancy) where
  bare := suspension_start_bare s o
  power := (withdraw_power ..).trans ((fileTenancy_power ..).trans (setTenancy_power ..))
  short := (withdraw_keeps State.short (fun _ _ => rfl) (fun _ _ => rfl) ..).trans (fileTenancy_keeps State.short (fun _ _ => rfl) ..)

/-- The lanes of an operator that is not ACTIVE ask for nothing. -/
theorem effRequest_of_untenanted {s : State} {z : ZoneNo} {o : OpNo} (h : (s.oper o).tenancy ≠ .active) : effRequest s z o = 0 :=
  effRequest_of_idle (carrying_of_untenanted h)

theorem admission_unclipped {s : State} {o : OpNo} (other : (s.oper o).tenancy ≠ .active) (z : ZoneNo) (q : OpNo) :
    clipWrote s (fileTenancy (setTenancy s o .active) o) z q = false := by
  by_cases same : q = o
  · subst same
    rw [clipWrote, (admission_event s q).budget, effRequest_of_untenanted other]
    simp
  · exact (admission_event s o).unclipped_ne same z

theorem ownAdmit_u8 (s : State) (o : OpNo) :
    ownAdmit (u8 o.val) s = if (s.oper o).tenancy = .active then refuse s .badState else (admission s o, replyOf .ok) := by
  simp only [ownAdmit, namedOp, u8, numBelow_operator]

theorem ownSuspend_u8 (s : State) (o : OpNo) :
    ownSuspend (u8 o.val) s = if (s.oper o).tenancy = .active then (suspension s o, replyOf .ok) else refuse s .badState := by
  simp only [ownSuspend, namedOp, u8, numBelow_operator]

/-- Settles O24: each request is one operator's event, and its clips reach the lanes of that operator alone. -/
theorem tenancyAdmittedAndSuspended : Obligations.TenancyAdmittedAndSuspended := by
  intro s o frame told withdrawn
  have admits := ownAdmit_u8 s o
  have suspends := ownSuspend_u8 s o
  refine ⟨fun tenant => ?_, fun other => ?_, fun other => ?admission, fun tenant => ?suspension⟩
  · exact exec_vn_of_owner_only_replies (r := .admitOperator) (payload := u8 o.val) frame rfl rfl (admits.trans (if_pos tenant))
  · exact exec_vn_of_owner_only_replies (r := .suspendOperator) (payload := u8 o.val) frame rfl rfl (suspends.trans (if_neg other))
  case admission =>
    have event := admission_event s o
    have clips := admission_clips s o
    have unclipped := admission_unclipped other
    have ports : (admission s o).ports = s.ports := by apply admission_keeps State.ports <;> intros <;> rfl
    refine ⟨_, exec_vn_served (r := .admitOperator) (payload := u8 o.val) frame rfl rfl (admits.trans (if_neg other)),
      served_answers ports, served_leaving (admission_bare s o), served_grants.trans (grants_ext fun z q => ?_),
      served_short.trans (short_ext fun z q => ?_), served_notices.trans (notices_ext fun p => ?_), fun z carries => served_awaits ?_⟩
    · by_cases same : q = o
      · subst same
        exact event.grant_own clips (by rw [effRequest_of_untenanted other]; exact Nat.zero_le _)
      · exact event.grant_ne clips z same
    · refine ((inputChanges_of_unclipped _ (unclipped · q)).2 z).trans ?_
      simp only [State.isShort, event.short]
    · have filed : (fileTenancy (setTenancy s o .active) o).noticeQueue p = (file s [.op o, .vn] (told 1)).noticeQueue p := by
        rw [fileTenancy_setTenancy]
        rfl
      refine Eq.trans ?_ filed
      cases p with
      | vn => exact inputChanges_noticeQueue_vn ..
      | op q => exact (inputChanges_of_unclipped _ (unclipped · q)).1
    · have starts : carrying (fileTenancy (setTenancy s o .active) o) z o = true := by
        have after : carrying (served s (admission s o) .vn (replyOf .ok)) z o = carrying (fileTenancy (setTenancy s o .active) o) z o :=
          carrying_congr (served_bare.trans (inputChanges_bare ..)) z o
        rwa [after] at carries
      exact inputChanges_queued _ (by rw [starts, carrying_of_untenanted other]; exact Bool.false_ne_true)
  case suspension =>
    have event := suspension_event s o
    have clips := suspension_clips s o
    have stops (z : ZoneNo) : carrying (withdraw (fileTenancy (setTenancy s o .suspended) o) o .tenancy) z o = false :=
      carrying_of_untenanted (by rw [event.tenancy]; exact Tenancy.noConfusion)
    have ports : (suspension s o).ports = s.ports := by apply suspension_keeps State.ports <;> intros <;> rfl
    have start {p : Port} (named : p = .vn ∨ p = .op o) :
        (withdraw (fileTenancy (setTenancy s o .suspended) o) o .tenancy).noticeQueue p = withdrawn (s.noticeQueue p) := by
      rw [withdraw_eq_withdrawIf, withdrawIf_noticeQueue _ _ _ _ named, fileTenancy_setTenancy, file_noticeQueue_both _ _ _ named]
      have record : (file (setTenancy s o .suspended) [.op o, .vn] (tenancyNotice s o Tenancy.suspended.code)).spreadRec o = s.spreadRec o :=
        file_spreadRec ..
      have stamp : (file (setTenancy s o .suspended) [.op o, .vn] (tenancyNotice s o Tenancy.suspended.code)).stamp = s.stamp :=
        file_keeps State.stamp (fun _ _ => rfl) ..
      dsimp only [withdrawn]
      rw [record]
      cases (s.spreadRec o).proposal with
      | none => rfl
      | some x =>
        dsimp only
        rw [if_pos rfl, proposalNotice, notice, stamp]
        rfl
    refine ⟨_, exec_vn_served (r := .suspendOperator) (payload := u8 o.val) frame rfl rfl (suspends.trans (if_pos tenant)),
      served_answers ports, served_leaving (suspension_bare s o), ?_, ?_, fun q other => ?_, fun z => ⟨fun carries => served_awaits ?_, fun law => ?_,
        fun q other => ?_⟩⟩
    · exact (served_noticeQueue ..).trans ((inputChanges_noticeQueue_vn ..).trans (start (.inl rfl)))
    · refine (served_noticeQueue ..).trans ((event.noticeQueue_own (test := fun _ => true) nofun (fun z _ => stops z) nofun _).trans ?_)
      rw [start (.inr rfl)]
    · refine (served_noticeQueue ..).trans ((event.noticeQueue_ne _ other).trans ?_)
      rw [withdraw_eq_withdrawIf, withdrawIf_noticeQueue_ne _ _ _ other, fileTenancy_setTenancy, file_noticeQueue_both_ne _ _ other]
      rfl
    · exact inputChanges_queued _ (by rw [stops, carries]; exact Bool.noConfusion)
    · exact (served_grant ..).trans (inputChanges_grant_idle clips law (stops z))
    · exact (served_grant ..).trans (event.grant_ne clips z other)

end Sys2Proof.Machine
end

section
/-! Sector tables and stream presence (R11, R12, R41): O26 and O35. -/

namespace Sys2Proof.Machine

open Sys2Proof

/-! ## The lanes of an operator under a new sector table entry -/

section

variable {s : State} {z : ZoneNo} {o : OpNo} {sec : SectorNo} {e : SectorEntry}

theorem setSector_sector (s : State) (o : OpNo) (sec : SectorNo) (e : SectorEntry) : (s.setSector o sec e).sector o sec = e := by
  simp [State.setSector, State.sector]

theorem setSector_sector_ne (s : State) (o : OpNo) {sec x : SectorNo} (e : SectorEntry) (other : x ≠ sec) :
    (s.setSector o sec e).sector o x = s.sector o x := by
  simp [State.setSector, State.sector, Fin.val_ne_of_ne (Ne.symm other)]

theorem setSector_tenancy (s : State) (o : OpNo) (sec : SectorNo) (e : SectorEntry) :
    ((s.setSector o sec e).oper o).tenancy = (s.oper o).tenancy := by
  simp [State.setSector]

/-- A lane bound elsewhere keeps its service and its request. -/
theorem bindingServes_setSector_ne {b : Option SectorNo} (other : b ≠ some sec) :
    bindingServes (s.setSector o sec e) o b = bindingServes s o b ∧ bindingRequest (s.setSector o sec e) o b = bindingRequest s o b := by
  cases b with
  | none => exact ⟨rfl, rfl⟩
  | some x =>
    have away : x ≠ sec := fun same => other (congrArg some same)
    simp only [bindingServes, bindingRequest, setSector_sector_ne s o e away, and_self]

/-- A lane carries as before where its binding is served as before. -/
theorem carrying_setSector (same : bindingServes (s.setSector o sec e) o (s.active z o) = bindingServes s o (s.active z o)) :
    carrying (s.setSector o sec e) z o = carrying s z o := by
  have served : bindingServes (s.setSector o sec e) o ((s.setSector o sec e).active z o) = bindingServes s o (s.active z o) := same
  unfold carrying
  rw [served, setSector_tenancy]
  rfl

theorem carrying_setSector_ne (other : s.active z o ≠ some sec) : carrying (s.setSector o sec e) z o = carrying s z o :=
  carrying_setSector (bindingServes_setSector_ne other).1

theorem effRequest_setSector_ne (other : s.active z o ≠ some sec) : effRequest (s.setSector o sec e) z o = effRequest s z o :=
  effRequest_of_lanes (carrying_setSector_ne other) fun _ => (bindingServes_setSector_ne other).2

/-- A lane whose sector is disabled or whose stream is DOWN does not carry (R19). -/
theorem carrying_of_unserved (bound : s.active z o = some sec) (unserved : ((s.sector o sec).enabled && (s.sector o sec).streamUp) = false) :
    carrying s z o = false := by
  unfold carrying
  rw [bound, show bindingServes s o (some sec) = false from unserved]
  simp

theorem carrying_setSector_of_unserved (bound : s.active z o = some sec) (unserved : (e.enabled && e.streamUp) = false) :
    carrying (s.setSector o sec e) z o = false :=
  carrying_of_unserved bound (by rw [setSector_sector]; exact unserved)

end

/-! ## Stream presence (R41) -/

theorem presenceStored_event (s : State) (o : OpNo) (sec : SectorNo) (up : Bool) : OperatorEvent s o
    { s.oper o with sectors := (s.oper o).sectors.set sec { s.sector o sec with streamUp := up } }
    (if up then s.spread else closedWhere s fun q p => decide (q = o) && decide (p.toSector = sec)) (presenceStored s o sec up) where
  bare := presenceStored_bare s o sec up
  power := presenceStored_power s o sec up
  short := by
    unfold presenceStored
    dsimp only
    split
    · exact file_keeps State.short (fun _ _ => rfl) ..
    · exact (withdrawIf_keeps State.short (fun _ _ => rfl) (fun _ _ => rfl) ..).trans (file_keeps State.short (fun _ _ => rfl) ..)

/-- The notice of a report that differs from the stored presence. -/
def presenceNotice (s : State) (o : OpNo) (sec : SectorNo) (up : Bool) : Notice :=
  { kind := .streamChanged, stamp := s.stamp, zone := none, operator := some o, fromSector := none, toSector := some sec,
    alarmClass := none, proposalId := none, value := some (presenceCode up) }

/-- The report stored and told, before a stream that is DOWN closes a proposal. -/
def presenceTold (s : State) (o : OpNo) (sec : SectorNo) (up : Bool) : State :=
  file (s.setSector o sec { s.sector o sec with streamUp := up })
    (.vn :: unlessAbsent (s.setSector o sec { s.sector o sec with streamUp := up }) o) (presenceNotice s o sec up)

theorem presenceStored_eq (s : State) (o : OpNo) (sec : SectorNo) (up : Bool) :
    presenceStored s o sec up = if up then presenceTold s o sec up else
      withdrawIf (presenceTold s o sec up) o (fun p => decide (p.toSector = sec)) .streamDown := rfl

theorem presenceTold_spreadRec (s : State) (o : OpNo) (sec : SectorNo) (up : Bool) : (presenceTold s o sec up).spreadRec o = s.spreadRec o :=
  file_spreadRec ..

theorem presenceTold_stamp (s : State) (o : OpNo) (sec : SectorNo) (up : Bool) : (presenceTold s o sec up).stamp = s.stamp :=
  file_keeps State.stamp (fun _ _ => rfl) ..

theorem presenceTold_noticeQueue (s : State) (o : OpNo) (sec : SectorNo) (up : Bool) {p : Port}
    (hears : p = .vn ∨ p = .op o ∧ (s.oper o).tenancy ≠ .absent) :
    (presenceTold s o sec up).noticeQueue p = appendNotice (s.noticeQueue p) (presenceNotice s o sec up) := by
  have tenancy := setSector_tenancy s o sec { s.sector o sec with streamUp := up }
  unfold presenceTold unlessAbsent
  rw [tenancy]
  refine file_noticeQueue_of_mem (s.setSector o sec _) _ ?_ ?_
  · split <;> simp
  · rcases hears with rfl | ⟨rfl, present⟩
    · exact List.mem_cons_self
    · rw [if_neg present]
      simp

theorem presenceTold_noticeQueue_ne (s : State) (o : OpNo) (sec : SectorNo) (up : Bool) {q : OpNo}
    (deaf : q ≠ o ∨ (s.oper o).tenancy = .absent) : (presenceTold s o sec up).noticeQueue (.op q) = s.noticeQueue (.op q) := by
  have tenancy := setSector_tenancy s o sec { s.sector o sec with streamUp := up }
  unfold presenceTold unlessAbsent
  rw [tenancy]
  refine file_noticeQueue_of_notMem (s.setSector o sec _) _ ?_
  rcases deaf with other | absent
  · split
    · simp
    · simpa using other
  · rw [if_pos absent]
    simp

/-- A report says nothing to another operator, nor to its own where that is ABSENT and has no open proposal. -/
theorem presenceStored_noticeQueue_ne {s : State} {o q : OpNo} {sec : SectorNo} {up : Bool}
    (deaf : q ≠ o ∨ (s.oper o).tenancy = .absent ∧ (s.spreadRec o).proposal = none) :
    (presenceStored s o sec up).noticeQueue (.op q) = s.noticeQueue (.op q) := by
  have told := presenceTold_noticeQueue_ne s o sec up (deaf.imp_right And.left)
  rw [presenceStored_eq]
  split
  · exact told
  · refine Eq.trans ?_ told
    rcases deaf with other | ⟨-, none_open⟩
    · exact withdrawIf_noticeQueue_ne _ _ _ other
    · unfold withdrawIf
      rw [presenceTold_spreadRec, none_open]

/-- The lanes bound to a sector whose stream is reported DOWN stop carrying, and no lane asks less but for them. -/
theorem presenceStored_lanes {s : State} {o : OpNo} {sec : SectorNo} {up : Bool} (new : (s.sector o sec).streamUp ≠ up) (z : ZoneNo) :
    (s.active z o = some sec → up = false → carrying (presenceStored s o sec up) z o = false) ∧
      (up = true ∨ s.active z o ≠ some sec → effRequest s z o ≤ effRequest (presenceStored s o sec up) z o) := by
  have event := presenceStored_event s o sec up
  refine ⟨fun bound down => ?_, fun kept => ?_⟩
  · rw [event.carrying_eq]
    exact carrying_setSector_of_unserved (e := { s.sector o sec with streamUp := up }) bound (by rw [down]; exact Bool.and_false _)
  · by_cases bound : s.active z o = some sec
    · have stored : (s.sector o sec).streamUp = false := by
        rw [kept.resolve_right (not_not_intro bound)] at new
        exact Bool.not_eq_true _ ▸ new
      rw [effRequest_of_idle (carrying_of_unserved bound (by rw [stored]; exact Bool.and_false _))]
      exact Nat.zero_le _
    · rw [event.request_eq]
      exact (effRequest_setSector_ne (e := { s.sector o sec with streamUp := up }) bound).ge

/-- Settles O35: a report that differs is the event of one operator's sector table. -/
theorem streamPresenceFollowsFramer : Obligations.StreamPresenceFollowsFramer := by
  intro s o sec up i told
  have runs : exec i s = .next (streamReport s o sec up) := by cases up <;> rfl
  rw [runs, streamReport_eq]
  refine ⟨fun same => by rw [if_pos same], fun new => ?_⟩
  rw [if_neg new]
  have event := presenceStored_event s o sec up
  have clips := stream_clips s o sec up
  have lanes := presenceStored_lanes new
  have start {p : Port} (hears : p = .vn ∨ p = .op o ∧ (s.oper o).tenancy ≠ .absent) :
      (presenceStored s o sec up).noticeQueue p = told (s.noticeQueue p) := by
    have named : p = .vn ∨ p = .op o := hears.imp_right And.left
    rw [presenceStored_eq]
    cases up with
    | true =>
      rw [if_pos rfl, presenceTold_noticeQueue s o sec true hears]
      dsimp only [told]
      cases (s.spreadRec o).proposal with
      | none => rfl
      | some x => exact (if_neg fun h => Bool.noConfusion h.1).symm
    | false =>
      rw [if_neg Bool.false_ne_true, withdrawIf_noticeQueue _ _ _ _ named, presenceTold_spreadRec, presenceTold_noticeQueue s o sec false hears]
      dsimp only [told]
      cases (s.spreadRec o).proposal with
      | none => rfl
      | some x =>
        by_cases closes : x.toSector = sec
        · subst closes
          simp only [decide_true, if_true, proposalNotice, notice, presenceTold_stamp, true_and]
          rfl
        · simp only [closes, decide_false, and_false, Bool.false_eq_true, if_false]
          rfl
  have queue (p : Port) : (endEvent s (inputChanges s (presenceStored s o sec up) fun z => decide (s.active z o = some sec))).noticeQueue p =
      (inputChanges s (presenceStored s o sec up) fun z => decide (s.active z o = some sec)).noticeQueue p :=
    endEvent_keeps (State.noticeQueue · p) (fun _ _ => rfl) (fun _ _ => rfl) (fun _ _ => rfl) (fun _ _ => rfl) (fun _ _ => rfl) ..
  have grant (z : ZoneNo) (q : OpNo) : (endEvent s (inputChanges s (presenceStored s o sec up) fun z => decide (s.active z o = some sec))).grant z q =
      (inputChanges s (presenceStored s o sec up) fun z => decide (s.active z o = some sec)).grant z q := by
    simp only [State.grant, endEvent_grants]
  refine ⟨_, rfl, eq_leaving_iff.mpr ?_, ?_, ?_, fun q other => ?_, fun present => ?_, fun absent none_open => ?_, fun z =>
    ⟨fun bound => endEvent_awaits ?_, fun bound down law => ?_, fun kept => ?_, fun q other => ?_⟩⟩
  · exact (endEvent_bare ..).trans ((inputChanges_bare ..).trans (presenceStored_bare s o sec up))
  · exact (endEvent_ports ..).trans ((inputChanges_ports ..).trans (duties_parts (presenceStored_duties s o sec up)).2.2.2)
  · rw [queue, inputChanges_noticeQueue_vn, start (.inl rfl)]
  · rw [queue, event.noticeQueue_ne _ other, presenceStored_noticeQueue_ne (.inl other)]
  · rw [queue, ← start (.inr ⟨rfl, present⟩)]
    cases up with
    | true =>
      refine (event.noticeQueue_own present (test := fun _ => false) nofun (fun z _ => (lanes z).2 (.inl rfl)) _).trans ?_
      simp [fullNotices]
    | false =>
      exact event.noticeQueue_own present (test := fun z => decide (s.active z o = some sec))
        (fun z bound => (lanes z).1 (of_decide_eq_true bound) rfl) (fun z away => (lanes z).2 (.inr (of_decide_eq_false away))) _
  · have idle (z : ZoneNo) : clipWrote s (presenceStored s o sec up) z o = false := by
      rw [clipWrote, event.budget, effRequest_of_untenanted (s := s) (by rw [absent]; exact Tenancy.noConfusion)]
      simp
    rw [queue, (inputChanges_of_unclipped _ idle).1, presenceStored_noticeQueue_ne (.inr ⟨absent, none_open⟩)]
  · exact mem_inputChanges.mpr (.inl (.inl (decide_eq_true bound)))
  · rw [grant]
    exact inputChanges_grant_idle clips law ((lanes z).1 bound down)
  · rw [grant]
    exact event.grant_own clips ((lanes z).2 kept)
  · rw [grant]
    exact event.grant_ne clips z other

end Sys2Proof.Machine
end

section
/-! SET SECTOR ENABLE and SET SECTOR POWER (R11, R12): O26. -/

namespace Sys2Proof.Machine

open Sys2Proof

/-- A request in its operator form. -/
theorem exec_op_served {r : Req} {s u : State} {o : OpNo} {payload : List Byte} {rep : Reply} {lens : List Nat} (h : FrameIn s (.op o))
    (tenant : Tenant s o) (hl : operatorLengths r = some lens) (hn : lens.contains payload.length = true)
    (ho : ownerOf r (.op o) payload s = (u, rep)) : exec (r.toInstr (.op o) payload) s = .next (served s u (.op o) rep) :=
  exec_served h (tests_op hl tenant hn) ho

/-! ## The enabled field -/

/-- The enabled field stored, with the proposal closed that a disabled sector names. -/
def enabledStored (s : State) (o : OpNo) (sec : SectorNo) (on : Bool) : State :=
  if on then s.setSector o sec { s.sector o sec with enabled := on }
  else withdrawIf (s.setSector o sec { s.sector o sec with enabled := on }) o
    (fun p => decide (p.fromSector = sec) || decide (p.toSector = sec)) .sectorDisabled

theorem storeEnable_eq (s : State) (o : OpNo) (sec : SectorNo) (on : Bool) :
    storeEnable s o sec on = if (s.sector o sec).enabled = on then s else inputChanges s (enabledStored s o sec on) fun _ => false := rfl

theorem enabledStored_event (s : State) (o : OpNo) (sec : SectorNo) (on : Bool) : OperatorEvent s o
    { s.oper o with sectors := (s.oper o).sectors.set sec { s.sector o sec with enabled := on } }
    (if on then s.spread else closedWhere s fun q p => decide (q = o) && (decide (p.fromSector = sec) || decide (p.toSector = sec)))
    (enabledStored s o sec on) where
  bare := storeEnable_start_bare s o sec on
  power := (withdrawUnless_power ..).trans (setSector_power ..)
  short := by
    unfold enabledStored
    split
    · rfl
    · exact withdrawIf_keeps State.short (fun _ _ => rfl) (fun _ _ => rfl) ..

/-- The lanes bound to a disabled sector stop carrying, and no lane asks less but for them. -/
theorem enabledStored_lanes {s : State} {o : OpNo} {sec : SectorNo} {on : Bool} (new : (s.sector o sec).enabled ≠ on) (z : ZoneNo) :
    (s.active z o = some sec → on = false → carrying (enabledStored s o sec on) z o = false) ∧
      (on = true ∨ s.active z o ≠ some sec → effRequest s z o ≤ effRequest (enabledStored s o sec on) z o) := by
  have event := enabledStored_event s o sec on
  refine ⟨fun bound disabled => ?_, fun kept => ?_⟩
  · rw [event.carrying_eq]
    exact carrying_setSector_of_unserved (e := { s.sector o sec with enabled := on }) bound (by rw [disabled]; rfl)
  · by_cases bound : s.active z o = some sec
    · have stored : (s.sector o sec).enabled = false := by
        rw [kept.resolve_right (not_not_intro bound)] at new
        exact Bool.not_eq_true _ ▸ new
      rw [effRequest_of_idle (carrying_of_unserved bound (by rw [stored]; rfl))]
      exact Nat.zero_le _
    · rw [event.request_eq]
      exact (effRequest_setSector_ne (e := { s.sector o sec with enabled := on }) bound).ge

theorem ownSetSectorEnable_flag (s : State) (o : OpNo) (sec : SectorNo) (on : Bool) :
    ownSetSectorEnable o (u8 sec.val ++ flagByte on) s = (storeEnable s o sec on, replyOf .ok) := by
  simp only [ownSetSectorEnable, u8, flagByte, List.cons_append, List.nil_append, numBelow_sector, yesNo_flag]

/-- SET SECTOR ENABLE with a new value (R11). -/
theorem sectorEnable_stored {s : State} {o : OpNo} {sec : SectorNo} {on : Bool} (new : (s.sector o sec).enabled ≠ on) :
    let t := served s (storeEnable s o sec on) (.op o) (replyOf .ok)
    Answers s t (.op o) (replyOf .ok) ∧
      t = ({ s.setSector o sec { s.sector o sec with enabled := on } with
        spread := if on then s.spread
          else closedWhere s fun q p => decide (q = o) && (decide (p.fromSector = sec) || decide (p.toSector = sec)) } : State).leaving t ∧
      ∀ z : ZoneNo, (carrying s z o ≠ carrying t z o → AwaitsAllocation t z) ∧
        (s.active z o = some sec → on = false → carrying t z o = false ∧ (RequestLaw s → t.grant z o = 0)) ∧
        (s.active z o ≠ some sec → t.grant z o = s.grant z o) ∧ (on = true → ∀ q : OpNo, t.grant z q = s.grant z q) ∧
        ∀ q : OpNo, q ≠ o → t.grant z q = s.grant z q := by
  have event := enabledStored_event s o sec on
  have clips := storeEnable_clips s o sec on
  have lanes := enabledStored_lanes new
  have ports : (storeEnable s o sec on).ports = s.ports := by apply storeEnable_keeps State.ports <;> intros <;> rfl
  rw [storeEnable_eq, if_neg new] at *
  have bare : (inputChanges s (enabledStored s o sec on) fun _ => false).bare = (enabledStored s o sec on).bare := inputChanges_bare ..
  have carries (z : ZoneNo) : carrying (served s (inputChanges s (enabledStored s o sec on) fun _ => false) (.op o) (replyOf .ok)) z o =
      carrying (enabledStored s o sec on) z o := carrying_congr (served_bare.trans bare) z o
  have others (z : ZoneNo) {q : OpNo} (other : q ≠ o) := event.grant_ne clips z other
  refine ⟨served_answers ports, served_leaving (bare.trans event.bare), fun z => ⟨fun changed => served_awaits ?_, fun bound disabled => ?_,
    fun away => ?_, fun enabled q => ?_, fun q other => ?_⟩⟩
  · rw [carries] at changed
    exact inputChanges_queued _ changed
  · have idle := (lanes z).1 bound disabled
    exact ⟨(carries z).trans idle, fun law => (served_grant ..).trans (inputChanges_grant_idle clips law idle)⟩
  · exact (served_grant ..).trans (event.grant_own clips ((lanes z).2 (.inr away)))
  · by_cases same : q = o
    · subst same
      exact (served_grant ..).trans (event.grant_own clips ((lanes z).2 (.inl enabled)))
    · exact (served_grant ..).trans (others z same)
  · exact (served_grant ..).trans (others z other)

/-! ## The request -/

theorem powerStored_event (s : State) (o : OpNo) (sec : SectorNo) (n : Nat) : OperatorEvent s o
    { s.oper o with sectors := (s.oper o).sectors.set sec { s.sector o sec with request := n } } s.spread
    (s.setSector o sec { s.sector o sec with request := n }) := ⟨rfl, setSector_power .., rfl⟩

theorem storePower_bare (s : State) (o : OpNo) (sec : SectorNo) (n : Nat) :
    (storePower s o sec n).bare = (s.setSector o sec { s.sector o sec with request := n }).bare := by
  unfold storePower
  split
  · next same =>
    subst same
    have self : (s.oper o).sectors.set sec (s.sector o sec) = (s.oper o).sectors := by simp [State.sector]
    have record : s.setSector o sec (s.sector o sec) = s.setOper o (s.oper o) := by rw [setSector_eq, self]
    exact congrArg State.bare ((setOper_self s o).symm.trans record.symm)
  · exact inputChanges_bare ..

/-- A new request leaves each lane carrying or not as it was, and is what a carrying lane of the sector asks for (R12, R122). -/
theorem powerStored_lanes (s : State) (o : OpNo) (sec : SectorNo) (n : Nat) (z : ZoneNo) :
    carrying (s.setSector o sec { s.sector o sec with request := n }) z o = carrying s z o ∧
      (s.active z o = some sec → carrying s z o = true → effRequest s z o = (s.sector o sec).request ∧
        effRequest (s.setSector o sec { s.sector o sec with request := n }) z o = n) ∧
      (s.active z o ≠ some sec ∨ carrying s z o = false →
        effRequest (s.setSector o sec { s.sector o sec with request := n }) z o = effRequest s z o) := by
  have carry : carrying (s.setSector o sec { s.sector o sec with request := n }) z o = carrying s z o := by
    refine carrying_setSector ?_
    cases bound : s.active z o with
    | none => rfl
    | some x =>
      by_cases here : x = sec
      · subst here
        simp only [bindingServes, setSector_sector]
      · exact (bindingServes_setSector_ne fun same => here (Option.some.inj same)).1
  refine ⟨carry, fun bound carries => ?_, fun spared => ?_⟩
  · have after : (s.setSector o sec { s.sector o sec with request := n }).active z o = some sec := bound
    rw [effRequest, effRequest, carry, carries, bound, after, if_pos rfl, if_pos rfl, bindingRequest, bindingRequest, setSector_sector]
    exact ⟨rfl, rfl⟩
  · by_cases away : s.active z o = some sec
    · have idle := spared.resolve_left (not_not_intro away)
      rw [effRequest_of_idle idle, effRequest_of_idle (carry.trans idle)]
    · exact effRequest_setSector_ne away

theorem ownSetSectorPower_u16 (s : State) (o : OpNo) (sec : SectorNo) {n : Nat} (range : n ≤ 65535) :
    ownSetSectorPower o (u8 sec.val ++ u16 n) s = (storePower s o sec (if 8000 < n then 8000 else n),
      replyOf (if 8000 < n then .clamped else .ok)) := by
  have least : min n Config.maxRequest = if 8000 < n then 8000 else n := by
    rw [show Config.maxRequest = 8000 from rfl]
    split <;> omega
  simp only [ownSetSectorPower, u8, u16, List.cons_append, List.nil_append, numBelow_sector, num16_u16 range, least, okOrClamped_eq]
  by_cases above : 8000 < n
  · simp [above, Nat.ne_of_lt above]
  · simp [above]

/-- SET SECTOR POWER of a request that is stored as r (R12). -/
theorem sectorPower_stored (s : State) (o : OpNo) (sec : SectorNo) (r : Nat) (rep : Reply) :
    let t := served s (storePower s o sec r) (.op o) rep
    Answers s t (.op o) rep ∧ t = (s.setSector o sec { s.sector o sec with request := r }).leaving t ∧
      (r = (s.sector o sec).request → t = { s with ports := t.ports }) ∧
      ∀ z : ZoneNo,
        (s.active z o = some sec → carrying s z o = true → r ≠ (s.sector o sec).request →
          AwaitsAllocation t z ∧ (RequestLaw s → t.grant z o = min (s.grant z o) r)) ∧
        (s.active z o ≠ some sec ∨ carrying s z o = false → t.grant z o = s.grant z o) ∧
        ∀ q : OpNo, q ≠ o → t.grant z q = s.grant z q := by
  have clips := storePower_clips s o sec r
  have bare := storePower_bare s o sec r
  have ports : (storePower s o sec r).ports = s.ports := by apply storePower_keeps State.ports <;> intros <;> rfl
  have event := powerStored_event s o sec r
  have budget (z : ZoneNo) : effBudget (storePower s o sec r) z = effBudget s z := (effBudget_congr bare z).trans (event.budget z)
  refine ⟨served_answers ports, served_leaving bare, fun same => ?_, fun z => ⟨fun bound carries new => ⟨served_awaits ?_, fun law => ?_⟩,
    fun spared => ?_, fun q other => ?_⟩⟩
  · rw [storePower, if_pos same.symm, served_self]
    rfl
  · rw [storePower, if_neg (Ne.symm new)]
    exact mem_inputChanges.mpr (.inl (.inl (by rw [carries, bound]; simp)))
  · obtain ⟨asked, asks⟩ := (powerStored_lanes s o sec r z).2.1 bound carries
    have held := law z o
    rw [served_grant, clips.grant, budget, effRequest_congr bare, asks, asked, clippedGrant, if_neg (Nat.lt_irrefl _)]
    rw [asked] at held
    split
    · rfl
    · omega
  · have asks := (powerStored_lanes s o sec r z).2.2 spared
    rw [served_grant]
    exact clips.grant_of_same (budget z) (by rw [effRequest_congr bare, asks])
  · rw [served_grant]
    exact clips.grant_of_same (budget z) (by rw [effRequest_congr bare, event.request_ne z other])

/-- Settles O26. -/
theorem sectorTableStored : Obligations.SectorTableStored := by
  intro s o sec frame tenant
  have owner (on : Bool) := ownSetSectorEnable_flag s o sec on
  refine ⟨fun on => ⟨fun same => ?_, fun new => ?_⟩, fun n range => ?_⟩
  · have kept : storeEnable s o sec on = s := if_pos same
    have quiet := owner on
    rw [kept] at quiet
    exact exec_op_of_owner_only_replies (r := .setSectorEnable) (payload := u8 sec.val ++ flagByte on) frame tenant rfl quiet
  · exact ⟨_, exec_op_served (r := .setSectorEnable) (payload := u8 sec.val ++ flagByte on) frame tenant rfl rfl (owner on),
      sectorEnable_stored new⟩
  · exact ⟨_, exec_op_served (r := .setSectorPower) (payload := u8 sec.val ++ u16 n) frame tenant rfl rfl
      (ownSetSectorPower_u16 s o sec range), sectorPower_stored s o sec _ _⟩

end Sys2Proof.Machine
end

section
/-! RELEASE of an operator (R10): O25. -/

namespace Sys2Proof.Machine

open Sys2Proof

/-! ## The steps of R10 before the latch -/

/-- The spreading states after step 1: an ACTIVE operator's proposal is closed. -/
def releasedSpread (s : State) (o : OpNo) : Vector SpreadRec 4 :=
  if (s.oper o).tenancy = .active then closedWhere s fun q _ => decide (q = o) else s.spread

theorem releaseTenancy_bare_spread (s : State) (o : OpNo) :
    (releaseTenancy s o).bare = ((s.setOper o { s.oper o with tenancy := .absent }).withSpread (releasedSpread s o)).bare := by
  refine (inputChanges_bare ..).trans ?_
  have store (u : State) : (setTenancy u o .absent).bare = (u.bare).setOper o { (u.bare).oper o with tenancy := .absent } := rfl
  unfold releasedSpread
  split
  · rw [store, withdraw_bare]
    rfl
  · rfl

/-- The operator's record returned to its reset values, and its proposal closed. -/
def recordReleased (s : State) (o : OpNo) : State := (s.setOper o (s.oper o).released).withSpread (releasedSpread s o)

theorem setOper_setOper (s : State) (o : OpNo) (r r' : OpRec) : (s.setOper o r).setOper o r' = s.setOper o r' := by
  unfold State.setOper
  rw [Vector.set_set]

theorem releaseRecord_releaseTenancy_bare (s : State) (o : OpNo) :
    (releaseRecord (releaseTenancy s o) o).bare = (recordReleased s o).bare := by
  have tenancy := releaseTenancy_bare_spread s o
  have own : (releaseTenancy s o).oper o = { s.oper o with tenancy := .absent } := by
    refine (State.congr_bare (State.oper · o) tenancy (fun _ => rfl)).trans ?_
    exact s.setOper_oper o _
  have store (u : State) (r : OpRec) : (u.setOper o r).bare = (u.bare).setOper o r := rfl
  have commute (u : State) (r : OpRec) (v : Vector SpreadRec 4) : ((u.withSpread v).bare).setOper o r = ((u.setOper o r).withSpread v).bare := rfl
  rw [releaseRecord_bare, own, store, tenancy, commute, setOper_setOper]
  rfl

theorem releaseBindings_congr {x w : State} (same : x.bare = w.bare) (o : OpNo) : (releaseBindings x o).bare = (releaseBindings w o).bare := by
  have write (u : State) (Z : Vector ZoneRec 64) : ((u.withZones Z).withLatch true).bare = (u.bare.withZones Z).withLatch true := rfl
  rw [releaseBindings_eq, releaseBindings_eq, write, write, same, State.congr_bare State.zones same (fun _ => rfl)]

theorem releaseCounters_congr {x w : State} (same : x.bare = w.bare) (o : OpNo) : (releaseCounters x o).bare = (releaseCounters w o).bare := by
  have write (u : State) (C S : Vector (Vector Nat 4) 64) (r : SpreadRec) :
      (((u.withCells C).withSettle S).setSpread o r).bare = ((u.bare.withCells C).withSettle S).setSpread o r := rfl
  rw [releaseCounters_eq, releaseCounters_eq, write, write, same, State.congr_bare State.cells same (fun _ => rfl), State.congr_bare State.settle same (fun _ => rfl),
    State.congr_bare (State.spreadRec · o) same (fun _ => rfl)]

/-- The state of a RELEASE before its latch, as far as the blocks outside the Power Share Unit go. -/
def freed (s : State) (o : OpNo) : State := releaseCounters (releaseBindings (recordReleased s o) o) o

/-- The steps of R10 before the latch. -/
def releaseSteps (s : State) (o : OpNo) : State :=
  releaseNotices (releasePreview (releaseCounters (releaseBindings (releaseRecord (releaseTenancy s o) o) o) o) o) o

theorem releaseAll_eq (s : State) (o : OpNo) : releaseAll s o = latchIfStopped (releaseSteps s o) := rfl

theorem releaseSteps_bare (s : State) (o : OpNo) : (releaseSteps s o).bare = (freed s o).bare :=
  (releaseNotices_keeps State.bare (fun _ _ => rfl) ..).trans ((releasePreview_keeps State.bare (fun _ _ => rfl) ..).trans
    (releaseCounters_congr (releaseBindings_congr (releaseRecord_releaseTenancy_bare s o) o) o))

/-- The state with the fields written that a RELEASE writes. -/
def State.withReleased (s t : State) : State :=
  { s with zones := t.zones, latchPending := t.latchPending, ops := t.ops, spread := t.spread, cells := t.cells, settle := t.settle }

theorem withReleased_congr {s t u : State} (bare : t.bare = u.bare) : s.withReleased t = s.withReleased u := by
  rw [State.withReleased, State.congr_bare State.zones bare (fun _ => rfl), State.congr_bare State.latchPending bare (fun _ => rfl), State.congr_bare State.ops bare (fun _ => rfl),
    State.congr_bare State.spread bare (fun _ => rfl), State.congr_bare State.cells bare (fun _ => rfl), State.congr_bare State.settle bare (fun _ => rfl)]
  rfl

section

variable (s : State) (o : OpNo)

theorem freed_eq : freed s o =
    (((((recordReleased s o).withZones (retable (fun _ r => r.unbound o) s.zones)).withLatch true).withCells
      (fillOperator s.cells o 0)).withSettle (fillOperator s.settle o 0)).setSpread o ((recordReleased s o).spreadRec o).restarted := by
  have zones : (recordReleased s o).zones = s.zones := rfl
  have cells : (recordReleased s o).cells = s.cells := rfl
  have settle : (recordReleased s o).settle = s.settle := rfl
  unfold freed
  generalize recordReleased s o = w at *
  rw [releaseCounters_eq, releaseBindings_eq, ← zones, ← cells, ← settle]
  generalize retable (fun _ r => ZoneRec.unbound o r) w.zones = Z
  have read : ((w.withZones Z).withLatch true).cells = w.cells ∧ ((w.withZones Z).withLatch true).settle = w.settle ∧
      ((w.withZones Z).withLatch true).spreadRec o = w.spreadRec o := ⟨rfl, rfl, rfl⟩
  rw [read.1, read.2.1, read.2.2]

theorem freed_frame : (freed s o).bare = (s.withReleased (freed s o)).bare := by
  rw [freed_eq]
  generalize retable (fun _ r => ZoneRec.unbound o r) s.zones = Z
  generalize fillOperator s.cells o 0 = C
  generalize fillOperator s.settle o 0 = S
  rfl

theorem freed_zone (z : ZoneNo) : (freed s o).zone z = (s.zone z).unbound o := by
  rw [freed_eq]
  exact retable_getElem (fun _ r => ZoneRec.unbound o r) s.zones z

theorem freed_latchPending : (freed s o).latchPending = true := by
  rw [freed_eq]
  rfl

theorem freed_oper_eq (q : OpNo) : (freed s o).oper q = (recordReleased s o).oper q := by
  have read (w : State) (Z : Vector ZoneRec 64) (C S : Vector (Vector Nat 4) 64) (r : SpreadRec) :
      (((((w.withZones Z).withLatch true).withCells C).withSettle S).setSpread o r).oper q = w.oper q := rfl
  rw [freed_eq, read]

theorem freed_oper : (freed s o).oper o = (s.oper o).released := by
  rw [freed_oper_eq]
  exact s.setOper_oper o _

theorem freed_oper_ne {q : OpNo} (other : q ≠ o) : (freed s o).oper q = s.oper q := by
  rw [freed_oper_eq]
  exact s.setOper_oper_ne _ other

theorem freed_cell (z : ZoneNo) (q : OpNo) : (freed s o).cell z q = if q = o then 0 else s.cell z q := by
  have read (w : State) (Z : Vector ZoneRec 64) (C S : Vector (Vector Nat 4) 64) (r : SpreadRec) :
      (((((w.withZones Z).withLatch true).withCells C).withSettle S).setSpread o r).cell z q = laneGet C z q := rfl
  rw [freed_eq, read]
  exact laneGet_fillOperator s.cells o 0 z q

theorem freed_settleCount (z : ZoneNo) (q : OpNo) : (freed s o).settleCount z q = if q = o then 0 else s.settleCount z q := by
  have read (w : State) (Z : Vector ZoneRec 64) (C S : Vector (Vector Nat 4) 64) (r : SpreadRec) :
      (((((w.withZones Z).withLatch true).withCells C).withSettle S).setSpread o r).settleCount z q = laneGet S z q := rfl
  rw [freed_eq, read]
  exact laneGet_fillOperator s.settle o 0 z q

theorem freed_spreadRec : (freed s o).spreadRec o = ((releasedSpread s o)[o]).restarted := by
  have read (w : State) (Z : Vector ZoneRec 64) (C S : Vector (Vector Nat 4) 64) (r : SpreadRec) :
      (((((w.withZones Z).withLatch true).withCells C).withSettle S).setSpread o r).spreadRec o = r := State.setSpread_spreadRec ..
  rw [freed_eq, read]
  rfl

theorem freed_spreadRec_ne {q : OpNo} (other : q ≠ o) : (freed s o).spreadRec q = s.spreadRec q := by
  have read (w : State) (Z : Vector ZoneRec 64) (C S : Vector (Vector Nat 4) 64) (r : SpreadRec) :
      (((((w.withZones Z).withLatch true).withCells C).withSettle S).setSpread o r).spreadRec q = w.spreadRec q :=
    State.setSpread_spreadRec_ne _ _ other
  rw [freed_eq, read]
  refine (?_ : (releasedSpread s o)[q] = s.spreadRec q)
  unfold releasedSpread
  split
  · simpa using closedWhere_own_ne s o (fun _ => true) other
  · rfl

end

/-! ## The latch of a RELEASE in STOPPED (R16) -/

theorem withReleased_transport (s t : State) : (s.withReleased t).transport = s.transport := rfl

theorem freed_transport (s : State) (o : OpNo) : (freed s o).transport = s.transport :=
  (State.congr_bare State.transport (freed_frame s o) (fun _ => rfl)).trans (withReleased_transport ..)

theorem releaseAll_of_running {s : State} (o : OpNo) (runs : s.transport ≠ .stopped) : releaseAll s o = releaseSteps s o := by
  have transport : (releaseSteps s o).transport = s.transport :=
    (State.congr_bare State.transport (releaseSteps_bare s o) (fun _ => rfl)).trans (freed_transport s o)
  rw [releaseAll_eq, latchIfStopped_of_running (by rwa [transport])]

theorem releaseAll_of_stopped {s : State} (o : OpNo) (stopped : s.transport = .stopped) :
    releaseAll s o = takeLatch (releaseSteps s o) := by
  have transport : (releaseSteps s o).transport = s.transport :=
    (State.congr_bare State.transport (releaseSteps_bare s o) (fun _ => rfl)).trans (freed_transport s o)
  have pending : (releaseSteps s o).latchPending = true :=
    (State.congr_bare State.latchPending (releaseSteps_bare s o) (fun _ => rfl)).trans (freed_latchPending s o)
  rw [releaseAll_eq, latchIfStopped, if_pos ⟨transport.trans stopped, pending⟩]

/-- What the latch does not write is as the steps before it leave it. -/
theorem releaseAll_reads {β : Type} (s : State) (o : OpNo) (g : State → β) (bare : ∀ x : State, g x.bare = g x)
    (map : ∀ (x : State) (Z : Vector ZoneRec 64) (b : Bool) (S : Vector (Vector Nat 4) 64),
      g (((x.withZones Z).withLatch b).withSettle S) = g x) : g (releaseAll s o) = g (freed s o) := by
  have steps : g (releaseSteps s o) = g (freed s o) := State.congr_bare g (releaseSteps_bare s o) bare
  by_cases stopped : s.transport = .stopped
  · rw [releaseAll_of_stopped o stopped, State.congr_bare g (takeLatch_frame _) bare, map, steps]
  · rw [releaseAll_of_running o stopped, steps]

/-- The map of a RELEASE: the working bindings of the operator are NONE, and in STOPPED they are active at once. -/
theorem releaseAll_zone (s : State) (o : OpNo) (z : ZoneNo) : (releaseAll s o).zone z =
    if s.transport = .stopped then ((s.zone z).unbound o).latched else (s.zone z).unbound o := by
  have zone : (releaseSteps s o).zone z = (s.zone z).unbound o :=
    (State.congr_bare (State.zone · z) (releaseSteps_bare s o) (fun _ => rfl)).trans (freed_zone s o z)
  split
  · next stopped => rw [releaseAll_of_stopped o stopped, takeLatch_zone, zone]
  · next runs => rw [releaseAll_of_running o runs, zone]

theorem releaseAll_latchPending (s : State) (o : OpNo) : (releaseAll s o).latchPending = decide (s.transport ≠ .stopped) := by
  by_cases stopped : s.transport = .stopped
  · rw [releaseAll_of_stopped o stopped, takeLatch_latchPending]
    simp [stopped]
  · rw [releaseAll_of_running o stopped, State.congr_bare State.latchPending (releaseSteps_bare s o) (fun _ => rfl), freed_latchPending]
    simp [stopped]

theorem releaseSteps_absent (s : State) (o : OpNo) : ((releaseSteps s o).oper o).tenancy = .absent := by
  rw [State.congr_bare (State.oper · o) (releaseSteps_bare s o) (fun _ => rfl), freed_oper]
  rfl

/-- The operator is ABSENT when the latch comes, so that its settle counters stay 0 (R105). -/
theorem releaseAll_settleCount (s : State) (o : OpNo) (z : ZoneNo) : (releaseAll s o).settleCount z o = 0 := by
  have count : (releaseSteps s o).settleCount z o = 0 := by
    rw [State.congr_bare (State.settleCount · z o) (releaseSteps_bare s o) (fun _ => rfl), freed_settleCount, if_pos rfl]
  by_cases stopped : s.transport = .stopped
  · rw [releaseAll_of_stopped o stopped, takeLatch_settleCount, if_neg fun h => h.2 (releaseSteps_absent s o), count]
  · rw [releaseAll_of_running o stopped, count]

theorem withReleased_withMap (s w : State) (Z : Vector ZoneRec 64) (b : Bool) (S : Vector (Vector Nat 4) 64) :
    s.withReleased ((((s.withReleased w).withZones Z).withLatch b).withSettle S) = (((s.withReleased w).withZones Z).withLatch b).withSettle S :=
  rfl

theorem releaseAll_frame (s : State) (o : OpNo) : (releaseAll s o).bare = (s.withReleased (releaseAll s o)).bare := by
  have steps : (releaseSteps s o).bare = (s.withReleased (freed s o)).bare := (releaseSteps_bare s o).trans (freed_frame s o)
  by_cases stopped : s.transport = .stopped
  · have write (x : State) (Z : Vector ZoneRec 64) (b : Bool) (S : Vector (Vector Nat 4) 64) :
        (((x.withZones Z).withLatch b).withSettle S).bare = ((x.bare.withZones Z).withLatch b).withSettle S := rfl
    have after := takeLatch_frame (releaseSteps s o)
    rw [write, steps, ← write] at after
    rw [releaseAll_of_stopped o stopped, withReleased_congr after, after, withReleased_withMap]
  · rw [releaseAll_of_running o stopped, steps, withReleased_congr ((releaseSteps_bare s o).trans rfl)]

/-! ## The grants -/

/-- The lanes of the operator stop carrying with step 1, and no later step raises a grant (R126). -/
theorem releaseAll_grant {s : State} (law : RequestLaw s) (o : OpNo) (z : ZoneNo) : (releaseAll s o).grant z o = 0 := by
  have tenancy : (releaseTenancy s o).grant z o = 0 :=
    (releaseTenancy_clips s o).grant_of_idle law (carrying_of_untenanted (by rw [releaseTenancy_absent]; exact Tenancy.noConfusion))
  have rest : PowerMove (releaseTenancy s o) (releaseAll s o) :=
    (releaseRecord_move (releaseTenancy_absent s o)).trans ((releaseBindings_move ..).trans
      ((PowerMove.of_sharing (releaseCounters_sharing ..)).trans ((PowerMove.of_sharing (releasePreview_sharing ..)).trans
        ((PowerMove.of_sharing (releaseNotices_sharing ..)).trans (latchIfStopped_move _)))))
  exact Nat.le_zero.mp (tenancy ▸ rest.falls z o)

end Sys2Proof.Machine
end

section
/-! RELEASE of an operator (R10): its queue, its preview slot, the share change, and O25. -/

namespace Sys2Proof.Machine

open Sys2Proof

/-! ## The queue of an ABSENT operator -/

theorem clipNotices_of_absent (old : State) {s : State} {o : OpNo} (absent : (s.oper o).tenancy = .absent) (z : ZoneNo) :
    clipNotices old s o z = [] := by
  unfold clipNotices judgement
  rw [if_pos absent, ite_self]

theorem inputChanges_noticeQueue_of_absent (old : State) {s : State} (also : ZoneNo → Bool) {o : OpNo} (absent : (s.oper o).tenancy = .absent) :
    (inputChanges old s also).noticeQueue (.op o) = s.noticeQueue (.op o) := by
  rw [inputChanges_noticeQueue, List.flatMap_eq_nil_iff.mpr fun z _ => clipNotices_of_absent old absent z]
  rfl

/-- A latch tells an ABSENT operator nothing (R15). -/
theorem moveLane_noticeQueue_of_absent (old : State) {s : State} (z : ZoneNo) (q : OpNo) {o : OpNo} (absent : (s.oper o).tenancy = .absent) :
    (moveLane old s z q).noticeQueue (.op o) = s.noticeQueue (.op o) := by
  have told : (fileMove old s z q).noticeQueue (.op o) = s.noticeQueue (.op o) := by
    refine file_noticeQueue_of_notMem _ _ ?_
    unfold unlessAbsent
    split
    · simp
    · next present =>
      simp only [List.mem_cons, reduceCtorEq, Port.op.injEq, List.not_mem_nil, or_false, false_or]
      rintro rfl
      exact present absent
  unfold moveLane
  dsimp only
  split
  · split
    · exact told
    · exact told
  · rfl

theorem latchMoves_noticeQueue_of_absent {s : State} {o : OpNo} (absent : (s.oper o).tenancy = .absent) :
    (latchMoves s).noticeQueue (.op o) = s.noticeQueue (.op o) := by
  have kept (g : State → Tenancy) (step : ∀ t z q, g (moveLane s t z q) = g t) (t : State) (z : ZoneNo) : g (moveLanes s t z) = g t :=
    foldl_keeps g _ (fun u q => step u z q) allOps t
  have tenancy (t : State) (z : ZoneNo) (q : OpNo) : ((moveLane s t z q).oper o).tenancy = (t.oper o).tenancy :=
    moveLane_keeps (fun x => (x.oper o).tenancy) (fun _ _ => rfl) (fun _ _ => rfl) ..
  have lanes (z : ZoneNo) (l : List OpNo) (t : State) (gone : (t.oper o).tenancy = .absent) :
      (l.foldl (fun t q => moveLane s t z q) t).noticeQueue (.op o) = t.noticeQueue (.op o) := by
    induction l generalizing t with
    | nil => rfl
    | cons q l ih => exact (ih _ ((tenancy ..).trans gone)).trans (moveLane_noticeQueue_of_absent s z q gone)
  have zones (l : List ZoneNo) (t : State) (gone : (t.oper o).tenancy = .absent) :
      (l.foldl (moveLanes s) t).noticeQueue (.op o) = t.noticeQueue (.op o) := by
    induction l generalizing t with
    | nil => rfl
    | cons z l ih =>
      exact (ih _ ((kept (fun x => (x.oper o).tenancy) tenancy t z).trans gone)).trans (lanes z allOps t gone)
  have oper : (copyBindings s).oper o = s.oper o := copyBindings_keeps (State.oper · o) (fun _ _ => rfl) (fun _ _ => rfl) s
  have queue : (copyBindings s).noticeQueue (.op o) = s.noticeQueue (.op o) :=
    copyBindings_keeps (State.noticeQueue · (.op o)) (fun _ _ => rfl) (fun _ _ => rfl) s
  exact (zones allZones _ (by rw [oper]; exact absent)).trans queue

theorem takeLatch_noticeQueue_of_absent {s : State} {o : OpNo} (absent : (s.oper o).tenancy = .absent) :
    (takeLatch s).noticeQueue (.op o) = s.noticeQueue (.op o) := by
  have oper : (latchMoves s).oper o = s.oper o :=
    (latchMoves_keeps (State.oper · o) (fun _ _ => rfl) (fun _ _ => rfl) s).trans
      (copyBindings_keeps (State.oper · o) (fun _ _ => rfl) (fun _ _ => rfl) s)
  rw [takeLatch_eq, inputChanges_noticeQueue_of_absent s _ (by rw [oper]; exact absent), latchMoves_noticeQueue_of_absent absent]

theorem withReleased_stamp (s t : State) : (s.withReleased t).stamp = s.stamp := rfl

theorem freed_stamp (s : State) (o : OpNo) : (freed s o).stamp = s.stamp :=
  (State.congr_bare State.stamp (freed_frame s o) (fun _ => rfl)).trans (withReleased_stamp ..)

/-- The queue of a released operator holds TENANCY_CHANGED alone (R10 step 5). -/
theorem releaseSteps_noticeQueue (s : State) (o : OpNo) :
    (releaseSteps s o).noticeQueue (.op o) = { records := [tenancyNotice s o 0], overrun := false } := by
  unfold releaseSteps
  have bare : (releasePreview (releaseCounters (releaseBindings (releaseRecord (releaseTenancy s o) o) o) o) o).bare = (freed s o).bare :=
    (releasePreview_keeps State.bare (fun _ _ => rfl) ..).trans
      (releaseCounters_congr (releaseBindings_congr (releaseRecord_releaseTenancy_bare s o) o) o)
  generalize releasePreview (releaseCounters (releaseBindings (releaseRecord (releaseTenancy s o) o) o) o) o = x at bare
  have stamp : x.stamp = s.stamp := (State.congr_bare State.stamp bare (fun _ => rfl)).trans (freed_stamp s o)
  have tenancy : (x.oper o).tenancy = .absent := by
    rw [State.congr_bare (State.oper · o) bare (fun _ => rfl), freed_oper]
    rfl
  refine (file_noticeQueue_both _ o _ (.inr rfl)).trans ?_
  rw [State.setNotices_noticeQueue, State.setNotices_oper, tenancy, notice, State.setNotices_stamp, stamp]
  rfl

theorem releaseAll_noticeQueue (s : State) (o : OpNo) :
    (releaseAll s o).noticeQueue (.op o) = { records := [tenancyNotice s o 0], overrun := false } := by
  by_cases stopped : s.transport = .stopped
  · rw [releaseAll_of_stopped o stopped, takeLatch_noticeQueue_of_absent (releaseSteps_absent s o), releaseSteps_noticeQueue]
  · rw [releaseAll_of_running o stopped, releaseSteps_noticeQueue]

/-! ## The preview slot -/

/-- A slot that does not wait is left by the end of an event (R143). -/
theorem endEvent_previewSlot (old : State) {s : State} {p : Port} (busy : ∀ e, s.previewSlot p = some e → e.running = true) :
    (endEvent old s).previewSlot p = s.previewSlot p := by
  rcases endEvent_cases old s with same | ⟨-, -, arbitrates⟩
  · rw [same]
  · rw [arbitrates]
    rcases arbitrate_cases s with ⟨-, -, result⟩ | ⟨z, rest, -, -, result⟩ | ⟨x, e, chosen, -, result⟩
    · rw [result]
      rfl
    · rw [result]
      rfl
    · obtain ⟨slot, waits⟩ := nextPreview_waits chosen
      have other : p ≠ x := by
        rintro rfl
        exact Bool.false_ne_true (waits.symm.trans (busy e slot))
      rw [result]
      exact State.setPreview_previewSlot_ne { s with consecutive := 0 } _ other

/-- The slot of a released operator: emptied, or cancelled while RUNNING (R10 step 5). -/
def PreviewSlot.released (e : PreviewSlot) : Option PreviewSlot := if e.running then some { e with cancelled := true } else none

theorem releaseAll_previewSlot (s : State) (o : OpNo) :
    (releaseAll s o).previewSlot (.op o) = (s.previewSlot (.op o)).bind PreviewSlot.released := by
  have before : (releaseCounters (releaseBindings (releaseRecord (releaseTenancy s o) o) o) o).previewSlot (.op o) =
      s.previewSlot (.op o) := by
    refine (releaseCounters_keeps (State.previewSlot · (.op o)) (fun _ _ => rfl) (fun _ _ => rfl) (fun _ _ => rfl) ..).trans
      ((releaseBindings_keeps (State.previewSlot · (.op o)) (fun _ _ => rfl) (fun _ _ => rfl) ..).trans
      ((releaseRecord_keeps (State.previewSlot · (.op o)) (fun _ _ => rfl) (fun _ _ => rfl) ..).trans ?_))
    apply releaseTenancy_keeps (State.previewSlot · (.op o)) <;> intros <;> rfl
  have steps : (releaseAll s o).previewSlot (.op o) = (releaseSteps s o).previewSlot (.op o) := by
    apply latchIfStopped_keeps (State.previewSlot · (.op o)) <;> intros <;> rfl
  rw [steps]
  refine (releaseNotices_keeps (State.previewSlot · (.op o)) (fun _ _ => rfl) ..).trans ?_
  unfold releasePreview
  rw [before]
  cases held : s.previewSlot (.op o) with
  | none => exact before.trans held
  | some e => exact State.setPreview_previewSlot ..

/-! ## The share change -/

/-- A share above 0 queues every zone with step 2, and no later step takes one out (R10, R132). -/
theorem releaseAll_queued {s : State} {o : OpNo} (share : (s.oper o).share ≠ 0) (z : ZoneNo) : z ∈ (releaseAll s o).realloc := by
  have own : ((releaseTenancy s o).oper o).share = (s.oper o).share := by
    rw [State.congr_bare (State.oper · o) (releaseTenancy_bare_spread s o) (fun _ => rfl),
      show ((s.setOper o { s.oper o with tenancy := .absent }).withSpread (releasedSpread s o)).oper o = _ from s.setOper_oper o _]
  have record : z ∈ (releaseRecord (releaseTenancy s o) o).realloc := by
    unfold releaseRecord
    dsimp only
    rw [if_neg (own ▸ share)]
    exact mem_shareChange ..
  have steps : (releaseSteps s o).realloc = (releaseRecord (releaseTenancy s o) o).realloc :=
    (releaseNotices_keeps State.realloc (fun _ _ => rfl) ..).trans ((releasePreview_keeps State.realloc (fun _ _ => rfl) ..).trans
      ((releaseCounters_keeps State.realloc (fun _ _ => rfl) (fun _ _ => rfl) (fun _ _ => rfl) ..).trans
        (releaseBindings_keeps State.realloc (fun _ _ => rfl) (fun _ _ => rfl) ..)))
  by_cases stopped : s.transport = .stopped
  · rw [releaseAll_of_stopped o stopped]
    exact (takeLatch_clips _).kept z (steps ▸ record)
  · rw [releaseAll_of_running o stopped, steps]
    exact record

/-! ## The statement -/

theorem ownRelease_u8 (s : State) (o : OpNo) : ownRelease (u8 o.val) s = (releaseAll s o, replyOf .ok) := by
  simp only [ownRelease, namedOp, u8, numBelow_operator]

theorem closedWhere_operator (s : State) (o : OpNo) : (closedWhere s fun q _ => decide (q = o))[o].proposal = none ∧
    (closedWhere s fun q _ => decide (q = o))[o].nextId = (s.spreadRec o).nextId := by
  rw [closedWhere_getElem]
  cases proposal : (s.spreadRec o).proposal with
  | none => exact ⟨proposal, rfl⟩
  | some p =>
    simp only [decide_true, if_true]
    exact ⟨rfl, rfl⟩

theorem releasedSpread_own (s : State) (o : OpNo) : (releasedSpread s o)[o].nextId = (s.spreadRec o).nextId ∧
    ((s.oper o).tenancy = .active → (releasedSpread s o)[o].proposal = none) := by
  obtain ⟨closed, nextId⟩ := closedWhere_operator s o
  unfold releasedSpread
  split
  · exact ⟨nextId, fun _ => closed⟩
  · next other => exact ⟨rfl, fun tenant => absurd tenant other⟩

theorem OpRec.released_sector (r : OpRec) (sec : SectorNo) :
    r.released.sectors[sec] = { enabled := false, request := 0, streamUp := r.sectors[sec].streamUp } :=
  retable_getElem (fun _ (e : SectorEntry) => { SectorEntry.reset with streamUp := e.streamUp }) r.sectors sec

theorem ZoneRec.unbound_working (r : ZoneRec) (o q : OpNo) : (r.unbound o).working[q] = if q = o then none else r.working[q] := by
  unfold ZoneRec.unbound
  split
  · next h =>
    subst h
    simp
  · next h => simp [Fin.val_ne_of_ne (Ne.symm h)]

section

variable {s t : State} {o : OpNo} (bare : t.bare = (releaseAll s o).bare)
include bare

/-- The operator's record after a RELEASE. -/
theorem released_oper : t.oper o = (s.oper o).released :=
  (State.congr_bare (State.oper · o) bare (fun _ => rfl)).trans ((releaseAll_reads s o (State.oper · o) (fun _ => rfl) (fun _ _ _ _ => rfl)).trans (freed_oper s o))

theorem released_spreadRec : t.spreadRec o = ((releasedSpread s o)[o]).restarted :=
  (State.congr_bare (State.spreadRec · o) bare (fun _ => rfl)).trans ((releaseAll_reads s o (State.spreadRec · o) (fun _ => rfl) (fun _ _ _ _ => rfl)).trans (freed_spreadRec s o))

theorem released_zone (z : ZoneNo) : t.zone z =
    if s.transport = .stopped then ((s.zone z).unbound o).latched else (s.zone z).unbound o :=
  (State.congr_bare (State.zone · z) bare (fun _ => rfl)).trans (releaseAll_zone s o z)

theorem released_working (z : ZoneNo) (q : OpNo) : t.working z q = if q = o then none else s.working z q := by
  rw [State.working, released_zone bare]
  split <;> exact ZoneRec.unbound_working ..

theorem released_active (z : ZoneNo) (q : OpNo) : t.active z q = if s.transport = .stopped then t.working z q else s.active z q := by
  rw [State.active, State.working, released_zone bare]
  split <;> rfl

theorem released_record (z : ZoneNo) : t.zone z = { s.zone z with working := (t.zone z).working, active := (t.zone z).active } := by
  rw [released_zone bare]
  split <;> rfl

theorem released_cell (z : ZoneNo) (q : OpNo) : t.cell z q = if q = o then 0 else s.cell z q :=
  (State.congr_bare (State.cell · z q) bare (fun _ => rfl)).trans ((releaseAll_reads s o (State.cell · z q) (fun _ => rfl) (fun _ _ _ _ => rfl)).trans (freed_cell s o z q))

theorem released_others {q : OpNo} (other : q ≠ o) : t.oper q = s.oper q ∧ t.spreadRec q = s.spreadRec q ∧
    ∀ z : ZoneNo, t.working z q = s.working z q ∧ t.cell z q = s.cell z q := by
  refine ⟨?_, ?_, fun z => ⟨?_, ?_⟩⟩
  · exact (State.congr_bare (State.oper · q) bare (fun _ => rfl)).trans ((releaseAll_reads s o (State.oper · q) (fun _ => rfl) (fun _ _ _ _ => rfl)).trans (freed_oper_ne s o other))
  · exact (State.congr_bare (State.spreadRec · q) bare (fun _ => rfl)).trans
      ((releaseAll_reads s o (State.spreadRec · q) (fun _ => rfl) (fun _ _ _ _ => rfl)).trans (freed_spreadRec_ne s o other))
  · rw [released_working bare, if_neg other]
  · rw [released_cell bare, if_neg other]

theorem released_frame : t = ({ s with
    zones := t.zones, latchPending := decide (s.transport ≠ .stopped), ops := t.ops, spread := t.spread, cells := t.cells,
    settle := t.settle } : State).leaving t := by
  have pending : t.latchPending = decide (s.transport ≠ .stopped) :=
    (State.congr_bare State.latchPending bare (fun _ => rfl)).trans (releaseAll_latchPending s o)
  rw [← pending, eq_leaving_iff, bare]
  refine (releaseAll_frame s o).trans ?_
  exact congrArg State.bare (withReleased_congr bare.symm)

end

theorem served_previewSlot_of_released (s : State) (o : OpNo) :
    (served s (releaseAll s o) .vn (replyOf .ok)).previewSlot (.op o) = (s.previewSlot (.op o)).bind PreviewSlot.released := by
  have answered : (served s (releaseAll s o) .vn (replyOf .ok)).previewSlot (.op o) = (endEvent s (releaseAll s o)).previewSlot (.op o) :=
    State.setPort_previewSlot ..
  rw [answered, endEvent_previewSlot s fun e held => ?_, releaseAll_previewSlot]
  rw [releaseAll_previewSlot, Option.bind_eq_some_iff] at held
  obtain ⟨x, -, kept⟩ := held
  unfold PreviewSlot.released at kept
  split at kept
  · next runs =>
    cases kept
    exact runs
  · cases kept

/-- Settles O25: the steps of R10 field by field, and then the latch of STOPPED. -/
theorem releaseReturnsOperatorToDefaults : Obligations.ReleaseReturnsOperatorToDefaults := by
  intro s o frame
  have bare : (served s (releaseAll s o) .vn (replyOf .ok)).bare = (releaseAll s o).bare := served_bare
  have ports : (releaseAll s o).ports = s.ports := by apply releaseAll_keeps State.ports <;> intros <;> rfl
  have slot := served_previewSlot_of_released s o
  have queue := (served_noticeQueue (s := s) (p := .vn) (rep := replyOf .ok) (.op o)).trans (releaseAll_noticeQueue s o)
  refine ⟨_, exec_vn_served (r := .releaseOperator) (payload := u8 o.val) frame rfl rfl (ownRelease_u8 s o), served_answers ports,
    released_frame bare, ?_, fun sec => ?_, fun z => ⟨?_, ?_, ?_, fun law => (served_grant ..).trans (releaseAll_grant law o z)⟩,
    fun q other => released_others bare other, released_active bare, released_record bare, ?_, ?_, ?_, fun tenant => ?_, queue, ?_,
    fun share z => served_awaits (releaseAll_queued share z)⟩
  · rw [released_oper bare]
    rfl
  · rw [State.sector, released_oper bare, OpRec.released_sector]
    rfl
  · rw [released_working bare, if_pos rfl]
  · rw [released_cell bare, if_pos rfl]
  · exact (State.congr_bare (State.settleCount · z o) bare (fun _ => rfl)).trans (releaseAll_settleCount s o z)
  · rw [released_spreadRec bare]
    rfl
  · rw [released_spreadRec bare]
    rfl
  · rw [released_spreadRec bare]
    exact (releasedSpread_own s o).1
  · rw [released_spreadRec bare]
    exact (releasedSpread_own s o).2 tenant
  · rw [slot]
    cases s.previewSlot (.op o) with
    | none => rfl
    | some e => rfl

end Sys2Proof.Machine
end

section
/-! RETIRE ZONE (R3): O20. -/

namespace Sys2Proof.Machine

open Sys2Proof

/-- The spreading states when zone z goes dark, or stays as it was. -/
def darkSpread (s : State) (z : ZoneNo) : Vector SpreadRec 4 :=
  if live s z then closedWhere s fun _ p => decide (p.zone = z) else s.spread

theorem retireLink_bare (s : State) (z : ZoneNo) : (retireLink s z).bare =
    (((s.setLink z (s.link z).toIdle).withProt (retireLink s z).prot).withSpread (darkSpread s z)).bare := by
  have spread : closedWhere (s.setLink z (s.link z).toIdle) (fun _ p => decide (p.zone = z)) =
      closedWhere s fun _ p => decide (p.zone = z) := rfl
  unfold retireLink darkSpread
  dsimp only
  rw [← spread]
  have own : s.spread = (s.setLink z (s.link z).toIdle).spread := rfl
  have read (t : State) (v : Vector (Vector ProtRec 6) 64) (w : Vector SpreadRec 4) :
      (t.bare.withProt v).withSpread w = ((t.withProt v).withSpread w).bare := rfl
  have same (t : State) : t.bare = ((t.withProt t.prot).withSpread t.spread).bare := rfl
  rw [own]
  generalize s.setLink z (s.link z).toIdle = t
  split
  · rw [goDark_bare]
    exact read ..
  · exact same t

/-- A live zone that is retired has its falling edges taken; no other record changes (R58, R72). -/
theorem retireLink_protRec (s : State) (z y : ZoneNo) (c : ClassNo) : (retireLink s z).protRec y c =
    if y = z ∧ live s z = true then edgeRecord (s.mode c) (s.protRec z c) false else s.protRec y c := by
  unfold retireLink
  dsimp only
  split
  · next lives =>
    refine (goDark_protRec s (s.setLink z (s.link z).toIdle) z .retired .zoneDark y c).trans ?_
    simp only [lives, and_true]
    rfl
  · next dark =>
    rw [if_neg fun h => dark h.2]
    rfl

/-- The record and the cells of a retired zone, on the links, records and spreading states that step 1 leaves. -/
def retiredState (s : State) (z : ZoneNo) : State :=
  clearZoneCells ((((s.setLink z (s.link z).toIdle).withProt (retireLink s z).prot).withSpread (darkSpread s z)).setZone z
    (s.zone z).retired) z

theorem retire_bare (s : State) (z : ZoneNo) : (retire s z).bare = (retiredState s z).bare := by
  have write (u : State) (r : ZoneRec) : (clearZoneCells (u.setZone z r) z).bare = clearZoneCells (u.bare.setZone z r) z := rfl
  have link := retireLink_bare s z
  have zone : (retireLink s z).zone z = s.zone z := (State.congr_bare (State.zone · z) link (fun _ => rfl)).trans rfl
  refine (inputChange_bare ..).trans ?_
  rw [zone, write, link, ← write]
  rfl

theorem retire_protRec (s : State) (z y : ZoneNo) (c : ClassNo) : (retire s z).protRec y c = (retireLink s z).protRec y c :=
  have read (t : State) (v : Vector (Vector ProtRec 6) 64) (w : Vector SpreadRec 4) (r : ZoneRec) :
      (clearZoneCells (((t.withProt v).withSpread w).setZone z r) z).protRec y c = v[y][c] := rfl
  (State.congr_bare (State.protRec · y c) (retire_bare s z) (fun _ => rfl)).trans (read ..)

theorem retire_dark (s : State) (z : ZoneNo) : live (retire s z) z = false := by
  have provisioned : ((retire s z).zone z).provisioned = false := by
    rw [State.congr_bare (State.zone · z) (retire_bare s z) (fun _ => rfl)]
    exact congrArg ZoneRec.provisioned (State.setZone_zone _ z (s.zone z).retired)
  simp [live, provisioned]

theorem ownRetireZone_u8 (s : State) (z : ZoneNo) :
    ownRetireZone (u8 z.val) s = if (s.zone z).provisioned then (retire s z, replyOf .ok) else refuse s .badState := by
  simp only [ownRetireZone, namedZone, u8, numBelow_zone]

/-- Settles O20: the link, the record, the cells, and then the input change of the zone. -/
theorem retireZoneTakesZoneOut : Obligations.RetireZoneTakesZoneOut := by
  intro s z frame
  have owner := ownRetireZone_u8 s z
  refine ⟨fun absent => ?_, fun present => ?_⟩
  · rw [if_neg (by rw [absent]; exact Bool.false_ne_true)] at owner
    exact exec_vn_of_owner_only_replies (r := .retireZone) (payload := u8 z.val) frame rfl rfl owner
  · rw [if_pos present] at owner
    have ports : (retire s z).ports = s.ports := by apply retire_keeps State.ports <;> intros <;> rfl
    have bare : (served s (retire s z) .vn (replyOf .ok)).bare = (retire s z).bare := served_bare
    have clip := retire_clip s z
    have idle (o : OpNo) : carrying (retire s z) z o = false := carrying_of_dark (retire_dark s z) o
    have record (y : ZoneNo) (c : ClassNo) : (served s (retire s z) .vn (replyOf .ok)).protRec y c = _ :=
      (State.congr_bare (State.protRec · y c) bare (fun _ => rfl)).trans ((retire_protRec s z y c).trans (retireLink_protRec s z y c))
    refine ⟨_, exec_vn_served (r := .retireZone) (payload := u8 z.val) frame rfl rfl owner, served_answers ports, ?_,
      fun y c => ⟨fun spared => ?_, fun lives => ?_⟩, served_awaits (mem_inputChange.mpr (.inl rfl)),
      fun law o => (served_grant ..).trans (clip.clips.grant_of_idle law (idle o)), fun y o other =>
        (served_grant ..).trans ((clip.others y other).2 o)⟩
    · have prot : (served s (retire s z) .vn (replyOf .ok)).prot = (retireLink s z).prot :=
        (State.congr_bare State.prot (bare.trans (retire_bare s z)) (fun _ => rfl)).trans rfl
      rw [prot]
      exact served_leaving (retire_bare s z)
    · rw [record, if_neg]
      rintro ⟨here, lives⟩
      rcases spared with other | dark
      · exact other here
      · exact Bool.false_ne_true (dark.symm.trans lives)
    · rw [record, if_pos ⟨rfl, lives⟩]
      exact ⟨edgeRecord_raw .., edgeRecord_latched_of_falling ..⟩

end Sys2Proof.Machine
end

section
/-! PREVIEW (R147, R148): O50. -/

namespace Sys2Proof.Machine

open Sys2Proof

/-- A full slot refuses the preview (R147). -/
theorem ownPreview_of_full {p : Port} {payload : List Byte} {z : ZoneNo} {o : OpNo} {n : Nat} {s : State} {e : PreviewSlot}
    (named : previewLane p payload = some (z, o, n)) (full : s.previewSlot p = some e) :
    ownPreview p payload s = refuse s .previewBusy := by
  simp only [ownPreview, named, full]

/-- An empty slot takes the preview, with its request clamped (R147). -/
theorem ownPreview_of_empty {p : Port} {payload : List Byte} {z : ZoneNo} {o : OpNo} {n : Nat} {s : State}
    (named : previewLane p payload = some (z, o, n)) (empty : s.previewSlot p = none) :
    ownPreview p payload s =
      (s.setPreview p (some { zone := z, operator := o, request := if 8000 < n then 8000 else n, running := false, cancelled := false }),
        replyOf (if 8000 < n then .clamped else .ok)) := by
  have least : min n Config.maxRequest = if 8000 < n then 8000 else n := by
    rw [show Config.maxRequest = 8000 from rfl]
    split <;> omega
  have code : okOrClamped n (if 8000 < n then 8000 else n) = replyOf (if 8000 < n then .clamped else .ok) := by
    rw [okOrClamped_eq]
    by_cases above : 8000 < n
    · simp [above, Nat.ne_of_lt above]
    · simp [above]
  simp only [ownPreview, named, empty, least, code]

theorem previewLane_u8 {p : Port} {o : OpNo} {n : Nat} {payload : List Byte} {s : State} (z : ZoneNo) (range : n ≤ 65535)
    (form : (p = .op o ∧ Tenant s o ∧ payload = u8 z.val ++ u16 n) ∨ (p = .vn ∧ payload = u8 z.val ++ u8 o.val ++ u16 n)) :
    previewLane p payload = some (z, o, n) ∧ testsBeforeOwner s p .preview payload.length = none := by
  rcases form with ⟨rfl, tenant, rfl⟩ | ⟨rfl, rfl⟩
  · refine ⟨?_, tests_op (lens := [3]) rfl tenant rfl⟩
    simp [previewLane, u8, u16, num16_u16 range]
  · refine ⟨?_, tests_vn (lens := [4]) rfl rfl⟩
    simp [previewLane, u8, u16, num16_u16 range]

/-- A slot that is filled is work that came (R142). -/
theorem workArrived_setPreview {s : State} {p : Port} (empty : s.previewSlot p = none) (e : PreviewSlot) :
    workArrived s (s.setPreview p (some e)) = true := by
  refine Bool.or_eq_true_iff.mpr (.inr (List.any_eq_true.mpr ⟨p, mem_allPorts p, ?_⟩))
  simp [empty]

/-- With no other work, the preview that fills its slot on a FREE engine is the one that the arbitration starts (R143). -/
theorem endEvent_setPreview {s : State} (free : s.flight = none) (unqueued : s.realloc = []) (empty : ∀ x, s.previewSlot x = none)
    (p : Port) {e : PreviewSlot} (waits : e.running = false) :
    endEvent s (s.setPreview p (some e)) = startPreview (s.setPreview p (some e)) p e := by
  have here : (s.setPreview p (some e)).previewSlot p = some e := State.setPreview_previewSlot ..
  have alone (x : Port) (y : PreviewSlot) (held : waitingPreview (s.setPreview p (some e)) x = some y) : x = p := by
    by_contra other
    have slot := (waitingPreview_eq_some_iff.mp held).1
    rw [State.setPreview_previewSlot_ne s _ other, empty] at slot
    exact nomatch slot
  have chosen : nextPreview (s.setPreview p (some e)) = some (p, e) :=
    nextPreview_eq_some (waitingPreview_eq_some_iff.mpr ⟨here, waits⟩) fun x y held => by rw [alone x y held]
  rw [endEvent, State.setPreview_flight, free, workArrived_setPreview (empty p)]
  exact arbitrate_of_preview chosen (.inl unqueued)

/-- What a preview runs on: the zone's inputs, with the lane's own request replaced where the lane carries (R148). -/
theorem previewSnapshot_requests (s : State) (e : PreviewSlot) : previewSnapshot s e =
    { budget := effBudget s e.zone, shares := #v[(s.oper 0).share, (s.oper 1).share, (s.oper 2).share, (s.oper 3).share]
      requests := vec4 fun x =>
        if x = e.operator ∧ carrying s e.zone e.operator = true then e.request else effRequest s e.zone x } := by
  have requests : (if carrying s e.zone e.operator then (snapshotOf s e.zone).requests.set e.operator e.request
      else (snapshotOf s e.zone).requests) = vec4 fun x =>
        if x = e.operator ∧ carrying s e.zone e.operator = true then e.request else effRequest s e.zone x := by
    refine Vector.ext fun i bound => ?_
    by_cases carries : carrying s e.zone e.operator = true
    · simp only [carries, if_true, and_true, snapshotOf, vec4, Vector.getElem_set, Vector.getElem_ofFn, Fin.ext_iff, eq_comm]
    · simp [carries, snapshotOf, vec4]
  rw [previewSnapshot_eq, requests]
  rfl

/-- A start on the state that has just filled the slot. -/
theorem startPreview_setPreview (s : State) (p : Port) (e : PreviewSlot) :
    startPreview (s.setPreview p (some e)) p e =
      { s.setPreview p (some { e with running := true }) with
        consecutive := 0, lastPort := p
        flight := some
          { zone := e.zone, kind := .preview p e.operator e.request (previewSector s e), snapshot := previewSnapshot s e } } := by
  have twice : (s.setPreview p (some e)).setPreview p (some { e with running := true }) =
      s.setPreview p (some { e with running := true }) := by
    unfold State.setPreview
    rw [Vector.set_set]
  have sector : previewSector (s.setPreview p (some e)) e = previewSector s e := rfl
  have snapshot : previewSnapshot (s.setPreview p (some e)) e = previewSnapshot s e := rfl
  rw [startPreview, twice, sector, snapshot]

/-- Settles O50: a full slot refuses, a slot filled on a BUSY engine waits, and one filled on an idle engine starts. -/
theorem previewFillsItsSlot : Obligations.PreviewFillsItsSlot := by
  intro s p z o n payload frame range form q rep slot E
  obtain ⟨lane, tests⟩ := previewLane_u8 z range form
  refine ⟨fun full => ?_, fun empty busy => ?_, fun free unqueued empty => ?_⟩
  · obtain ⟨e, held⟩ := Option.ne_none_iff_exists'.mp full
    exact exec_of_owner_replies frame tests (ownPreview_of_full lane held)
  · obtain ⟨c, held⟩ := Option.ne_none_iff_exists'.mp busy
    have waits : endEvent s (s.setPreview p (some (slot false))) = s.setPreview p (some (slot false)) := by
      rw [endEvent, State.setPreview_flight, held]
      rfl
    exact (exec_of_owner frame tests (ownPreview_of_empty lane empty)).trans (congrArg (fun t => Host.Outcome.next (answer t p rep)) waits)
  · have starts : endEvent s (s.setPreview p (some (slot false))) = _ :=
      (endEvent_setPreview free unqueued empty p rfl).trans (startPreview_setPreview ..)
    rw [previewSnapshot_requests] at starts
    exact (exec_of_owner frame tests (ownPreview_of_empty lane (empty p))).trans (congrArg (fun t => Host.Outcome.next (answer t p rep)) starts)

end Sys2Proof.Machine
end

section
/-! The outputs of a zone and the queue (R75), and FAULT CLEAR (R77): O41. -/

namespace Sys2Proof.Machine

open Sys2Proof

/-! ## Folds of an operation that rewrites one entry at a time -/

/-- An operation that rewrites the entry it is given, taken once for each entry of a list. -/
theorem foldl_rewrites {α β : Type} [DecidableEq α] {f : State → α → State} (read : State → α → β) (g : α → β → β)
    (step : ∀ s a b, read (f s a) b = if b = a then g b (read s b) else read s b) {l : List α} (once : l.Nodup) (s : State)
    (b : α) : read (l.foldl f s) b = if b ∈ l then g b (read s b) else read s b := by
  induction l generalizing s with
  | nil => simp
  | cons a l ih =>
    obtain ⟨fresh, rest⟩ := List.nodup_cons.mp once
    rw [List.foldl_cons, ih rest, step]
    by_cases h : b = a
    · subst h
      simp [fresh]
    · simp [h]

/-! ## A zone whose outputs changed is queued -/

theorem outputsChanged_of {s t : State} {z : ZoneNo} (h : muted s z ≠ muted t z ∨ derate s z ≠ derate t z) :
    outputsChanged s t z = true := by
  simpa [outputsChanged] using h

theorem outputsChanged_self (s : State) (z : ZoneNo) : outputsChanged s s z = false := by simp [outputsChanged]

/-- Outputs that differ at the end of two steps differ over one of them. -/
theorem outputsChanged_cases {s u t : State} {z : ZoneNo} (h : outputsChanged s t z = true) :
    outputsChanged s u z = true ∨ outputsChanged u t z = true := by
  by_contra neither
  obtain ⟨early, late⟩ := not_or.mp neither
  simp [outputsChanged] at h early late
  obtain ⟨mute, derate⟩ := early
  rw [mute, derate] at h
  rcases h with h | h
  · exact h late.1
  · exact h late.2

/-- Outputs are those of the records, the modes and the levels. -/
theorem outputsChanged_of_records {s t : State} {z : ZoneNo} (records : ∀ c, (t.protRec z c).state = (s.protRec z c).state)
    (modes : t.modes = s.modes) (temp : t.tempLevel = s.tempLevel) (reflect : t.reflectLevel = s.reflectLevel) :
    outputsChanged s t z = false := by
  simp [outputsChanged, muted_of_records records modes, derate_of_records records modes temp reflect]

theorem outputsChanged_of_withProt {s t : State} {v : Vector (Vector ProtRec 6) 64} {z : ZoneNo} (whole : t.bare = s.bare.withProt v)
    (records : ∀ c, (t.protRec z c).state = (s.protRec z c).state) : outputsChanged s t z = false := by
  have same {β : Type} (g : State → β) (hg : ∀ x : State, g x.bare = g x) : g t = g (s.withProt v) := State.congr_bare g whole hg
  exact outputsChanged_of_records records (same State.modes fun _ => rfl) (same State.tempLevel fun _ => rfl)
    (same State.reflectLevel fun _ => rfl)

theorem takeOutputs_queued {old s : State} {z : ZoneNo} (h : outputsChanged old (takeOutputs old s z) z = true) :
    z ∈ (takeOutputs old s z).realloc := by
  rw [outputsChanged_congr (takeOutputs_bare old s z)] at h
  rw [takeOutputs, if_pos h]
  exact mem_inputChange.mpr (.inl rfl)

theorem takeOutputs_kept (old s : State) (z : ZoneNo) {y : ZoneNo} (queued : y ∈ s.realloc) : y ∈ (takeOutputs old s z).realloc := by
  unfold takeOutputs
  split
  · have same : (outputNotices old s z).realloc = s.realloc := outputNotices_keeps State.realloc (fun _ _ => rfl) ..
    exact mem_inputChange.mpr (.inr (same.symm ▸ queued))
  · exact queued

theorem foldl_takeOutputs_kept (old : State) (l : List ZoneNo) (s : State) {y : ZoneNo} (queued : y ∈ s.realloc) :
    y ∈ (l.foldl (takeOutputs old) s).realloc := by
  induction l generalizing s with
  | nil => exact queued
  | cons z l ih => exact ih _ (takeOutputs_kept old s z queued)

/-- The outputs of every zone of a list, taken against one state: each that changed is queued. -/
theorem foldl_takeOutputs_queued {old s : State} {l : List ZoneNo} {y : ZoneNo} (named : y ∈ l)
    (h : outputsChanged old (l.foldl (takeOutputs old) s) y = true) : y ∈ (l.foldl (takeOutputs old) s).realloc := by
  induction l generalizing s with
  | nil => exact absurd named List.not_mem_nil
  | cons z l ih =>
    rcases List.mem_cons.mp named with rfl | later
    · refine foldl_takeOutputs_kept old l _ (takeOutputs_queued ?_)
      rwa [List.foldl_cons, outputsChanged_congr (foldl_takeOutputs_bare ..)] at h
    · exact ih later h

/-- A zone of an answered event awaits its allocation where its outputs changed. -/
theorem served_awaits_outputs {s u : State} {p : Port} {rep : Reply} {z : ZoneNo}
    (queued : outputsChanged s u z = true → z ∈ u.realloc)
    (h : muted s z ≠ muted (served s u p rep) z ∨ derate s z ≠ derate (served s u p rep) z) :
    AwaitsAllocation (served s u p rep) z := by
  have changed := outputsChanged_of h
  rw [outputsChanged_congr served_bare] at changed
  exact served_awaits (queued changed)

/-! ## FAULT CLEAR -/

/-- A record after FAULT CLEAR (R77). -/
def ProtRec.cleared (r : ProtRec) : ProtRec :=
  if r.raw then r else { raw := false, latched := false, state := if r.state = .held then .idle else r.state }

theorem clearRecord_protRec (s : State) (z : ZoneNo) (c d : ClassNo) :
    (clearRecord s z c).protRec z d = if d = c then (s.protRec z d).cleared else s.protRec z d := by
  have told (u : State) (v : Nat) : (fileAlarm u z c .alarmCleared v).protRec z c = u.protRec z c :=
    fileAlarm_keeps (State.protRec · z c) (fun _ _ => rfl) ..
  by_cases same : d = c
  · subst same
    rw [if_pos rfl, clearRecord, ProtRec.cleared]
    split
    · rfl
    · next clear =>
      have clear : (s.protRec z d).raw = false := by simpa using clear
      split
      · rw [told, State.setProt_protRec, clear]
      · rw [State.setProt_protRec, clear]
  · rw [if_neg same]
    exact clearRecord_protRec_ne s (.inr same)

theorem clearZone_protRec (s : State) (z y : ZoneNo) (c : ClassNo) :
    (clearZone s z).protRec y c = if y = z then (s.protRec y c).cleared else s.protRec y c := by
  have whole : (clearZone s z).protRec y c = (allClasses.foldl (fun t c => clearRecord t z c) s).protRec y c :=
    State.congr_bare (State.protRec · y c) (takeOutputs_bare ..) (fun _ => rfl)
  rw [whole]
  by_cases here : y = z
  · subst here
    rw [if_pos rfl]
    exact (foldl_rewrites (fun t d => t.protRec y d) (fun _ => ProtRec.cleared) (fun t d e => clearRecord_protRec t y d e)
      (List.nodup_finRange 6) s c).trans (if_pos (List.mem_finRange c))
  · rw [if_neg here]
    exact foldl_keeps (State.protRec · y c) _ (fun u d => clearRecord_protRec_ne u (.inl here)) allClasses s

theorem clearZone_bare (s : State) (z : ZoneNo) : (clearZone s z).bare = s.bare.withProt (clearZone s z).prot := by
  have records := (clearRecord_zoneRecords z).foldl_bare allClasses s
  have whole : (clearZone s z).bare = (allClasses.foldl (fun t c => clearRecord t z c) s).bare := takeOutputs_bare ..
  rw [State.congr_bare State.prot whole (fun _ => rfl), whole, records]

theorem foldl_clearZone_bare (l : List ZoneNo) (s : State) :
    (l.foldl clearZone s).bare = s.bare.withProt (l.foldl clearZone s).prot := by
  induction l generalizing s with
  | nil => rfl
  | cons z l ih =>
    have later := ih (clearZone s z)
    rw [clearZone_bare s z] at later
    exact later

theorem foldl_clearZone_protRec {l : List ZoneNo} (once : l.Nodup) (s : State) (z : ZoneNo) (c : ClassNo) :
    (l.foldl clearZone s).protRec z c = if z ∈ l then (s.protRec z c).cleared else s.protRec z c :=
  foldl_rewrites (fun t y => t.protRec y c) (fun _ => ProtRec.cleared) (fun t y x => clearZone_protRec t y x c) once s z

theorem clearZone_outputs_ne (s : State) {z y : ZoneNo} (other : y ≠ z) : outputsChanged s (clearZone s z) y = false := by
  refine outputsChanged_of_withProt (clearZone_bare s z) fun c => ?_
  rw [clearZone_protRec, if_neg other]

theorem clearZone_kept (s : State) (z : ZoneNo) {y : ZoneNo} (queued : y ∈ s.realloc) : y ∈ (clearZone s z).realloc :=
  (clearZone_clip s z).kept y queued

theorem foldl_clearZone_kept (l : List ZoneNo) (s : State) {y : ZoneNo} (queued : y ∈ s.realloc) : y ∈ (l.foldl clearZone s).realloc := by
  induction l generalizing s with
  | nil => exact queued
  | cons z l ih => exact ih _ (clearZone_kept s z queued)

/-- Each zone whose outputs the clearing changed is queued. -/
theorem foldl_clearZone_queued {l : List ZoneNo} {s : State} {y : ZoneNo} (h : outputsChanged s (l.foldl clearZone s) y = true) :
    y ∈ (l.foldl clearZone s).realloc := by
  induction l generalizing s with
  | nil => exact absurd ((outputsChanged_self s y).symm.trans h) Bool.noConfusion
  | cons z l ih =>
    rcases outputsChanged_cases (u := clearZone s z) h with early | late
    · have here : y = z := by
        by_contra other
        exact absurd ((clearZone_outputs_ne s other).symm.trans early) Bool.noConfusion
      subst here
      exact foldl_clearZone_kept l _ (takeOutputs_queued early)
    · exact ih late

/-- The latched bits that FAULT CLEAR counts, zone by zone. -/
theorem latchedCount_eq (s : State) (zones : List ZoneNo) :
    latchedCount s zones = (zones.flatMap fun z => allClasses.filter fun c => (s.protRec z c).latched).length := by
  have step (l : List ZoneNo) (n : Nat) : l.foldl (fun n z => n + allClasses.countP fun c => (s.protRec z c).latched) n =
      n + (l.flatMap fun z => allClasses.filter fun c => (s.protRec z c).latched).length := by
    induction l generalizing n with
    | nil => rfl
    | cons z l ih => rw [List.foldl_cons, ih, List.flatMap_cons, List.length_append, ← List.countP_eq_length_filter, Nat.add_assoc]
  exact (step zones 0).trans (Nat.zero_add _)

theorem ProtRec.cleared_latched (r : ProtRec) : r.cleared.latched = (r.raw && r.latched) := by
  unfold ProtRec.cleared
  split
  · next up => rw [up, Bool.true_and]
  · next down => rw [Bool.eq_false_iff.mpr down, Bool.false_and]

/-- What is left latched is what a set raw bit holds (R77). -/
theorem latchedCount_cleared {zones : List ZoneNo} (once : zones.Nodup) (s : State) :
    latchedCount (zones.foldl clearZone s) zones =
      (zones.flatMap fun z => allClasses.filter fun c => (s.protRec z c).raw && (s.protRec z c).latched).length := by
  rw [latchedCount_eq]
  refine congrArg List.length (List.flatMap_congr fun z named => List.filter_congr fun c _ => ?_)
  rw [foldl_clearZone_protRec once, if_pos named, ProtRec.cleared_latched]

/-- Settles O41: the zones of the list cleared one after the other. -/
theorem faultClearReleases : Obligations.FaultClearReleases := by
  intro s b zones frame named left
  have once : zones.Nodup := by
    rcases named with ⟨-, rfl⟩ | ⟨z, -, rfl⟩
    · exact List.nodup_finRange 64
    · exact List.nodup_singleton z
  have owner : ownFaultClear [b] s = (zones.foldl clearZone s, clearReply left) := by
    simp only [ownFaultClear, zoneOrAll_of named, latchedCount_cleared once]
    rfl
  have bare := foldl_clearZone_bare zones s
  have records (z : ZoneNo) (c : ClassNo) := foldl_clearZone_protRec once s z c
  have queued (z : ZoneNo) := foldl_clearZone_queued (l := zones) (s := s) (y := z)
  have ports : (zones.foldl clearZone s).ports = s.ports :=
    foldl_keeps State.ports clearZone (fun u z => by apply clearZone_keeps State.ports <;> intros <;> rfl) zones s
  generalize zones.foldl clearZone s = u at *
  refine ⟨_, exec_vn_served (r := .faultClear) (payload := [b]) (lens := [1]) frame rfl rfl owner, served_answers ports, ?_,
    fun z => ⟨served_awaits_outputs (queued z), fun c => ?_⟩⟩
  · have prot : (served s u .vn (clearReply left)).prot = u.prot := State.congr_bare State.prot served_bare (fun _ => rfl)
    rw [prot]
    exact served_leaving bare
  · have record : (served s u .vn (clearReply left)).protRec z c = u.protRec z c :=
      State.congr_bare (State.protRec · z c) served_bare (fun _ => rfl)
    rw [record, records, ProtRec.cleared]
    by_cases here : z ∈ zones
    · cases raw : (s.protRec z c).raw <;> simp [here]
    · simp [here]

end Sys2Proof.Machine
end

section
/-! SET CLASS MODE and SET DERATE LEVEL (R65 to R67): O40. -/

namespace Sys2Proof.Machine

open Sys2Proof

/-- The modes that each class permits, as the table of R64 lists them. -/
def permittedModes : List (List ClassMode) :=
  [[.derate, .report, .ignore], [.latch, .retrySlow, .retryFast], [.derate, .latch, .retrySlow, .retryFast, .report],
   [.latch, .retrySlow, .retryFast, .report, .ignore], [.latch, .retrySlow, .retryFast, .report], [.report, .ignore]]

theorem mem_permittedModes (c : ClassNo) (m : ClassMode) : m ∈ permittedModes[c.val]! ↔ permits c m = true := by
  revert c
  cases m <;> decide

theorem modeOfCode_eq_some_iff {b : Byte} {m : ClassMode} : modeOfCode b = some m ↔ b.toNat = m.code := by
  unfold modeOfCode
  constructor
  · intro named
    split at named <;> cases named <;> assumption
  · intro code
    rw [code]
    cases m <;> rfl

/-! ## The owner, case by case -/

section Owner

variable {s : State} {c : ClassNo} {b : Byte}

theorem ownSetClassMode_of_mode {m : ClassMode} (code : b.toNat = m.code) (legal : permits c m = true) :
    ownSetClassMode (u8 c.val ++ [b]) s = (if s.mode c = m then s else changeMode s c m, replyOf .ok) := by
  simp only [ownSetClassMode, u8, List.cons_append, List.nil_append, numBelow_class, modeOfCode_eq_some_iff.mpr code, legal, if_true]

theorem ownSetClassMode_of_illegal (illegal : ∀ m : ClassMode, b.toNat = m.code → permits c m = false) :
    ownSetClassMode (u8 c.val ++ [b]) s = refuse s .badMode := by
  simp only [ownSetClassMode, u8, List.cons_append, List.nil_append, numBelow_class]
  cases named : modeOfCode b with
  | none => rfl
  | some m => simp [illegal m (modeOfCode_eq_some_iff.mp named)]

theorem ownSetDerateLevel_of_unlevelled (first : c ≠ 0) (second : c ≠ 2) :
    ownSetDerateLevel (u8 c.val ++ [b]) s = refuse s .badMode := by
  simp only [ownSetDerateLevel, u8, List.cons_append, List.nil_append, numBelow_class, if_neg (not_or.mpr ⟨first, second⟩)]

theorem ownSetDerateLevel_of_zero (levelled : c = 0 ∨ c = 2) : ownSetDerateLevel (u8 c.val ++ [0]) s = refuse s .outOfRange := by
  simp only [ownSetDerateLevel, u8, List.cons_append, List.nil_append, numBelow_class, if_pos levelled, if_true]

theorem ownSetDerateLevel_of_level (levelled : c = 0 ∨ c = 2) (some : b ≠ 0) :
    ownSetDerateLevel (u8 c.val ++ [b]) s = (allZones.foldl (takeOutputs s) (storeLevel s c b.toNat), replyOf .ok) := by
  simp only [ownSetDerateLevel, u8, List.cons_append, List.nil_append, numBelow_class, if_pos levelled, if_neg some]

end Owner

/-! ## The mode -/

theorem reenter_of_raw {m : ClassMode} {r : ProtRec} (raw : r.raw = true) (heeded : m ≠ .ignore) :
    reenter m r = { raw := true, state := .active, latched := true } := by
  rw [reenter, if_pos raw, if_neg heeded, raw]

theorem reenter_of_quiet {m : ClassMode} {r : ProtRec} (quiet : r.raw = false ∨ m = .ignore) : reenter m r = { r with state := .idle } := by
  rw [reenter]
  rcases quiet with clear | ignored
  · rw [if_neg (by rw [clear]; exact Bool.false_ne_true)]
  · rw [if_pos ignored, ite_self]

theorem changeMode_ports (s : State) (c : ClassNo) (m : ClassMode) : (changeMode s c m).ports = s.ports := by
  apply changeMode_keeps State.ports <;> intros <;> rfl

theorem changeMode_queued {s : State} {c : ClassNo} {m : ClassMode} {z : ZoneNo}
    (changed : outputsChanged s (changeMode s c m) z = true) : z ∈ (changeMode s c m).realloc := by
  rw [changeMode_eq] at *
  exact foldl_takeOutputs_queued (List.mem_finRange z) changed

theorem foldl_takeOutputs_ports (old : State) (l : List ZoneNo) (s : State) : (l.foldl (takeOutputs old) s).ports = s.ports :=
  foldl_keeps State.ports _ (fun u z => by apply takeOutputs_keeps State.ports <;> intros <;> rfl) l s

/-- A new mode (R66). -/
theorem classMode_changed (s : State) (c : ClassNo) (m : ClassMode) :
    let t := served s (changeMode s c m) .vn (replyOf .ok)
    Answers s t .vn (replyOf .ok) ∧ t = ({ s with modes := s.modes.set c m, prot := t.prot } : State).leaving t ∧
      ∀ z : ZoneNo, (muted s z ≠ muted t z ∨ derate s z ≠ derate t z → AwaitsAllocation t z) ∧
        (∀ d, d ≠ c → t.protRec z d = s.protRec z d) ∧ (t.protRec z c).raw = (s.protRec z c).raw ∧
        ((s.protRec z c).raw = true → m ≠ .ignore → t.protRec z c = { raw := true, state := .active, latched := true }) ∧
        ((s.protRec z c).raw = false ∨ m = .ignore → t.protRec z c = { s.protRec z c with state := .idle }) := by
  intro t
  have ports := changeMode_ports s c m
  have bare := changeMode_bare s c m
  have answered : t.bare = (changeMode s c m).bare := served_bare
  have record (z : ZoneNo) (d : ClassNo) : t.protRec z d = if d = c then reenter m (s.protRec z c) else s.protRec z d :=
    (State.congr_bare (State.protRec · z d) (answered.trans bare) (fun _ => rfl)).trans (reenterClass_protRec ..)
  have own (z : ZoneNo) : t.protRec z c = reenter m (s.protRec z c) := (record z c).trans (if_pos rfl)
  refine ⟨served_answers ports, ?_, fun z => ⟨served_awaits_outputs changeMode_queued, fun d other => (record z d).trans (if_neg other),
    ?_, fun raw heeded => (own z).trans (reenter_of_raw raw heeded), fun quiet => (own z).trans (reenter_of_quiet quiet)⟩⟩
  · have prot : t.prot = (reenterClass s c m).prot := State.congr_bare State.prot (answered.trans bare) (fun _ => rfl)
    rw [prot]
    exact eq_leaving_iff.mpr (answered.trans bare)
  · rw [own, reenter_raw]

/-! ## The level -/

/-- A level that is stored (R67): the clips of the budgets alone. -/
theorem derateLevel_stored (s : State) (c : ClassNo) (n : Nat) :
    let t := served s (allZones.foldl (takeOutputs s) (storeLevel s c n)) .vn (replyOf .ok)
    Answers s t .vn (replyOf .ok) ∧ t = (storeLevel s c n).leaving t ∧
      ∀ z : ZoneNo, (derate s z ≠ derate t z → AwaitsAllocation t z) ∧ ∀ o : OpNo, t.grant z o =
        if effBudget t z < effBudget s z then s.grant z o * effBudget t z / effBudget s z else s.grant z o := by
  intro t
  have clips := level_clips s c n
  have bare := foldl_takeOutputs_bare s allZones (storeLevel s c n)
  have ports : (allZones.foldl (takeOutputs s) (storeLevel s c n)).ports = s.ports :=
    (foldl_takeOutputs_ports ..).trans (storeLevel_keeps' State.ports (fun _ _ => rfl) (fun _ _ => rfl) ..)
  have request (z : ZoneNo) (o : OpNo) :
      effRequest (allZones.foldl (takeOutputs s) (storeLevel s c n)) z o = effRequest s z o :=
    (State.congr_bare (effRequest · z o) bare (fun _ => rfl)).trans
      (storeLevel_keeps' (effRequest · z o) (fun _ _ => rfl) (fun _ _ => rfl) ..)
  have queued (z : ZoneNo) := foldl_takeOutputs_queued (old := s) (s := storeLevel s c n) (List.mem_finRange z)
  refine ⟨served_answers ports, served_leaving bare, fun z => ⟨fun changed => served_awaits_outputs (queued z) (.inr changed), fun o => ?_⟩⟩
  have budget : effBudget t z = effBudget (allZones.foldl (takeOutputs s) (storeLevel s c n)) z :=
    State.congr_bare (effBudget · z) served_bare (fun _ => rfl)
  rw [budget]
  exact (served_grant ..).trans (clips.grant_of_budget (request z o))

/-- Settles O40. -/
theorem classSettingsTaken : Obligations.ClassSettingsTaken := by
  intro s c b frame permitted
  refine ⟨fun m code legal => ?_, fun illegal => ?_, fun first second => ?_, fun levelled => ⟨fun zero => ?_, fun some => ?_⟩⟩
  · have owner := ownSetClassMode_of_mode (s := s) code ((mem_permittedModes c m).mp legal)
    refine ⟨fun held => ?_, fun new => ?_⟩
    · rw [if_pos held] at owner
      exact exec_vn_of_owner_only_replies (r := .setClassMode) (lens := [2]) frame rfl rfl owner
    · rw [if_neg new] at owner
      exact ⟨_, exec_vn_served (r := .setClassMode) (lens := [2]) frame rfl rfl owner, classMode_changed s c m⟩
  · exact exec_vn_of_owner_only_replies (r := .setClassMode) (lens := [2]) frame rfl rfl (ownSetClassMode_of_illegal fun m code =>
      Bool.eq_false_iff.mpr fun legal => illegal m code ((mem_permittedModes c m).mpr legal))
  · exact exec_vn_of_owner_only_replies (r := .setDerateLevel) (lens := [2]) frame rfl rfl (ownSetDerateLevel_of_unlevelled first second)
  · subst zero
    exact exec_vn_of_owner_only_replies (r := .setDerateLevel) (lens := [2]) frame rfl rfl (ownSetDerateLevel_of_zero levelled)
  · exact ⟨_, exec_vn_served (r := .setDerateLevel) (lens := [2]) frame rfl rfl (ownSetDerateLevel_of_level levelled some),
      derateLevel_stored s c b.toNat⟩

end Sys2Proof.Machine
end

section
/-! The counts that expire in events of their own (R56, R71, R112): O42. -/

namespace Sys2Proof.Machine

open Sys2Proof

theorem dwellExpiry_of_due {s : State} {z : ZoneNo} (runs : s.transport ≠ .stopped) (lost : (s.link z).state = .lost)
    (due : 63 ≤ (s.link z).dwell) : dwellExpiry s z = s.setLink z (s.link z).toSearch :=
  if_pos ⟨runs, lost, Nat.succ_le_succ due⟩

/-! ## A proposal -/

theorem proposalExpiry_of_due {s : State} {o : OpNo} {p : Proposal} (runs : s.transport ≠ .stopped)
    (stands : (s.spreadRec o).proposal = some p) (due : p.remaining ≤ 1) : proposalExpiry s o = expireProposal s o p := by
  have expires : expiring s o = some p := by simp only [expiring, stands, if_pos due]
  rw [proposalExpiry, expires]
  exact if_neg runs

theorem expireProposal_of_apply {s : State} {o : OpNo} (p : Proposal) (rule : (s.oper o).silence = .apply) :
    expireProposal s o p =
      file (closeProposal (workingWrite s p.zone o (some p.toSector)) o p) [.op o, .vn] (proposalNotice s .proposalExpired o p 1) := by
  simp only [expireProposal, rule]
  rfl

theorem expireProposal_of_drop {s : State} {o : OpNo} (p : Proposal) (rule : (s.oper o).silence = .drop) :
    expireProposal s o p =
      file (closeProposal (s.setSettle p.zone o s.settleTime) o p) [.op o, .vn] (proposalNotice s .proposalExpired o p 2) := by
  simp only [expireProposal, rule]
  rfl

/-! ## What a record that leaves RECOVERING gives back -/

theorem le_derate_iff {s : State} {z : ZoneNo} {n : Nat} :
    n ≤ derate s z ↔ n ≤ Config.noDerate ∧ ∀ c, n ≤ classDerate s z c := by
  have step (l : List ClassNo) (d : Nat) :
      n ≤ l.foldl (fun d c => min d (classDerate s z c)) d ↔ n ≤ d ∧ ∀ c ∈ l, n ≤ classDerate s z c := by
    induction l generalizing d with
    | nil => simp
    | cons c l ih => rw [List.foldl_cons, ih, Nat.le_min, List.forall_mem_cons, and_assoc]
  exact (step allClasses Config.noDerate).trans (and_congr_right fun _ =>
    ⟨fun all c => all c (List.mem_finRange c), fun all c _ => all c⟩)

/-- The records of a zone are those of s, or IDLE where they are not. -/
def Relieved (s t : State) (z : ZoneNo) : Prop :=
  ∀ c, (t.protRec z c).state = (s.protRec z c).state ∨ (t.protRec z c).state = .idle

section Relief

variable {s t : State} {z : ZoneNo}

theorem muted_of_relieved (relief : Relieved s t z) (modes : t.modes = s.modes) (mutes : muted t z = true) : muted s z = true := by
  obtain ⟨c, named, own⟩ := List.any_eq_true.mp mutes
  refine List.any_eq_true.mpr ⟨c, named, ?_⟩
  rcases relief c with same | idle
  · simpa only [classMutes, same, State.mode, modes] using own
  · simp [classMutes, idle, engaged] at own

theorem derate_le_of_relieved (relief : Relieved s t z) (modes : t.modes = s.modes) (temp : t.tempLevel = s.tempLevel)
    (reflect : t.reflectLevel = s.reflectLevel) : derate s z ≤ derate t z := by
  obtain ⟨top, own⟩ := le_derate_iff.mp (Nat.le_refl (derate s z))
  refine le_derate_iff.mpr ⟨top, fun c => ?_⟩
  rcases relief c with same | idle
  · have mode : t.mode c = s.mode c := by simp only [State.mode, modes]
    have level : classLevel t c = classLevel s c := by simp only [classLevel, temp, reflect]
    have each : classDerate t z c = classDerate s z c := by simp only [classDerate, same, mode, level]
    exact (own c).trans each.ge
  · simpa [classDerate, idle, engaged] using top

end Relief

/-- Records of one zone that are relieved take no grant. -/
theorem grants_of_relieved {s t : State} {z : ZoneNo} {v : Vector (Vector ProtRec 6) 64} (clip : ZoneClip s s z t)
    (bare : t.bare = s.bare.withProt v) (relief : Relieved s t z) : t.grants = s.grants := by
  have same {β : Type} (g : State → β) (hg : ∀ x : State, g x.bare = g x) : g t = g (s.withProt v) := State.congr_bare g bare hg
  have modes : t.modes = s.modes := same State.modes fun _ => rfl
  have zones : t.zone z = s.zone z := same (State.zone · z) fun _ => rfl
  have links : live t z = live s z := same (live · z) fun _ => rfl
  have factor := derate_le_of_relieved relief modes (same State.tempLevel fun _ => rfl) (same State.reflectLevel fun _ => rfl)
  have budget : effBudget s z ≤ effBudget t z := by
    rw [effBudget, effBudget, zones]
    exact Nat.div_le_div_right (Nat.mul_le_mul_left _ factor)
  have carries (o : OpNo) (before : carrying s z o = true) : carrying t z o = true := by
    have others : (decide (t.transport ≠ .stopped) && decide ((t.oper o).tenancy = .active) && bindingServes t o (t.active z o) &&
        slotted t z o) = (decide (s.transport ≠ .stopped) && decide ((s.oper o).tenancy = .active) &&
          bindingServes s o (s.active z o) && slotted s z o) := same (fun x => decide (x.transport ≠ .stopped) &&
            decide ((x.oper o).tenancy = .active) && bindingServes x o (x.active z o) && slotted x z o) fun _ => rfl
    have quiet : muted s z = false → muted t z = false := fun clear =>
      Bool.eq_false_iff.mpr fun up => absurd (clear.symm.trans (muted_of_relieved relief modes up)) Bool.noConfusion
    simp only [carrying, Bool.and_eq_true, Bool.not_eq_true'] at before others ⊢
    obtain ⟨⟨⟨⟨runs, lives, clear⟩, tenant⟩, serves⟩, slot⟩ := before
    simp only [runs, tenant, serves, slot, Bool.and_true, Bool.and_eq_true] at others
    obtain ⟨⟨⟨runs', tenant'⟩, serves'⟩, slot'⟩ := others
    exact ⟨⟨⟨⟨runs', links.trans lives, quiet clear⟩, tenant'⟩, serves'⟩, slot'⟩
  have request (o : OpNo) : effRequest s z o ≤ effRequest t z o := by
    have bound : bindingRequest t o (t.active z o) = bindingRequest s o (s.active z o) :=
      same (fun x => bindingRequest x o (x.active z o)) fun _ => rfl
    unfold effRequest
    split
    · next before => rw [if_pos (carries o before), bound]
    · exact Nat.zero_le _
  refine grants_ext fun y o => ?_
  by_cases here : y = z
  · subst here
    exact (clip.own o).trans (clippedGrant_of_le budget (request o))
  · exact (clip.others y here).2 o

/-! ## A notice among the newest of a queue -/

/-- The notice stands in the queue with at most k newer ones. -/
def Recent (k : Nat) (n : Notice) (q : NoticeQueue) : Prop := ∃ newer : List Notice, n :: newer <:+ q.records ∧ newer.length ≤ k

theorem Recent.mem {k : Nat} {n : Notice} {q : NoticeQueue} (h : Recent k n q) : n ∈ q.records := by
  obtain ⟨newer, stands, -⟩ := h
  exact stands.subset List.mem_cons_self

theorem Recent.mono {k m : Nat} {n : Notice} {q : NoticeQueue} (h : Recent k n q) (more : k ≤ m) : Recent m n q := by
  obtain ⟨newer, stands, few⟩ := h
  exact ⟨newer, stands, few.trans more⟩

theorem recent_append (n : Notice) (q : NoticeQueue) : Recent 0 n (appendNotice q n) := by
  refine ⟨[], ?_, Nat.le_refl 0⟩
  unfold appendNotice
  split <;> exact List.suffix_append ..

/-- A full queue loses its oldest notice, which a recent one is not (R157). -/
theorem Recent.append {k : Nat} {n : Notice} {q : NoticeQueue} (h : Recent k n q) (room : k + 1 < Config.noticeCapacity) (m : Notice) :
    Recent (k + 1) n (appendNotice q m) := by
  obtain ⟨newer, ⟨older, stands⟩, few⟩ := h
  refine ⟨newer ++ [m], ?_, by simpa using few⟩
  unfold appendNotice
  split
  · exact ⟨older, by rw [← stands]; simp⟩
  · next full =>
    cases older with
    | nil =>
      rw [← stands] at full
      simp at full
      omega
    | cons a older => exact ⟨older, by rw [← stands]; simp⟩

theorem zoneRoute_nodup (s : State) (z : ZoneNo) : (zoneRoute s z).Nodup := by
  refine List.nodup_cons.mpr ⟨by simp, ?_⟩
  exact ((List.nodup_finRange 4).filter _).map fun _ _ h => Port.op.inj h

theorem fileZone_noticeQueue_vn (s : State) (z : ZoneNo) (k : NoticeKind) (value : Nat) : (fileZone s z k value).noticeQueue .vn =
    appendNotice (s.noticeQueue .vn) { notice s k with zone := some z, value := some value } :=
  file_noticeQueue_of_mem s _ (zoneRoute_nodup s z) List.mem_cons_self

theorem fileAlarm_noticeQueue_vn (s : State) (z : ZoneNo) (c : ClassNo) (k : NoticeKind) (value : Nat) :
    (fileAlarm s z c k value).noticeQueue .vn =
      appendNotice (s.noticeQueue .vn) { notice s k with zone := some z, alarmClass := some c, value := some value } :=
  file_noticeQueue_of_mem s _ (zoneRoute_nodup s z) List.mem_cons_self

/-- A notice of a zone that may be filed. -/
theorem Recent.fileZone {k : Nat} {n : Notice} {s : State} (h : Recent k n (s.noticeQueue .vn)) (room : k + 1 < Config.noticeCapacity)
    (z : ZoneNo) (kind : NoticeKind) (value : Nat) (test : Prop) [Decidable test] :
    Recent (k + 1) n ((if test then Machine.fileZone s z kind value else s).noticeQueue .vn) := by
  split
  · rw [fileZone_noticeQueue_vn]
    exact h.append room _
  · exact h.mono (Nat.le_succ k)

/-- The outputs of a zone file at most two notices to VN (R75). -/
theorem Recent.outputNotices {k : Nat} {n : Notice} {s : State} (h : Recent k n (s.noticeQueue .vn))
    (room : k + 2 < Config.noticeCapacity) (old : State) (z : ZoneNo) :
    Recent (k + 2) n ((Machine.outputNotices old s z).noticeQueue .vn) := by
  have first := h.fileZone (Nat.lt_of_succ_lt room) z (if muted s z then .zoneMuted else .zoneUnmuted) (derate s z)
    ((muted old z != muted s z) = true)
  unfold Machine.outputNotices
  dsimp only
  generalize (if (muted old z != muted s z) = true then Machine.fileZone s z _ _ else s) = t at *
  exact first.fileZone room z .derateChanged (derate s z) _

theorem Recent.takeOutputs {k : Nat} {n : Notice} {s : State} (h : Recent k n (s.noticeQueue .vn)) (room : k + 2 < Config.noticeCapacity)
    (old : State) (z : ZoneNo) : Recent (k + 2) n ((takeOutputs old s z).noticeQueue .vn) := by
  unfold Machine.takeOutputs
  split
  · rw [inputChange_noticeQueue_vn]
    exact h.outputNotices room old z
  · exact h.mono (Nat.le_add_right k 2)

/-! ## A retry timer -/

theorem expireRetry_bare (s : State) (z : ZoneNo) (c : ClassNo) :
    (expireRetry s z c).bare = (s.setProt z c { s.protRec z c with state := .idle }).bare := fileAlarm_bare ..

/-- The last count of a retry timer (R71). -/
theorem retryExpiry_of_due (s : State) (z : ZoneNo) (c : ClassNo) :
    let t := endEvent s (takeOutputs s (expireRetry s z c) z)
    t = (s.setProt z c { s.protRec z c with state := .idle }).leaving t ∧ t.ports = s.ports ∧
      (muted s z ≠ muted t z ∨ derate s z ≠ derate t z → AwaitsAllocation t z) ∧ t.grants = s.grants ∧
      ∃ n : Notice, n.kind = .alarmCleared ∧ n.zone = some z ∧ n.alarmClass = some c ∧ n.value = some 2 ∧
        n ∈ (t.noticeQueue .vn).records := by
  intro t
  have clip := expireRetry_clip s z c
  have bare : (takeOutputs s (expireRetry s z c) z).bare = (s.setProt z c { s.protRec z c with state := .idle }).bare :=
    (takeOutputs_bare ..).trans (expireRetry_bare s z c)
  have ports : (takeOutputs s (expireRetry s z c) z).ports = s.ports :=
    Eq.trans (by apply takeOutputs_keeps State.ports <;> intros <;> rfl) (by apply expireRetry_keeps State.ports <;> intros <;> rfl)
  have told : Recent 2 _ ((takeOutputs s (expireRetry s z c) z).noticeQueue .vn) :=
    Recent.takeOutputs (k := 0) (by rw [expireRetry, fileAlarm_noticeQueue_vn]; exact recent_append ..) (by decide) s z
  have queued := takeOutputs_queued (old := s) (s := expireRetry s z c) (z := z)
  have relief : Relieved s (takeOutputs s (expireRetry s z c) z) z := fun d => by
    rw [State.congr_bare (State.protRec · z d) bare (fun _ => rfl)]
    by_cases same : d = c
    · exact .inr (by rw [same, State.setProt_protRec])
    · exact .inl (congrArg ProtRec.state (State.setProt_protRec_of_ne (h := .inr same) ..))
  have grants := grants_of_relieved clip bare relief
  have filed : t.noticeQueue .vn = (takeOutputs s (expireRetry s z c) z).noticeQueue .vn :=
    endEvent_keeps (State.noticeQueue · .vn) (fun _ _ => rfl) (fun _ _ => rfl) (fun _ _ => rfl) (fun _ _ => rfl) (fun _ _ => rfl) ..
  refine ⟨eq_leaving_iff.mpr ((endEvent_bare ..).trans bare), (endEvent_ports' ..).trans ports, fun changed => endEvent_awaits (queued ?_),
    (endEvent_grants ..).trans grants, _, ?_, ?_, ?_, ?_, filed ▸ told.mem⟩
  · rw [← outputsChanged_congr (endEvent_bare ..)]
    exact outputsChanged_of changed
  · rfl
  · rfl
  · rfl
  · rfl

/-- Settles O42. -/
theorem countsExpire : Obligations.CountsExpire := by
  intro s runs
  refine ⟨fun z lost due => next_congr (dwellExpiry_of_due runs lost due), fun z c left recovers due => ?_, fun o p stands due => ?_⟩
  · have now : retryDue s z c = true := by simp only [retryDue, recovers, decide_eq_true due]
    exact ⟨_, next_congr (if_pos ⟨runs, now⟩), retryExpiry_of_due s z c⟩
  · refine next_congr ((proposalExpiry_of_due runs stands due).trans ?_)
    cases rule : (s.oper o).silence with
    | apply =>
      rw [expireProposal_of_apply p rule]
      simp only [if_true, decide_true, Bool.or_true]
      rfl
    | drop =>
      rw [expireProposal_of_drop p rule]
      simp only [reduceCtorEq, if_false, decide_false, Bool.or_false]
      rfl

end Sys2Proof.Machine
end

section
/-! The words of a searching link (R51, R52, R58): O37. -/

namespace Sys2Proof.Machine

open Sys2Proof

/-! ## The end of a word's slot -/

/-- A word of a provisioned zone is taken, in an event of its own (R43). -/
theorem uplinkSlot_taken {s : State} {spoke : SpokeNo} {pos : PosNo} (runs : s.transport ≠ .stopped)
    (present : (s.zone (zoneAt spoke pos)).provisioned = true) (word : List Byte) :
    uplinkSlot s spoke pos word = endEvent s (takeWord s (zoneAt spoke pos) (judgeWord pos word)) := if_pos ⟨runs, present⟩

theorem takeWord_missed (s : State) (z : ZoneNo) : takeWord s z none = linkWord s z false := rfl

/-- A word of a zone that was not live is used by the Link Supervisor alone (R45). -/
theorem takeWord_of_dark {s : State} {z : ZoneNo} (dark : live s z = false) (w : Option UplinkWord) :
    takeWord s z w = linkWord s z w.isSome := by
  cases w with
  | none => rfl
  | some u => exact if_neg (by rw [dark]; exact Bool.false_ne_true)

theorem linkWord_of_search {s : State} {z : ZoneNo} (search : (s.link z).state = .search) (good : Bool) :
    linkWord s z good = searchWord s z good := by
  unfold linkWord
  rw [search]

theorem live_of_search {s : State} {z : ZoneNo} (search : (s.link z).state = .search) : live s z = false := by
  unfold live
  rw [search]
  exact Bool.and_false _

theorem endEvent_setLink (s : State) (z : ZoneNo) (r : LinkRec) : endEvent s (s.setLink z r) = s.setLink z r := endEvent_quiet rfl rfl

/-! ## Going live -/

/-- A link record that a state takes leaves the mute, the derate factor and the budget of every zone. -/
theorem effBudget_setLink (s : State) (z y : ZoneNo) (r : LinkRec) : effBudget (s.setLink z r) y = effBudget s y := rfl

section GoLive

variable {s : State} {z : ZoneNo}

theorem goLive_bare (s : State) (z : ZoneNo) (r : LinkRec) : (goLive s (s.setLink z r) z).bare = (s.setLink z r).bare := by
  unfold goLive
  generalize s.setLink z r = t
  exact (inputChange_bare ..).trans (fileZone_bare ..)

/-- No clip is written where a zone goes live: no lane of it carried before. -/
theorem clipWrote_goLive (dark : live s z = false) (r : LinkRec) (k : NoticeKind) (value : Nat) (o : OpNo) :
    clipWrote s (fileZone (s.setLink z r) z k value) z o = false := by
  rw [clipWrote_congr (fileZone_bare ..), clipWrote, effBudget_setLink, effRequest_of_idle (carrying_of_dark dark o)]
  simp

theorem goLive_grants (dark : live s z = false) (r : LinkRec) : (goLive s (s.setLink z r) z).grants = s.grants := by
  have clip := goLive_clip s z r
  have budget : effBudget (goLive s (s.setLink z r) z) z = effBudget s z :=
    (State.congr_bare (effBudget · z) (goLive_bare s z r) (fun _ => rfl)).trans (effBudget_setLink s z z r)
  refine grants_ext fun y o => ?_
  by_cases here : y = z
  · subst here
    refine (clip.own o).trans (clippedGrant_of_le budget.ge ?_)
    rw [effRequest_of_idle (carrying_of_dark dark o)]
    exact Nat.zero_le _
  · exact (clip.others y here).2 o

theorem goLive_short (dark : live s z = false) (r : LinkRec) : (goLive s (s.setLink z r) z).short = s.short := by
  unfold goLive
  refine short_ext fun y o => (inputChange_isShort_of_unclipped _ _ _ _ (clipWrote_goLive dark r _ _ o)).trans ?_
  exact fileZone_keeps (State.isShort · y o) (fun _ _ => rfl) ..

theorem goLive_noticeQueue_vn (s : State) (z : ZoneNo) (r : LinkRec) : (goLive s (s.setLink z r) z).noticeQueue .vn =
    appendNotice (s.noticeQueue .vn) { notice s .zoneLive with zone := some z, value := some r.loss } := by
  unfold goLive
  rw [inputChange_noticeQueue_vn, fileZone_noticeQueue_vn, State.setLink_link]
  rfl

theorem goLive_queued (s u : State) (z : ZoneNo) : z ∈ (goLive s u z).realloc := mem_inputChange.mpr (.inl rfl)

end GoLive

/-- The second good word running takes a searching link UP (R52, R58). -/
theorem searchWord_up {s : State} {z : ZoneNo} (present : (s.zone z).provisioned = true) (search : (s.link z).state = .search) :
    let r := s.link z
    let t := endEvent s (goLive s (s.setLink z { r with state := .up, goodRun := 0, missed := 0, history := [] }) z)
    t = (s.setLink z { r with state := .up, goodRun := 0, missed := 0, history := [] }).leaving t ∧ live t z = true ∧
      t.grants = s.grants ∧ t.short = s.short ∧ t.ports = s.ports ∧ AwaitsAllocation t z ∧
      t.noticeQueue .vn = appendNotice (s.noticeQueue .vn) { notice s .zoneLive with zone := some z, value := some r.loss } := by
  intro r
  have dark := live_of_search search
  have up : ({ r with state := .up, goodRun := 0, missed := 0, history := [] } : LinkRec).state = .up := rfl
  have loss : ({ r with state := .up, goodRun := 0, missed := 0, history := [] } : LinkRec).loss = r.loss := rfl
  generalize ({ r with state := .up, goodRun := 0, missed := 0, history := [] } : LinkRec) = r' at *
  intro t
  have bare : t.bare = (s.setLink z r').bare := (endEvent_bare ..).trans (goLive_bare s z r')
  have ports : (goLive s (s.setLink z r') z).ports = s.ports := by apply goLive_keeps State.ports <;> intros <;> rfl
  refine ⟨eq_leaving_iff.mpr bare, ?_, (endEvent_grants ..).trans (goLive_grants dark r'), ?_, (endEvent_ports' ..).trans ports,
    endEvent_awaits (goLive_queued ..), ?_⟩
  · rw [State.congr_bare (live · z) bare (fun _ => rfl), live, State.setLink_link, up, State.setLink_zone, present]
    rfl
  · refine Eq.trans ?_ (goLive_short dark r')
    exact endEvent_keeps State.short (fun _ _ => rfl) (fun _ _ => rfl) (fun _ _ => rfl) (fun _ _ => rfl) (fun _ _ => rfl) ..
  · rw [← loss, ← goLive_noticeQueue_vn]
    exact endEvent_keeps (State.noticeQueue · .vn) (fun _ _ => rfl) (fun _ _ => rfl) (fun _ _ => rfl) (fun _ _ => rfl) (fun _ _ => rfl) ..

/-- Settles O37. -/
theorem searchWordsBringLinkUp : Obligations.SearchWordsBringLinkUp := by
  intro s spoke pos word z r runs present search
  have taken (good : Bool) (h : (judgeWord pos word).isSome = good) :
      uplinkSlot s spoke pos word = endEvent s (searchWord s z good) := by
    rw [uplinkSlot_taken runs present, takeWord_of_dark (live_of_search search), h, linkWord_of_search search]
  refine ⟨fun missed => next_congr ?_, fun good first => next_congr ?_, fun good later => ?_⟩
  · rw [taken false (by rw [missed]; rfl), searchWord, if_neg Bool.false_ne_true, endEvent_setLink, saturate_succ]
    rfl
  · have run : (s.link z).goodRun + 1 < Config.goodRunUp := by rw [show (s.link z).goodRun = 0 from first]; decide
    rw [taken true (Option.isSome_iff_ne_none.mpr good), searchWord, if_pos rfl, if_pos run, endEvent_setLink,
      show (s.link z).goodRun = 0 from first]
  · have run : ¬ (s.link z).goodRun + 1 < Config.goodRunUp := Nat.not_lt.mpr (Nat.succ_le_succ (Nat.pos_of_ne_zero later))
    have up := taken true (Option.isSome_iff_ne_none.mpr good)
    rw [searchWord, if_pos rfl, if_neg run] at up
    exact ⟨_, next_congr up, searchWord_up present search⟩

end Sys2Proof.Machine
end

section
/-! The words of a heard link (R53 to R55, R58): O38. -/

namespace Sys2Proof.Machine

open Sys2Proof

/-- The record of a heard link after a word that does not lose it (R53, R54). -/
def LinkRec.judged (r : LinkRec) (good : Bool) : LinkRec :=
  { r.heardWord good with
    state := if r.state = .up ∧ Config.weakTally ≤ (r.heardWord good).tally then .weak
      else if r.state = .weak ∧ (r.heardWord good).tally ≤ Config.restoreTally then .up else r.state }

/-- The record of a link that is lost (R55). -/
def LinkRec.lostBy (r : LinkRec) (missed : Nat) : LinkRec :=
  { r with state := .lost, history := [], dwell := 0, missed := missed, loss := if r.loss < 255 then r.loss + 1 else 255 }

/-- A word loses a heard link where it is missed and reaches the lost limit (R53 step 3). -/
def Loses (s : State) (z : ZoneNo) (good : Bool) : Prop := good = false ∧ s.lostLimit ≤ ((s.link z).heardWord good).missed

section Words

variable {s : State} {z : ZoneNo} {good : Bool}

theorem linkWord_of_heard (hears : (s.link z).state = .up ∨ (s.link z).state = .weak) (good : Bool) :
    linkWord s z good = heardLinkWord s z good := by
  unfold linkWord
  rcases hears with h | h <;> rw [h]

theorem heardWord_missed (r : LinkRec) (good : Bool) :
    (r.heardWord good).missed = if good then 0 else if r.missed < 255 then r.missed + 1 else 255 := by
  simp only [LinkRec.heardWord, saturate_succ]
  rfl

theorem heardWord_history (r : LinkRec) (good : Bool) :
    (r.heardWord good).history = (if r.history.length < 16 then r.history else r.history.tail) ++ [good] := by
  simp only [LinkRec.heardWord, pushHistory, List.drop_one]
  rfl

theorem heardWord_tally (r : LinkRec) (good : Bool) :
    (r.heardWord good).tally = (((r.heardWord good).history).filter fun x => !x).length := List.countP_eq_length_filter ..

/-! ## A word that does not lose the link -/

/-- A judged link files at most one notice, to VN, and files none where its state stays (R54). -/
theorem heardLinkWord_of_kept (kept : ¬ Loses s z good) :
    heardLinkWord s z good = s.setLink z ((s.link z).judged good) ∨
      (((s.link z).judged good).state ≠ (s.link z).state ∧
        ∃ k : NoticeKind, heardLinkWord s z good = fileLink (s.setLink z ((s.link z).judged good)) z k) := by
  have state : ((s.link z).heardWord good).state = (s.link z).state := rfl
  have word : heardLinkWord s z good = _ := if_neg kept
  rw [word, LinkRec.judged, state]
  by_cases weakens : (s.link z).state = .up ∧ Config.weakTally ≤ ((s.link z).heardWord good).tally
  · rw [if_pos weakens, if_pos weakens]
    exact .inr ⟨by rw [weakens.1]; simp, _, rfl⟩
  · rw [if_neg weakens, if_neg weakens]
    by_cases restores : (s.link z).state = .weak ∧ ((s.link z).heardWord good).tally ≤ Config.restoreTally
    · rw [if_pos restores, if_pos restores]
      exact .inr ⟨by rw [restores.1]; simp, _, rfl⟩
    · rw [if_neg restores, if_neg restores]
      exact .inl rfl

theorem heardLinkWord_bare_of_kept (kept : ¬ Loses s z good) :
    (heardLinkWord s z good).bare = (s.setLink z ((s.link z).judged good)).bare := by
  rcases heardLinkWord_of_kept kept with same | ⟨-, k, filed⟩
  · rw [same]
  · rw [filed, fileLink_bare]

theorem fileLink_noticeQueue_op (s : State) (z : ZoneNo) (k : NoticeKind) (o : OpNo) :
    (fileLink s z k).noticeQueue (.op o) = s.noticeQueue (.op o) := file_noticeQueue_of_notMem s _ (by simp)

/-- A missed word that keeps the link writes its record and VN's queue. -/
theorem heardLinkWord_only (kept : ¬ Loses s z good) :
    let t := heardLinkWord s z good
    t = { s with links := t.links, notices := t.notices } ∧ (∀ o : OpNo, t.noticeQueue (.op o) = s.noticeQueue (.op o)) ∧
      (((s.link z).judged good).state = (s.link z).state → t.notices = s.notices) := by
  intro t
  rcases heardLinkWord_of_kept kept with same | ⟨moved, k, filed⟩
  · have taken : t = s.setLink z ((s.link z).judged good) := same
    rw [taken]
    exact ⟨rfl, fun _ => rfl, fun _ => rfl⟩
  · have taken : t = fileLink (s.setLink z ((s.link z).judged good)) z k := filed
    rw [taken]
    refine ⟨rfl, fun o => fileLink_noticeQueue_op .., fun still => absurd still moved⟩

/-! ## A loss -/

theorem heardLinkWord_of_loss (loses : Loses s z good) : heardLinkWord s z good = loseLink s z ((s.link z).heardWord good) := if_pos loses

/-- The state before the input change of a lost link, outside the power unit and the queues (R55, R58). -/
theorem loseLink_bare (s : State) (z : ZoneNo) (r : LinkRec) : (loseLink s z r).bare =
    (((s.setLink z { r with state := .lost, history := [], dwell := 0, loss := saturate Config.max8 (r.loss + 1) }).withProt
      (loseLink s z r).prot).withSpread (closedWhere s fun _ p => decide (p.zone = z))).bare := by
  have records : (loseLink s z r).prot = (goDark s (s.setLink z { r with state := .lost, history := [], dwell := 0, loss := saturate Config.max8 (r.loss + 1) }) z .linkLost .zoneDark).prot :=
    State.congr_bare State.prot (inputChange_bare ..) (fun _ => rfl)
  have spread : closedWhere s (fun _ p => decide (p.zone = z)) = closedWhere (s.setLink z { r with state := .lost, history := [], dwell := 0, loss := saturate Config.max8 (r.loss + 1) }) fun _ p => decide (p.zone = z) := rfl
  rw [records, spread]
  unfold loseLink
  dsimp only
  generalize s.setLink z _ = t
  have read (v : Vector (Vector ProtRec 6) 64) (w : Vector SpreadRec 4) :
      (t.bare.withProt v).withSpread w = ((t.withProt v).withSpread w).bare := rfl
  exact (inputChange_bare ..).trans ((goDark_bare ..).trans (read ..))

theorem loseLink_link (s : State) (z y : ZoneNo) (r : LinkRec) : (loseLink s z r).link y =
    (s.setLink z { r with state := .lost, history := [], dwell := 0, loss := saturate Config.max8 (r.loss + 1) }).link y := by
  have read (t : State) (v : Vector (Vector ProtRec 6) 64) (w : Vector SpreadRec 4) : ((t.withProt v).withSpread w).link y = t.link y := rfl
  exact (State.congr_bare (State.link · y) (loseLink_bare s z r) (fun _ => rfl)).trans (read ..)

theorem loseLink_protRec (s : State) (z y : ZoneNo) (r : LinkRec) (c : ClassNo) : (loseLink s z r).protRec y c =
    if y = z then edgeRecord (s.mode c) (s.protRec z c) false else s.protRec y c := by
  unfold loseLink
  dsimp only
  have mode (r' : LinkRec) : (s.setLink z r').mode c = s.mode c := rfl
  have record (r' : LinkRec) (x : ZoneNo) : (s.setLink z r').protRec x c = s.protRec x c := rfl
  refine (State.congr_bare (State.protRec · y c) (inputChange_bare ..) (fun _ => rfl)).trans ((goDark_protRec ..).trans ?_)
  rw [mode, record, record]

theorem loseLink_dark (s : State) (z : ZoneNo) (r : LinkRec) : live (loseLink s z r) z = false := by
  rw [live, loseLink_link, State.setLink_link]
  exact Bool.and_false _

theorem loseLink_queued (s : State) (z : ZoneNo) (r : LinkRec) : z ∈ (loseLink s z r).realloc := mem_inputChange.mpr (.inl rfl)

/-- The event of a word that loses the link. -/
theorem endEvent_loseLink (s : State) (z : ZoneNo) (r : LinkRec) :
    let t := endEvent s (loseLink s z r)
    t = (((s.setLink z { r with state := .lost, history := [], dwell := 0, loss := saturate Config.max8 (r.loss + 1) }).withProt
      t.prot).withSpread (closedWhere s fun _ p => decide (p.zone = z))).leaving t ∧ t.ports = s.ports ∧
      AwaitsAllocation t z ∧ (RequestLaw s → ∀ o, t.grant z o = 0) ∧ (∀ y o, y ≠ z → t.grant y o = s.grant y o) ∧
      ∀ c, (t.protRec z c).raw = false ∧ (t.protRec z c).latched = (s.protRec z c).latched ∧
        ∀ y, y ≠ z → t.protRec y c = s.protRec y c := by
  intro t
  have bare := loseLink_bare s z r
  have clip := loseLink_clip s z r
  have idle (o : OpNo) : carrying (loseLink s z r) z o = false := carrying_of_dark (loseLink_dark s z r) o
  have ports : (loseLink s z r).ports = s.ports := by apply loseLink_keeps State.ports <;> intros <;> rfl
  have records (y : ZoneNo) (c : ClassNo) := loseLink_protRec s z y r c
  have queued := loseLink_queued s z r
  have ended : t = endEvent s (loseLink s z r) := rfl
  clear_value t
  generalize loseLink s z r = u at *
  have same : t.bare = u.bare := by rw [ended, endEvent_bare]
  have grants : t.grants = u.grants := by rw [ended, endEvent_grants]
  have grant (y : ZoneNo) (o : OpNo) : t.grant y o = u.grant y o := by simp only [State.grant, grants]
  have prot : t.prot = u.prot := State.congr_bare State.prot same (fun _ => rfl)
  have record (y : ZoneNo) (c : ClassNo) : t.protRec y c = if y = z then edgeRecord (s.mode c) (s.protRec z c) false else s.protRec y c :=
    (State.congr_bare (State.protRec · y c) same (fun _ => rfl)).trans (records y c)
  refine ⟨?_, ?_, ?_, fun law o => (grant z o).trans (clip.clips.grant_of_idle law (idle o)),
    fun y o other => (grant y o).trans ((clip.others y other).2 o), fun c => ?_⟩
  · rw [prot]
    exact eq_leaving_iff.mpr (same.trans bare)
  · rw [ended, endEvent_ports', ports]
  · rw [ended]
    exact endEvent_awaits queued
  · rw [record, if_pos rfl]
    exact ⟨edgeRecord_raw .., edgeRecord_latched_of_falling .., fun y other => (record y c).trans (if_neg other)⟩

end Words

/-! ## The whole word -/

/-- What follows the Link Supervisor leaves the links. -/
theorem takeWord_link (s : State) (z y : ZoneNo) (w : Option UplinkWord) : (takeWord s z w).link y = (linkWord s z w.isSome).link y := by
  unfold takeWord
  dsimp only
  split
  · split
    · exact (takeBlock_keeps (State.link · y) (fun _ _ => rfl) ..).trans (by apply takeVector_keeps (State.link · y) <;> intros <;> rfl)
    · rfl
  · rfl

theorem heardLinkWord_link_ne (s : State) {z y : ZoneNo} (good : Bool) (other : y ≠ z) : (heardLinkWord s z good).link y = s.link y := by
  by_cases loses : Loses s z good
  · rw [heardLinkWord_of_loss loses, loseLink_link, State.setLink_link_ne (h := other)]
  · rw [State.congr_bare (State.link · y) (heardLinkWord_bare_of_kept loses) (fun _ => rfl), State.setLink_link_ne (h := other)]

/-- Settles O38. -/
theorem heardWordsKeepHistory : Obligations.HeardWordsKeepHistory := by
  intro s spoke pos word z r runs present hears good history missed tally
  have taken := uplinkSlot_taken runs present word
  have link (y : ZoneNo) : (endEvent s (takeWord s z (judgeWord pos word))).link y = (heardLinkWord s z good).link y := by
    rw [State.congr_bare (State.link · y) (endEvent_bare ..) (fun _ => rfl), takeWord_link, linkWord_of_heard hears]
  have missedOnly (h : good = false) : takeWord s z (judgeWord pos word) = heardLinkWord s z good := by
    rw [Option.not_isSome_iff_eq_none.mp (Bool.eq_false_iff.mp h), takeWord_missed, linkWord_of_heard hears, h]
  have count : ((s.link z).heardWord good).missed = missed := heardWord_missed ..
  have past : ((s.link z).heardWord good).history = history := heardWord_history ..
  have misses : ((s.link z).heardWord good).tally = tally := by rw [heardWord_tally, past]
  refine ⟨_, next_congr taken, fun y other => (link y).trans (heardLinkWord_link_ne s good other), fun loss => ?_, fun kept => ?_⟩
  · have loses : Loses s z good := ⟨loss.1, by rw [count]; exact loss.2⟩
    have record : ({ (s.link z).heardWord good with
        state := .lost, history := [], dwell := 0, loss := saturate Config.max8 (((s.link z).heardWord good).loss + 1) } : LinkRec) =
        (s.link z).lostBy missed := by
      rw [saturate_succ, ← count]
      rfl
    have ends := endEvent_loseLink s z ((s.link z).heardWord good)
    rw [record, ← heardLinkWord_of_loss loses] at ends
    rw [missedOnly loss.1]
    exact ends
  · have kept : ¬ Loses s z good := fun loses => kept ⟨loses.1, by rw [← count]; exact loses.2⟩
    have judged : (s.link z).judged good = { r with
        history := history, missed := missed
        state := if r.state = .up ∧ 4 ≤ tally then .weak else if r.state = .weak ∧ tally ≤ 1 then .up else r.state } := by
      rw [LinkRec.judged, misses, ← past, ← count]
      rfl
    intro state
    have record : (heardLinkWord s z good).link z = { r with history := history, missed := missed, state := state } := by
      rw [State.congr_bare (State.link · z) (heardLinkWord_bare_of_kept kept) (fun _ => rfl), State.setLink_link, judged]
    have after : ((s.link z).judged good).state = state := congrArg LinkRec.state judged
    refine ⟨(link z).trans record, fun lost => ?_⟩
    obtain ⟨only, queues, still⟩ := heardLinkWord_only kept
    have quiet : endEvent s (heardLinkWord s z good) = heardLinkWord s z good := by
      refine endEvent_quiet ?_ ?_
      · exact (congrArg State.realloc only).trans rfl
      · exact (congrArg State.previews only).trans rfl
    rw [missedOnly lost, quiet]
    exact ⟨only, queues, fun same => still (after.trans same)⟩

end Sys2Proof.Machine
end

section
/-! The alarm vector and the activity block of a good word (R46, R68 to R70, R86): O39 and O44. -/

namespace Sys2Proof.Machine

open Sys2Proof

/-! ## The activity block -/

section Block

variable {s : State} {z : ZoneNo} {u : UplinkWord}

/-- A word without a block, or of a cycle other than 0, changes no cell (R46). -/
theorem takeBlock_of_unused (h : s.cycle ≠ 0 ∨ ∀ x, u.activity ≠ some x) : takeBlock s z u = s := by
  unfold takeBlock
  split
  · next x block => exact if_neg (h.resolve_right fun no => no x block)
  · rfl

theorem takeBlock_of_block {x : Vector Nat 4} (first : s.cycle = 0) (block : u.activity = some x) :
    takeBlock s z u = takeActivity s z x := by
  unfold takeBlock
  rw [block]
  exact if_pos first

theorem takeActivity_cell (s : State) (z y : ZoneNo) (x : Vector Nat 4) (o : OpNo) : (takeActivity s z x).cell y o =
    if y = z ∧ carrying s z o = true then filterCell (s.oper o).weight (s.cell z o) x[o] else s.cell y o := by
  obtain ⟨v, hv⟩ : ∃ v, v = vec4 fun o => if carrying s z o then filterCell (s.oper o).weight (s.cell z o) x[o] else s.cell z o := ⟨_, rfl⟩
  have lanes : v[o] = if carrying s z o then filterCell (s.oper o).weight (s.cell z o) x[o] else s.cell z o := by
    rw [hv, vec4_getElem]
  have cells : (takeActivity s z x).cells = s.cells.set z v := by rw [hv]; rfl
  by_cases here : y = z
  · subst here
    have own : (takeActivity s y x).cell y o = v[o] := by simp only [State.cell, laneGet, cells, Fin.getElem_fin, Vector.getElem_set_self]
    rw [own, lanes]
    simp only [true_and]
  · rw [if_neg fun h => here h.1]
    have other : z.val ≠ y.val := fun e => here (Fin.ext e.symm)
    simp only [State.cell, laneGet, cells, Fin.getElem_fin, Vector.getElem_set_ne _ _ other]

/-- Where no lane of the zone carries, or away from the zone, the block leaves the cells. -/
theorem takeBlock_cell_of_idle {y : ZoneNo} {o : OpNo} (idle : y ≠ z ∨ carrying s z o = false) :
    (takeBlock s z u).cell y o = s.cell y o := by
  by_cases used : s.cycle = 0 ∧ ∃ x, u.activity = some x
  · obtain ⟨first, x, block⟩ := used
    rw [takeBlock_of_block first block, takeActivity_cell, if_neg]
    rintro ⟨here, carries⟩
    rcases idle with other | none
    · exact other here
    · exact Bool.false_ne_true (none.symm.trans carries)
  · rw [takeBlock_of_unused]
    by_cases first : s.cycle = 0
    · exact .inr fun x block => used ⟨first, x, block⟩
    · exact .inl first

end Block

/-! ## The link of a good word -/

section Good

variable {s : State} {z : ZoneNo}

/-- A good word does not lose the link. -/
theorem not_loses_of_good (s : State) (z : ZoneNo) : ¬ Loses s z true := fun loses => Bool.noConfusion loses.1

theorem hears_of_live (lives : live s z = true) : (s.zone z).provisioned = true ∧ ((s.link z).state = .up ∨ (s.link z).state = .weak) := by
  obtain ⟨present, up⟩ := Bool.and_eq_true_iff.mp lives
  refine ⟨present, ?_⟩
  cases state : (s.link z).state with
  | up => exact .inl rfl
  | weak => exact .inr rfl
  | idle => rw [state] at up; exact absurd up Bool.false_ne_true
  | search => rw [state] at up; exact absurd up Bool.false_ne_true
  | lost => rw [state] at up; exact absurd up Bool.false_ne_true

theorem judged_heard {r : LinkRec} (hears : r.state = .up ∨ r.state = .weak) (good : Bool) : heard (r.judged good).state = heard r.state := by
  have up : heard r.state = true := by rcases hears with h | h <;> rw [h] <;> rfl
  rw [up]
  unfold LinkRec.judged
  dsimp only
  split
  · rfl
  · split
    · rfl
    · exact up

/-- A link that stays heard leaves its zone's inputs. -/
theorem setLink_snapshot {r : LinkRec} (same : heard r.state = heard (s.link z).state) (y : ZoneNo) :
    snapshotOf (s.setLink z r) y = snapshotOf s y := by
  refine snapshot_withLinks (v := s.links.set z r) (fun x => ?_) y
  by_cases here : x = z
  · subst here
    exact (congrArg (fun r : LinkRec => heard r.state) (State.setLink_link (s := s) x r)).trans same
  · exact congrArg (fun r : LinkRec => heard r.state) (State.setLink_link_ne s r here)

/-- The state that the Link Supervisor leaves after a good word of a live zone. -/
theorem goodLink_bare (hears : (s.link z).state = .up ∨ (s.link z).state = .weak) :
    (linkWord s z true).bare = (s.setLink z ((s.link z).judged true)).bare := by
  rw [linkWord_of_heard hears]
  exact heardLinkWord_bare_of_kept (not_loses_of_good s z)

/-- A good word of a live zone clips nothing in the Link Supervisor. -/
theorem goodLink_clips (hears : (s.link z).state = .up ∨ (s.link z).state = .weak) :
    Clips s (linkWord s z true) ∧ SamePower (linkWord s z true) s := by
  have power : SamePower (linkWord s z true) s := by
    rw [linkWord_of_heard hears]
    rcases heardLinkWord_of_kept (not_loses_of_good s z) with same | ⟨-, k, filed⟩
    · rw [same]
      exact ⟨rfl, rfl, rfl⟩
    · rw [filed]
      exact ⟨rfl, rfl, rfl⟩
  refine ⟨.of_same power fun y => ?_, power⟩
  rw [snapshotOf_congr (goodLink_bare hears), setLink_snapshot (judged_heard hears true)]

end Good

/-! ## The alarm vector -/

section Edge

variable {m : ClassMode} {r : ProtRec}

theorem edgeRecord_same {bit : Bool} (same : bit = r.raw) : edgeRecord m r bit = r := if_pos same.symm

theorem edgeRecord_rise (clear : r.raw = false) : edgeRecord m r true = (risingEdge m r).1 := by
  rw [edgeRecord, clear, if_neg Bool.false_ne_true, if_pos rfl]

theorem edgeRecord_fall (raised : r.raw = true) : edgeRecord m r false = (fallingEdge m r).1 := by
  rw [edgeRecord, raised, if_neg Bool.true_eq_false_eq_False, if_neg Bool.false_ne_true]

theorem risingEdge_of_unheeded (h : m = .ignore ∨ r.state = .held) : (risingEdge m r).1 = { r with raw := true } := by
  unfold risingEdge
  rcases h with ignored | held
  · rw [ignored]
    cases r.state <;> rfl
  · rw [held]

theorem risingEdge_of_heeded (heeded : m ≠ .ignore) (h : r.state = .idle ∨ ∃ left, r.state = .recovering left) :
    (risingEdge m r).1 = { raw := true, state := .active, latched := true } := by
  unfold risingEdge
  rcases h with idle | ⟨left, recovers⟩
  · rw [idle]
    simp only [if_neg heeded]
  · rw [recovers]
    simp only [if_neg heeded]

theorem fallingEdge_of_quiet (h : r.state = .idle ∨ r.state = .held) : (fallingEdge m r).1 = { r with raw := false } := by
  unfold fallingEdge
  rcases h with h | h <;> rw [h]

/-- The state that a falling edge leaves an ACTIVE record in (R70). -/
theorem fallingEdge_of_active (active : r.state = .active) :
    (m = .report → (fallingEdge m r).1.state = .idle) ∧ (m = .latch → (fallingEdge m r).1.state = .held) ∧
      (m = .derate ∨ m = .retrySlow → (fallingEdge m r).1.state = .recovering 64) ∧
      (m = .retryFast → (fallingEdge m r).1.state = .recovering 4) := by
  unfold fallingEdge
  rw [active]
  refine ⟨?_, ?_, ?_, ?_⟩
  · rintro rfl; rfl
  · rintro rfl; rfl
  · rintro (rfl | rfl) <;> rfl
  · rintro rfl; rfl

end Edge

theorem takeVector_protRec (s : State) (z y : ZoneNo) (bits : Vector Bool 6) (c : ClassNo) : (takeVector s z bits).protRec y c =
    if y = z then edgeRecord (s.mode c) (s.protRec z c) bits[c] else s.protRec y c :=
  (State.congr_bare (State.protRec · y c) (takeOutputs_bare ..) (fun _ => rfl)).trans (takeEdges_protRec ..)

theorem takeVector_bare (s : State) (z : ZoneNo) (bits : Vector Bool 6) :
    (takeVector s z bits).bare = s.bare.withProt (takeVector s z bits).prot := by
  have whole : (takeVector s z bits).bare = (takeEdges s z bits).bare := takeOutputs_bare ..
  rw [State.congr_bare State.prot whole (fun _ => rfl), whole]
  exact takeEdges_bare ..

/-! ## The whole word -/

/-- A good word of a live zone, as the blocks take it (R45, R46). -/
theorem takeWord_of_good {s : State} {z : ZoneNo} (lives : live s z = true) (u : UplinkWord) :
    takeWord s z (some u) = takeBlock (takeVector (linkWord s z true) z u.alarms) z u := if_pos lives

theorem takeBlock_cells_only (s : State) (z : ZoneNo) (u : UplinkWord) : takeBlock s z u = s.withCells (takeBlock s z u).cells := by
  unfold takeBlock
  split
  · split <;> rfl
  · rfl

section GoodWord

variable {s : State} {z : ZoneNo}

/-- The state after a good word of a live zone, before its event ends. -/
def goodWord (s : State) (z : ZoneNo) (u : UplinkWord) : State := takeBlock (takeVector (linkWord s z true) z u.alarms) z u

/-- The Load Monitor writes the cells alone. -/
theorem goodWord_congr {β : Type} (g : State → β) (cells : ∀ (x : State) (v : Vector (Vector Nat 4) 64), g (x.withCells v) = g x)
    (s : State) (z : ZoneNo) (u : UplinkWord) : g (goodWord s z u) = g (takeVector (linkWord s z true) z u.alarms) :=
  (congrArg g (takeBlock_cells_only ..)).trans (cells ..)

/-- A good word of a live zone writes the links, the records and the cells, outside the power unit and the queues. -/
theorem goodWord_bare (hears : (s.link z).state = .up ∨ (s.link z).state = .weak) (u : UplinkWord) : (goodWord s z u).bare =
    (((s.withLinks (goodWord s z u).links).withProt (goodWord s z u).prot).withCells (goodWord s z u).cells).bare := by
  refine bare_eq_of_keeps (fun x y => (((x.withLinks y.links).withProt y.prot).withCells y.cells).bare) (fun _ => rfl) fun y => ?_
  have reads {x w : State} (h : x.bare = w.bare) : (((x.withLinks y.links).withProt y.prot).withCells y.cells).bare =
      (((w.withLinks y.links).withProt y.prot).withCells y.cells).bare :=
    congrArg (fun b : State => ((b.withLinks y.links).withProt y.prot).withCells y.cells) h
  have link := reads (goodLink_bare hears)
  have vector := reads (w := (linkWord s z true).withProt _) (takeVector_bare (linkWord s z true) z u.alarms)
  have block := takeBlock_cells_only (takeVector (linkWord s z true) z u.alarms) z u
  show (((goodWord s z u).withLinks y.links).withProt y.prot |>.withCells y.cells).bare = _
  unfold goodWord
  rw [block]
  exact vector.trans link

theorem goodWord_protRec (hears : (s.link z).state = .up ∨ (s.link z).state = .weak) (u : UplinkWord) (y : ZoneNo) (c : ClassNo) :
    (goodWord s z u).protRec y c = if y = z then edgeRecord (s.mode c) (s.protRec z c) u.alarms[c] else s.protRec y c := by
  have record (x : ZoneNo) : (linkWord s z true).protRec x c = s.protRec x c :=
    (State.congr_bare (State.protRec · x c) (goodLink_bare hears) (fun _ => rfl)).trans rfl
  have mode : (linkWord s z true).mode c = s.mode c := (State.congr_bare (State.mode · c) (goodLink_bare hears) (fun _ => rfl)).trans rfl
  have block : (goodWord s z u).protRec y c = (takeVector (linkWord s z true) z u.alarms).protRec y c :=
    goodWord_congr (State.protRec · y c) (fun _ _ => rfl) s z u
  rw [block, takeVector_protRec, record, record, mode]

theorem goodWord_carrying (s : State) (z : ZoneNo) (u : UplinkWord) (o : OpNo) :
    carrying (goodWord s z u) z o = carrying (takeVector (linkWord s z true) z u.alarms) z o :=
  goodWord_congr (carrying · z o) (fun _ _ => rfl) s z u

theorem linkWord_cells (s : State) (z : ZoneNo) (good : Bool) : (linkWord s z good).cells = s.cells := by
  apply linkWord_keeps State.cells <;> intros <;> rfl

theorem takeVector_cells (s : State) (z : ZoneNo) (bits : Vector Bool 6) : (takeVector s z bits).cells = s.cells := by
  apply takeVector_keeps State.cells <;> intros <;> rfl

theorem vectorTaken_cell (s : State) (z y : ZoneNo) (u : UplinkWord) (o : OpNo) :
    (takeVector (linkWord s z true) z u.alarms).cell y o = s.cell y o := by
  simp only [State.cell, takeVector_cells, linkWord_cells]

/-- The cells that a good word leaves (R86). -/
theorem goodWord_cell_of_idle {u : UplinkWord} {y : ZoneNo} {o : OpNo} (idle : y ≠ z ∨ carrying (goodWord s z u) z o = false) :
    (goodWord s z u).cell y o = s.cell y o := by
  rw [goodWord_carrying] at idle
  exact (takeBlock_cell_of_idle idle).trans (vectorTaken_cell ..)

theorem goodWord_grant_of_idle (hears : (s.link z).state = .up ∨ (s.link z).state = .weak) (law : RequestLaw s) {u : UplinkWord} {o : OpNo}
    (idle : carrying (goodWord s z u) z o = false) : (goodWord s z u).grant z o = 0 := by
  have grant : (goodWord s z u).grant z o = (takeVector (linkWord s z true) z u.alarms).grant z o :=
    goodWord_congr (State.grant · z o) (fun _ _ => rfl) s z u
  rw [goodWord_carrying] at idle
  rw [grant]
  exact (takeVector_clip ..).clips.grant_of_idle ((goodLink_clips hears).1.requestLaw law) idle

theorem goodWord_queued (hears : (s.link z).state = .up ∨ (s.link z).state = .weak) {u : UplinkWord}
    (changed : outputsChanged s (goodWord s z u) z = true) : z ∈ (goodWord s z u).realloc := by
  have before : muted (linkWord s z true) z = muted s z ∧ derate (linkWord s z true) z = derate s z :=
    ⟨(State.congr_bare (muted · z) (goodLink_bare hears) (fun _ => rfl)).trans rfl, (State.congr_bare (derate · z) (goodLink_bare hears) (fun _ => rfl)).trans rfl⟩
  have after : outputsChanged s (goodWord s z u) z = outputsChanged s (takeVector (linkWord s z true) z u.alarms) z :=
    goodWord_congr (outputsChanged s · z) (fun _ _ => rfl) s z u
  have realloc : (goodWord s z u).realloc = (takeVector (linkWord s z true) z u.alarms).realloc :=
    goodWord_congr State.realloc (fun _ _ => rfl) s z u
  rw [realloc]
  refine takeOutputs_queued ?_
  rw [after] at changed
  unfold outputsChanged at changed ⊢
  rw [before.1, before.2]
  exact changed

theorem goodWord_ports (s : State) (z : ZoneNo) (u : UplinkWord) : (goodWord s z u).ports = s.ports := by
  refine (takeBlock_keeps State.ports (fun _ _ => rfl) ..).trans (Eq.trans (b := (linkWord s z true).ports) ?_ ?_)
  · apply takeVector_keeps State.ports <;> intros <;> rfl
  · apply linkWord_keeps State.ports <;> intros <;> rfl

end GoodWord

theorem uplinkSlot_of_good {s : State} {spoke : SpokeNo} {pos : PosNo} {word : List Byte} {u : UplinkWord} (runs : s.transport ≠ .stopped)
    (lives : live s (zoneAt spoke pos) = true) (good : judgeWord pos word = some u) :
    uplinkSlot s spoke pos word = endEvent s (goodWord s (zoneAt spoke pos) u) := by
  rw [uplinkSlot_taken runs (hears_of_live lives).1, good, takeWord_of_good lives]
  rfl

/-- Settles O39. -/
theorem alarmVectorTaken : Obligations.AlarmVectorTaken := by
  intro s spoke pos word u z runs lives good
  obtain ⟨-, hears⟩ := hears_of_live lives
  have bare := goodWord_bare hears u
  have records := goodWord_protRec hears u
  have ports := goodWord_ports s z u
  have queued := goodWord_queued (u := u) hears
  have cells (o : OpNo) := goodWord_cell_of_idle (s := s) (z := z) (u := u) (y := z) (o := o)
  have grants (o : OpNo) (law : RequestLaw s) := goodWord_grant_of_idle hears law (u := u) (o := o)
  have taken : exec (.uplinkStatusWord spoke pos word) s = .next (endEvent s (goodWord s z u)) :=
    next_congr (uplinkSlot_of_good runs lives good)
  generalize goodWord s z u = w at *
  obtain ⟨t, ended⟩ : ∃ t, t = endEvent s w := ⟨_, rfl⟩
  rw [← ended] at taken
  have same : t.bare = w.bare := by rw [ended, endEvent_bare]
  have grant (o : OpNo) : t.grant z o = w.grant z o := by
    have all : t.grants = w.grants := by rw [ended, endEvent_grants]
    simp only [State.grant, all]
  have cell (o : OpNo) : t.cell z o = w.cell z o := State.congr_bare (State.cell · z o) same (fun _ => rfl)
  have record (y : ZoneNo) (c : ClassNo) : t.protRec y c =
      if y = z then edgeRecord (s.mode c) (s.protRec z c) u.alarms[c] else s.protRec y c :=
    (State.congr_bare (State.protRec · y c) same (fun _ => rfl)).trans (records y c)
  refine ⟨t, taken, ?_, ?_, fun y c other => (record y c).trans (if_neg other), fun changed => ?_, fun mutes o => ?_, fun c => ?_⟩
  · rw [State.congr_bare State.links same (fun _ => rfl), State.congr_bare State.prot same (fun _ => rfl), State.congr_bare State.cells same (fun _ => rfl)]
    exact eq_leaving_iff.mpr (same.trans bare)
  · rw [ended, endEvent_ports', ports]
  · rw [ended]
    refine endEvent_awaits (queued ?_)
    rw [← outputsChanged_congr same]
    exact outputsChanged_of changed
  · have idle : carrying w z o = false := by
      have mute : muted w z = true := (State.congr_bare (muted · z) same (fun _ => rfl)).symm.trans mutes
      simp [carrying, mute]
    exact ⟨(cell o).trans (cells o (.inr idle)), fun law => (grant o).trans (grants o law idle)⟩
  · have own := (record z c).trans (if_pos rfl)
    intro bit r r'
    have edge : r' = edgeRecord (s.mode c) r bit := own
    rw [edge]
    refine ⟨edgeRecord_raw .., edgeRecord_same, fun falls => ?_, fun up clear spared => ?_, fun up clear heeded moves => ?_,
      fun falls raised quiet => ?_, fun falls raised active => ?_⟩
    · rw [falls]
      exact edgeRecord_latched_of_falling ..
    · rw [up, edgeRecord_rise clear, risingEdge_of_unheeded spared]
    · rw [up, edgeRecord_rise clear, risingEdge_of_heeded heeded moves]
      exact ⟨rfl, rfl⟩
    · rw [falls, edgeRecord_fall raised, fallingEdge_of_quiet quiet]
    · rw [falls, edgeRecord_fall raised]
      exact fallingEdge_of_active active

/-! ## Every word and the cells -/

theorem endEvent_cells (old s : State) : (endEvent old s).cells = s.cells := State.congr_bare State.cells (endEvent_bare old s) (fun _ => rfl)

/-- A word that is not a good word of a live zone leaves the cells. -/
theorem uplinkSlot_cells {s : State} {spoke : SpokeNo} {pos : PosNo} {word : List Byte}
    (unused : s.transport = .stopped ∨ live s (zoneAt spoke pos) = false ∨ judgeWord pos word = none) :
    (uplinkSlot s spoke pos word).cells = s.cells := by
  unfold uplinkSlot
  dsimp only
  split
  · next taken =>
    have dark := unused.resolve_left taken.1
    have word : takeWord s (zoneAt spoke pos) (judgeWord pos word) = linkWord s (zoneAt spoke pos) (judgeWord pos word).isSome := by
      rcases dark with dark | missed
      · exact takeWord_of_dark dark _
      · rw [missed]
        rfl
    rw [endEvent_cells, word, linkWord_cells]
  · rfl

theorem cell_of_cells {s t : State} (h : t.cells = s.cells) (z : ZoneNo) (o : OpNo) : t.cell z o = s.cell z o := by
  simp only [State.cell, h]

/-- Settles O44. -/
theorem activityBlockUpdatesCarryingLanes : Obligations.ActivityBlockUpdatesCarryingLanes := by
  intro s spoke pos word z
  refine ⟨uplinkSlot s spoke pos word, rfl, ?_⟩
  by_cases used : s.transport ≠ .stopped ∧ live s z = true ∧ ∃ u, judgeWord pos word = some u
  · obtain ⟨runs, lives, u, good⟩ := used
    have same : (uplinkSlot s spoke pos word).bare = (goodWord s z u).bare := by
      rw [uplinkSlot_of_good runs lives good, endEvent_bare]
    have cell (y : ZoneNo) (o : OpNo) : (uplinkSlot s spoke pos word).cell y o = (goodWord s z u).cell y o :=
      State.congr_bare (State.cell · y o) same (fun _ => rfl)
    have cycle : (takeVector (linkWord s z true) z u.alarms).cycle = s.cycle := by
      refine Eq.trans (b := (linkWord s z true).cycle) ?_ ?_
      · apply takeVector_keeps State.cycle <;> intros <;> rfl
      · apply linkWord_keeps State.cycle <;> intros <;> rfl
    refine ⟨fun y o other => (cell y o).trans (goodWord_cell_of_idle (.inl other)), fun spared => ?_, fun u' x _ _ first judged block o => ?_⟩
    · have unused : s.cycle ≠ 0 ∨ ∀ x, u.activity ≠ some x := by
        rcases spared with stopped | dark | later | none
        · exact absurd stopped runs
        · exact absurd (dark.symm.trans lives) Bool.false_ne_true
        · exact .inl later
        · exact .inr fun x => none u x good
      have kept : goodWord s z u = takeVector (linkWord s z true) z u.alarms := takeBlock_of_unused (cycle.symm ▸ unused)
      rw [State.congr_bare State.cells same (fun _ => rfl), kept, takeVector_cells, linkWord_cells]
    · obtain rfl := Option.some.inj (good.symm.trans judged)
      have weight : ((takeVector (linkWord s z true) z u.alarms).oper o).weight = (s.oper o).weight := by
        refine Eq.trans (b := ((linkWord s z true).oper o).weight) ?_ ?_
        · apply takeVector_keeps (fun x : State => (x.oper o).weight) <;> intros <;> rfl
        · apply linkWord_keeps (fun x : State => (x.oper o).weight) <;> intros <;> rfl
      have carries : carrying (uplinkSlot s spoke pos word) z o = carrying (takeVector (linkWord s z true) z u.alarms) z o :=
        (State.congr_bare (carrying · z o) same (fun _ => rfl)).trans (goodWord_carrying ..)
      have taken : goodWord s z u = takeActivity (takeVector (linkWord s z true) z u.alarms) z x :=
        takeBlock_of_block (cycle.trans first) block
      rw [cell, taken, takeActivity_cell, carries, weight, vectorTaken_cell]
      simp only [true_and]
  · have kept : (uplinkSlot s spoke pos word).cells = s.cells := by
      refine uplinkSlot_cells ?_
      by_cases runs : s.transport = .stopped
      · exact .inl runs
      · refine .inr ?_
        by_cases lives : live s z = true
        · exact .inr (Option.eq_none_iff_forall_ne_some.mpr fun u good => used ⟨runs, lives, u, good⟩)
        · exact .inl (Bool.eq_false_iff.mpr lives)
    exact ⟨fun y o _ => cell_of_cells kept y o, fun _ => kept, fun u x runs lives _ good _ => absurd ⟨runs, lives, u, good⟩ used⟩

end Sys2Proof.Machine
end

section
/-! A cycle start, reaction by reaction in whatever order (R17, R27, R36, R42, R104): what each reaction writes, and the turn
of one reaction among the others. O31. -/

namespace Sys2Proof.Machine

open Sys2Proof

/-! ## The order -/

theorem effectiveOrder_legal (order : List Reaction) : legalOrder (effectiveOrder order) = true := by
  unfold effectiveOrder
  split
  · assumption
  · decide

/-- The order of a cycle start holds each reaction once. -/
theorem effectiveOrder_perm (order : List Reaction) : (effectiveOrder order).Perm standardOrder := by
  have legal := effectiveOrder_legal order
  simp only [legalOrder, Bool.and_eq_true, decide_eq_true_eq, List.all_eq_true, List.contains_iff_mem] at legal
  obtain ⟨⟨six, all⟩, -⟩ := legal
  have inside : standardOrder.Subperm (effectiveOrder order) := List.subperm_of_subset (by decide) all
  exact (inside.perm_of_length_le (by rw [six]; decide)).symm

theorem effectiveOrder_nodup (order : List Reaction) : (effectiveOrder order).Nodup :=
  (effectiveOrder_perm order).nodup_iff.mpr (by decide)

theorem mem_effectiveOrder (order : List Reaction) (r : Reaction) : r ∈ effectiveOrder order :=
  (effectiveOrder_perm order).mem_iff.mpr (by cases r <;> decide)

/-- The turn of a reaction in the order: what comes before it and what comes after it. -/
structure Turn (order : List Reaction) (r : Reaction) (ahead behind : List Reaction) : Prop where
  order_eq : effectiveOrder order = ahead ++ r :: behind
  ahead : r ∉ ahead
  behind : r ∉ behind

theorem exists_turn (order : List Reaction) (r : Reaction) : ∃ ahead behind, Turn order r ahead behind := by
  obtain ⟨ahead, behind, parts⟩ := List.append_of_mem (mem_effectiveOrder order r)
  have once := effectiveOrder_nodup order
  rw [parts] at once
  obtain ⟨fresh, -⟩ := List.nodup_cons.mp (List.nodup_middle.mp once)
  rw [List.mem_append, not_or] at fresh
  exact ⟨ahead, behind, parts, fresh.1, fresh.2⟩

theorem Turn.mem_ahead_iff {order : List Reaction} {r x : Reaction} {ahead behind : List Reaction} (turn : Turn order r ahead behind) :
    x ∈ ahead ↔ (effectiveOrder order).idxOf x < (effectiveOrder order).idxOf r := by
  rw [turn.order_eq, List.idxOf_append_of_notMem turn.ahead, List.idxOf_cons_self, Nat.add_zero, ← List.idxOf_lt_length_iff]
  by_cases named : x ∈ ahead
  · rw [List.idxOf_append_of_mem named]
  · rw [List.idxOf_append_of_notMem named, List.idxOf_eq_length named]
    omega

theorem Turn.not_behind {order : List Reaction} {r x : Reaction} {ahead behind : List Reaction} (turn : Turn order r ahead behind)
    (early : x ∈ ahead) : x ∉ behind := by
  have once := effectiveOrder_nodup order
  rw [turn.order_eq] at once
  exact fun late => (List.disjoint_of_nodup_append once) early (List.mem_cons_of_mem _ late)

/-- The commit comes before slot filling (R36). -/
theorem commit_before_fill (order : List Reaction) : (effectiveOrder order).idxOf .commit < (effectiveOrder order).idxOf .fill := by
  have legal := effectiveOrder_legal order
  simp only [legalOrder, Bool.and_eq_true, decide_eq_true_eq] at legal
  exact legal.2

/-! ## What each reaction writes -/

/-- The state s with the fields that a reaction writes as they stand in t. -/
def writtenBy (r : Reaction) (s t : State) : State :=
  match r with
  | .latch => { s with
      zones := t.zones, latchPending := t.latchPending, settle := t.settle, mark := t.mark, grants := t.grants, short := t.short
      realloc := t.realloc, notices := t.notices }
  | .commit => { s with
      activePlan := t.activePlan, shadows := t.shadows, commitPending := t.commitPending, lastCommit := t.lastCommit, mark := t.mark
      grants := t.grants, short := t.short, realloc := t.realloc, notices := t.notices }
  | .fill => { s with downlink := t.downlink, shadows := t.shadows, notices := t.notices }
  | .dwell => { s with links := t.links }
  | .protect => { s with prot := t.prot, grants := t.grants, short := t.short, realloc := t.realloc, notices := t.notices }
  | .spread => { s with
      zones := t.zones, latchPending := t.latchPending, spread := t.spread, settle := t.settle, notices := t.notices }

theorem react_protect (s : State) : react s .protect = if s.cycle = 0 then protectReaction s else s := rfl

theorem react_spread_eq (s : State) : react s .spread = if s.cycle = 0 then spreadReaction s else s := rfl

theorem writtenBy_self (r : Reaction) (s : State) : writtenBy r s s = s := by cases r <;> rfl

theorem writtenBy_react (s t : State) (r : Reaction) : writtenBy r (react s r) t = writtenBy r s t := by
  cases r with
  | latch =>
    exact latchReaction_keeps (writtenBy .latch · t) (fun _ _ => rfl) (fun _ _ => rfl) (fun _ _ => rfl) (fun _ _ => rfl)
      (fun _ _ => rfl) (fun _ _ => rfl) (fun _ _ => rfl) (fun _ _ => rfl) s
  | commit =>
    exact commitReaction_keeps (writtenBy .commit · t) (fun _ _ => rfl) (fun _ _ => rfl) (fun _ _ => rfl) (fun _ _ => rfl)
      (fun _ _ => rfl) (fun _ _ => rfl) (fun _ _ => rfl) (fun _ _ => rfl) (fun _ _ => rfl) s
  | fill => exact fillSlots_keeps (writtenBy .fill · t) (fun _ _ => rfl) (fun _ _ => rfl) (fun _ _ => rfl) s
  | dwell => exact countDwells_keeps (writtenBy .dwell · t) (fun _ _ => rfl) s
  | protect =>
    have taken := protectReaction_keeps (writtenBy .protect · t) (fun _ _ => rfl) (fun _ _ => rfl) (fun _ _ => rfl) (fun _ _ => rfl)
      (fun _ _ => rfl) s
    rw [react_protect]
    split
    · exact taken
    · rfl
  | spread =>
    have taken := spreadReaction_keeps (writtenBy .spread · t) (fun _ _ => rfl) (fun _ _ => rfl) (fun _ _ => rfl) (fun _ _ => rfl)
      (fun _ _ => rfl) s
    rw [react_spread_eq]
    split
    · exact taken
    · rfl

theorem react_frame (s : State) (r : Reaction) : react s r = writtenBy r s (react s r) :=
  (writtenBy_self r _).symm.trans (writtenBy_react ..)

/-- What the written fields do not reach is as before the reaction. -/
theorem react_reads {β : Type} (g : State → β) {r : Reaction} (unread : ∀ x t : State, g (writtenBy r x t) = g x) (s : State) :
    g (react s r) = g s := (congrArg g (react_frame s r)).trans (unread ..)

section Fields

variable {s : State} {r : Reaction}

theorem react_links (other : r ≠ .dwell) : (react s r).links = s.links := by
  refine react_reads State.links (fun _ _ => ?_) s
  cases r with
  | dwell => exact absurd rfl other
  | _ => rfl

theorem react_downlink (other : r ≠ .fill) : (react s r).downlink = s.downlink := by
  refine react_reads State.downlink (fun _ _ => ?_) s
  cases r with
  | fill => exact absurd rfl other
  | _ => rfl

theorem react_prot (other : r ≠ .protect) : (react s r).prot = s.prot := by
  refine react_reads State.prot (fun _ _ => ?_) s
  cases r with
  | protect => exact absurd rfl other
  | _ => rfl

theorem react_spread (other : r ≠ .spread) : (react s r).spread = s.spread := by
  refine react_reads State.spread (fun _ _ => ?_) s
  cases r with
  | spread => exact absurd rfl other
  | _ => rfl

/-- The plan and the record of its commit. -/
def State.plan (s : State) : Vector (Vector PlanEntry 64) 8 × Bool × Option Stamp := (s.activePlan, s.commitPending, s.lastCommit)

theorem react_plan (other : r ≠ .commit) : (react s r).plan = s.plan := by
  refine react_reads State.plan (fun _ _ => ?_) s
  cases r with
  | commit => exact absurd rfl other
  | _ => rfl

theorem react_shadows (other : r ≠ .commit) (later : r ≠ .fill) : (react s r).shadows = s.shadows := by
  refine react_reads State.shadows (fun _ _ => ?_) s
  cases r with
  | commit => exact absurd rfl other
  | fill => exact absurd rfl later
  | _ => rfl

theorem react_mark (other : r ≠ .commit) (later : r ≠ .latch) : (react s r).mark = s.mark := by
  refine react_reads State.mark (fun _ _ => ?_) s
  cases r with
  | commit => exact absurd rfl other
  | latch => exact absurd rfl later
  | _ => rfl

theorem react_settle (other : r ≠ .spread) (later : r ≠ .latch) : (react s r).settle = s.settle := by
  refine react_reads State.settle (fun _ _ => ?_) s
  cases r with
  | spread => exact absurd rfl other
  | latch => exact absurd rfl later
  | _ => rfl

/-- The zone records with the latch-pending flag. -/
def State.map (s : State) : Vector ZoneRec 64 × Bool := (s.zones, s.latchPending)

theorem react_map (other : r ≠ .spread) (later : r ≠ .latch) : (react s r).map = s.map := by
  refine react_reads State.map (fun _ _ => ?_) s
  cases r with
  | spread => exact absurd rfl other
  | latch => exact absurd rfl later
  | _ => rfl

/-- The fields that no reaction writes. -/
structure Standing where
  transport : Transport
  superframe : Nat
  cycle : Nat
  firstPending : Bool
  ops : Vector OpRec 4
  modes : Vector ClassMode 6
  tempLevel : Nat
  reflectLevel : Nat
  workPlan : Vector (Vector PlanEntry 64) 8
  cells : Vector (Vector Nat 4) 64
  settleTime : Nat
  holdOff : Nat
  lostLimit : Nat
  stale : Nat
  ports : Vector PortRec 5

def State.standingFields (s : State) : Standing where
  transport := s.transport
  superframe := s.superframe
  cycle := s.cycle
  firstPending := s.firstPending
  ops := s.ops
  modes := s.modes
  tempLevel := s.tempLevel
  reflectLevel := s.reflectLevel
  workPlan := s.workPlan
  cells := s.cells
  settleTime := s.settleTime
  holdOff := s.holdOff
  lostLimit := s.lostLimit
  stale := s.stale
  ports := s.ports

theorem react_standing (s : State) (r : Reaction) : (react s r).standingFields = s.standingFields :=
  react_reads State.standingFields (fun _ _ => by cases r <;> rfl) s

end Fields

/-! ## Runs of reactions -/

theorem foldl_react_keeps {β : Type} (g : State → β) {l : List Reaction} (each : ∀ (u : State) (r : Reaction), r ∈ l → g (react u r) = g u)
    (s : State) : g (l.foldl react s) = g s := by
  induction l generalizing s with
  | nil => rfl
  | cons r l ih =>
    rw [List.foldl_cons, ih fun u x later => each u x (List.mem_cons_of_mem _ later)]
    exact each s r List.mem_cons_self

theorem foldl_react_standing (l : List Reaction) (s : State) : (l.foldl react s).standingFields = s.standingFields :=
  foldl_react_keeps State.standingFields (fun u r _ => react_standing u r) s

/-- What holds of the state before each reaction of a run holds after the run. -/
theorem foldl_react_invariant {P : State → Prop} {l : List Reaction} (each : ∀ (u : State) (r : Reaction), r ∈ l → P u → P (react u r))
    {s : State} (start : P s) : P (l.foldl react s) := by
  induction l generalizing s with
  | nil => exact start
  | cons r l ih =>
    exact ih (fun u x later => each u x (List.mem_cons_of_mem _ later)) (each s r List.mem_cons_self start)

theorem ne_of_notMem {r x : Reaction} {l : List Reaction} (absent : r ∉ l) (named : x ∈ l) : x ≠ r := fun same => absent (same ▸ named)

section Turns

variable {order : List Reaction} {r : Reaction} {ahead behind : List Reaction}

theorem Turn.cycleStart_eq (turn : Turn order r ahead behind) (s : State) :
    cycleStart order s = behind.foldl react (react (ahead.foldl react (advanceCounts s)) r) := by
  rw [cycleStart, turn.order_eq, List.foldl_append, List.foldl_cons]

/-- What only one reaction writes stands as it found it and ends as it left it. -/
theorem Turn.reads {β : Type} (turn : Turn order r ahead behind) (g : State → β) (others : ∀ (u : State) (x : Reaction), x ≠ r → g (react u x) = g u)
    (s : State) : g (ahead.foldl react (advanceCounts s)) = g (advanceCounts s) ∧
      g (cycleStart order s) = g (react (ahead.foldl react (advanceCounts s)) r) := by
  refine ⟨foldl_react_keeps g (fun u x named => others u x (ne_of_notMem turn.ahead named)) _, ?_⟩
  rw [turn.cycleStart_eq]
  exact foldl_react_keeps g (fun u x named => others u x (ne_of_notMem turn.behind named)) _

end Turns

theorem cycleStart_standing (order : List Reaction) (s : State) : (cycleStart order s).standingFields = (advanceCounts s).standingFields :=
  foldl_react_standing _ _

/-! ## The event of a cycle start -/

/-- A boundary that is not the end of draining is a cycle start (R27). -/
theorem cycleBoundary_counts {s : State} (runs : s.transport ≠ .stopped)
    (counts : s.transport = .running ∨ s.firstPending = false ∧ s.cycle < 63) (order : List Reaction) :
    cycleBoundary order s = endEvent s (cycleStart order s) := by
  have goes : ¬ (s.transport = .draining ∧ superframeBoundary s = true) := by
    rintro ⟨drains, boundary⟩
    rcases counts with running | ⟨later, early⟩
    · rw [running] at drains
      cases drains
    · have last : ¬ Config.lastCycle ≤ s.cycle := Nat.not_le.mpr early
      simp [superframeBoundary, later, last] at boundary
  rw [cycleBoundary, if_neg runs, if_neg goes]

/-- The counts that a cycle start opens (R24, R27). -/
theorem advanceCounts_counts (s : State) : ((advanceCounts s).superframe, (advanceCounts s).cycle) =
    (if s.firstPending then (s.superframe, s.cycle) else if s.cycle < 63 then (s.superframe, s.cycle + 1)
      else if s.superframe < 65535 then (s.superframe + 1, 0) else (0, 0)) := by
  unfold advanceCounts
  by_cases first : s.firstPending = true
  · rw [if_pos first, if_pos first]
  · rw [if_neg first, if_neg first]
    by_cases early : s.cycle < 63
    · rw [if_pos (show s.cycle < Config.lastCycle from early), if_pos early]
    · rw [if_neg (show ¬ s.cycle < Config.lastCycle from early), if_neg early]
      by_cases room : s.superframe < 65535
      · rw [if_pos room, if_pos (show s.superframe < Config.lastSuperframe from room)]
      · rw [if_neg room, if_neg (show ¬ s.superframe < Config.lastSuperframe from room)]

theorem advanceCounts_firstPending (s : State) : (advanceCounts s).firstPending = false := by
  unfold advanceCounts
  by_cases first : s.firstPending = true
  · rw [if_pos first]
  · rw [if_neg first]
    have clear : s.firstPending = false := Bool.eq_false_iff.mpr first
    split <;> exact clear

/-! ## What a reaction leaves queued -/

theorem react_kept (s : State) (r : Reaction) {z : ZoneNo} (queued : z ∈ s.realloc) : z ∈ (react s r).realloc := by
  cases r with
  | latch =>
    show z ∈ (latchReaction s).realloc
    unfold latchReaction
    split
    · exact (takeLatch_clips s).kept z queued
    · exact queued
  | commit =>
    show z ∈ (commitReaction s).realloc
    unfold commitReaction
    split
    · exact (takeCommit_clips s).kept z queued
    · exact queued
  | fill =>
    have same : (react s .fill).realloc = s.realloc := react_reads State.realloc (fun _ _ => rfl) s
    rw [same]
    exact queued
  | dwell =>
    have same : (react s .dwell).realloc = s.realloc := react_reads State.realloc (fun _ _ => rfl) s
    rw [same]
    exact queued
  | protect =>
    rw [react_protect]
    split
    · have step (u : State) (y : ZoneNo) (held : z ∈ u.realloc) : z ∈ (countZoneRetries u y).realloc := (countZoneRetries_clip u y).kept z held
      exact List.foldlRecOn allZones countZoneRetries (motive := fun u => z ∈ u.realloc) queued fun u held y _ => step u y held
    · exact queued
  | spread =>
    have same : (react s .spread).realloc = s.realloc := react_reads State.realloc (fun _ _ => rfl) s
    rw [same]
    exact queued

theorem foldl_react_kept (l : List Reaction) {s : State} {z : ZoneNo} (queued : z ∈ s.realloc) : z ∈ (l.foldl react s).realloc :=
  foldl_react_invariant (P := fun u => z ∈ u.realloc) (fun u r _ held => react_kept u r held) queued

end Sys2Proof.Machine
end

section
/-! The counts, the marker, MARK and the commit of a cycle start (R24, R27, R36, R40): O31. -/

namespace Sys2Proof.Machine

open Sys2Proof

/-! ## Reactions that do nothing -/

section Idle

variable {s : State} {r : Reaction}

theorem latchReaction_of_clear (clear : s.latchPending = false) : latchReaction s = s :=
  if_neg (by rw [clear]; exact Bool.false_ne_true)

theorem latchReaction_of_pending (pending : s.latchPending = true) : latchReaction s = { takeLatch s with mark := true } := if_pos pending

theorem commitReaction_of_idle (idle : s.commitPending = false ∨ s.cycle ≠ 0) : commitReaction s = s := by
  refine if_neg ?_
  rintro ⟨pending, first⟩
  rcases idle with clear | later
  · exact Bool.false_ne_true (clear.symm.trans pending)
  · exact later first

theorem commitReaction_of_pending (pending : s.commitPending = true) (first : s.cycle = 0) :
    commitReaction s = { takeCommit s with mark := true } := if_pos ⟨pending, first⟩

/-- The reactions to a superframe start are taken in cycle 0 alone. -/
theorem react_of_later (later : s.cycle ≠ 0) (superframe : r = .commit ∨ r = .protect ∨ r = .spread) : react s r = s := by
  rcases superframe with rfl | rfl | rfl
  · exact commitReaction_of_idle (.inr later)
  · exact if_neg later
  · exact if_neg later

end Idle

/-! ## The flag and MARK -/

/-- The moves of the Spread Engine leave a set flag set (R14). -/
theorem countProposal_staysPending {s : State} (pending : s.latchPending = true) (o : OpNo) : (countProposal s o).latchPending = true := by
  unfold countProposal
  split
  · exact pending
  · next p stands =>
    split
    · exact pending
    · cases rule : (s.oper o).silence with
      | apply =>
        rw [expireProposal_of_apply p rule]
        exact file_keeps State.latchPending (fun _ _ => rfl) ..
      | drop =>
        rw [expireProposal_of_drop p rule]
        exact (file_keeps State.latchPending (fun _ _ => rfl) ..).trans pending

theorem evaluate_staysPending {s : State} (pending : s.latchPending = true) (o : OpNo) : (evaluate s o).latchPending = true := by
  unfold evaluate
  split
  · exact pending
  · split
    · rfl
    · exact (file_keeps State.latchPending (fun _ _ => rfl) ..).trans pending

theorem countEvaluation_staysPending {s : State} (pending : s.latchPending = true) (o : OpNo) : (countEvaluation s o).latchPending = true := by
  unfold countEvaluation
  split
  · split
    · exact pending
    · exact evaluate_staysPending (s := setEvalCount s o 0) pending o
  · exact pending

theorem spreadReaction_staysPending {s : State} (pending : s.latchPending = true) : (spreadReaction s).latchPending = true := by
  have start : (countSettles s).latchPending = true := (countSettles_keeps State.latchPending (fun _ _ => rfl) s).trans pending
  unfold spreadReaction
  generalize countSettles s = x at *
  have proposals : (allOps.foldl countProposal x).latchPending = true :=
    List.foldlRecOn allOps countProposal (motive := fun u => u.latchPending = true) start fun u held o _ => countProposal_staysPending held o
  exact List.foldlRecOn allOps countEvaluation (motive := fun u => u.latchPending = true) proposals fun u held o _ =>
    countEvaluation_staysPending held o

theorem react_staysPending {s : State} {r : Reaction} (other : r ≠ .latch) (pending : s.latchPending = true) : (react s r).latchPending = true := by
  by_cases moves : r = .spread
  · subst moves
    rw [react_spread_eq]
    split
    · exact spreadReaction_staysPending pending
    · exact pending
  · have same := react_map (s := s) moves other
    exact (congrArg Prod.snd same).trans pending

theorem react_mark_up {s : State} (up : s.mark = true) (r : Reaction) : (react s r).mark = true := by
  by_cases latch : r = .latch
  · subst latch
    show (latchReaction s).mark = true
    unfold latchReaction
    split
    · rfl
    · exact up
  · by_cases commit : r = .commit
    · subst commit
      show (commitReaction s).mark = true
      unfold commitReaction
      split
      · rfl
      · exact up
    · exact (react_mark commit latch).trans up

/-- A latch that waits is taken at its turn, whatever comes before it (R15). -/
theorem Turn.pending {order ahead behind : List Reaction} (turn : Turn order .latch ahead behind) {s : State}
    (pending : s.latchPending = true) : (ahead.foldl react (advanceCounts s)).latchPending = true := by
  have start : (advanceCounts s).latchPending = true :=
    (advanceCounts_keeps State.latchPending (fun _ _ => rfl) (fun _ _ => rfl) (fun _ _ => rfl) s).trans pending
  exact foldl_react_invariant (P := fun u => u.latchPending = true) (fun u r named held => react_staysPending (ne_of_notMem turn.ahead named) held)
    start

section Mark

variable {s : State} (order : List Reaction)

theorem cycleStart_mark_of_pending (pending : s.latchPending = true) : (cycleStart order s).mark = true := by
  obtain ⟨ahead, behind, turn⟩ := exists_turn order .latch
  rw [turn.cycleStart_eq]
  refine foldl_react_invariant (P := fun u => u.mark = true) (fun u r _ up => react_mark_up up r) ?_
  show (latchReaction _).mark = true
  rw [latchReaction_of_pending (turn.pending pending)]

theorem cycleStart_cycle (s : State) : (cycleStart order s).cycle = (advanceCounts s).cycle :=
  congrArg Standing.cycle (cycleStart_standing order s)

/-- The state at the turn of a reaction counts the cycle that opens. -/
theorem ahead_cycle (ahead : List Reaction) (s : State) : (ahead.foldl react (advanceCounts s)).cycle = (advanceCounts s).cycle :=
  congrArg Standing.cycle (foldl_react_standing ahead _)

theorem advanceCounts_plan (s : State) : (advanceCounts s).plan = s.plan :=
  advanceCounts_keeps State.plan (fun _ _ => rfl) (fun _ _ => rfl) (fun _ _ => rfl) s

/-- The state in which the commit's turn comes holds the plan and the record of s. -/
theorem Turn.plan {ahead behind : List Reaction} {order : List Reaction} (turn : Turn order .commit ahead behind) (s : State) :
    (ahead.foldl react (advanceCounts s)).plan = s.plan ∧
      (cycleStart order s).plan = (react (ahead.foldl react (advanceCounts s)) .commit).plan := by
  obtain ⟨before, after⟩ := turn.reads State.plan (fun u x other => react_plan other) s
  exact ⟨before.trans (advanceCounts_plan s), after⟩

theorem cycleStart_mark_of_commit (pending : s.commitPending = true) (first : (cycleStart order s).cycle = 0) :
    (cycleStart order s).mark = true := by
  obtain ⟨ahead, behind, turn⟩ := exists_turn order .commit
  have held : (ahead.foldl react (advanceCounts s)).commitPending = true :=
    (congrArg (fun p => p.2.1) (turn.plan s).1).trans pending
  have zero : (ahead.foldl react (advanceCounts s)).cycle = 0 := (ahead_cycle ahead s).trans ((cycleStart_cycle order s).symm.trans first)
  rw [turn.cycleStart_eq]
  refine foldl_react_invariant (P := fun u => u.mark = true) (fun u r _ up => react_mark_up up r) ?_
  show (commitReaction _).mark = true
  rw [commitReaction_of_pending held zero]

/-- With no latch waiting, a cycle other than 0 sees slot filling and the dwell count alone. -/
theorem cycleStart_quiet {β : Type} (g : State → β) (fill : ∀ u, g (react u .fill) = g u) (dwell : ∀ u, g (react u .dwell) = g u)
    (clear : s.latchPending = false) (later : (cycleStart order s).cycle ≠ 0) : g (cycleStart order s) = g (advanceCounts s) := by
  rw [cycleStart_cycle] at later
  have flag : (advanceCounts s).latchPending = false :=
    (advanceCounts_keeps State.latchPending (fun _ _ => rfl) (fun _ _ => rfl) (fun _ _ => rfl) s).trans clear
  have kept := foldl_react_invariant (P := fun u => u.latchPending = false ∧ u.cycle ≠ 0 ∧ g u = g (advanceCounts s))
    (l := effectiveOrder order) (fun u r _ ⟨calm, cycle, same⟩ => ?_) ⟨flag, later, rfl⟩
  · exact kept.2.2
  · cases r with
    | latch =>
      rw [show react u .latch = u from latchReaction_of_clear calm]
      exact ⟨calm, cycle, same⟩
    | commit =>
      rw [react_of_later cycle (.inl rfl)]
      exact ⟨calm, cycle, same⟩
    | protect =>
      rw [react_of_later cycle (.inr (.inl rfl))]
      exact ⟨calm, cycle, same⟩
    | spread =>
      rw [react_of_later cycle (.inr (.inr rfl))]
      exact ⟨calm, cycle, same⟩
    | fill =>
      have flag : (react u .fill).latchPending = u.latchPending := react_reads State.latchPending (fun _ _ => rfl) u
      have count : (react u .fill).cycle = u.cycle := react_reads State.cycle (fun _ _ => rfl) u
      exact ⟨flag.trans calm, count.trans_ne cycle, (fill u).trans same⟩
    | dwell =>
      have flag : (react u .dwell).latchPending = u.latchPending := react_reads State.latchPending (fun _ _ => rfl) u
      have count : (react u .dwell).cycle = u.cycle := react_reads State.cycle (fun _ _ => rfl) u
      exact ⟨flag.trans calm, count.trans_ne cycle, (dwell u).trans same⟩

end Mark

/-! ## The downlink -/

theorem fillSlots_downlink (s : State) : (fillSlots s).downlink =
    some { marker := s.stamp, slots := Vector.ofFn fun spoke => Vector.ofFn (fillSlot s spoke) } := rfl

/-- What slot filling sends is fixed at its turn (R30). -/
theorem Turn.downlink {order ahead behind : List Reaction} (turn : Turn order .fill ahead behind) (s : State) :
    (cycleStart order s).downlink = some
      { marker := (ahead.foldl react (advanceCounts s)).stamp
        slots := Vector.ofFn fun spoke => Vector.ofFn (fillSlot (ahead.foldl react (advanceCounts s)) spoke) } :=
  (turn.reads State.downlink (fun _ _ other => react_downlink other) s).2.trans (fillSlots_downlink _)

/-! ## The commit -/

section Commit

variable {s : State} {order : List Reaction}

theorem takeCommit_plan (s : State) : (takeCommit s).plan = (s.workPlan, false, some s.stamp) :=
  (State.congr_bare State.plan (takeCommit_bare s) (fun _ => rfl)).trans rfl

theorem cycleStart_plan_of_idle (idle : s.commitPending = false ∨ (cycleStart order s).cycle ≠ 0) : (cycleStart order s).plan = s.plan := by
  obtain ⟨ahead, behind, turn⟩ := exists_turn order .commit
  obtain ⟨before, after⟩ := turn.plan s
  have same : react (ahead.foldl react (advanceCounts s)) .commit = ahead.foldl react (advanceCounts s) := by
    refine commitReaction_of_idle (idle.imp (fun clear => (congrArg (fun p => p.2.1) before).trans clear) fun later => ?_)
    rwa [ahead_cycle, ← cycleStart_cycle order]
  rw [after, same, before]

theorem cycleStart_workPlan (s : State) : (cycleStart order s).workPlan = s.workPlan :=
  (congrArg Standing.workPlan (cycleStart_standing order s)).trans
    (advanceCounts_keeps State.workPlan (fun _ _ => rfl) (fun _ _ => rfl) (fun _ _ => rfl) s)

theorem cycleStart_stamp (s : State) : (cycleStart order s).stamp = (advanceCounts s).stamp :=
  congrArg (fun f : Standing => ({ superframe := f.superframe, cycle := f.cycle } : Stamp)) (cycleStart_standing order s)

theorem ahead_stamp (ahead : List Reaction) (s : State) : (ahead.foldl react (advanceCounts s)).stamp = (advanceCounts s).stamp :=
  congrArg (fun f : Standing => ({ superframe := f.superframe, cycle := f.cycle } : Stamp)) (foldl_react_standing ahead _)

theorem ahead_workPlan (ahead : List Reaction) (s : State) : (ahead.foldl react (advanceCounts s)).workPlan = s.workPlan :=
  (congrArg Standing.workPlan (foldl_react_standing ahead _)).trans
    (advanceCounts_keeps State.workPlan (fun _ _ => rfl) (fun _ _ => rfl) (fun _ _ => rfl) s)

/-- A commit that waits is taken at a superframe start; each zone with a lane whose slotted status changed is queued (R36). -/
theorem cycleStart_plan_of_commit (pending : s.commitPending = true) (first : (cycleStart order s).cycle = 0) :
    (cycleStart order s).plan = (s.workPlan, false, some (cycleStart order s).stamp) ∧
      ∀ z : ZoneNo, (∃ o : OpNo, slotted s z o ≠ slotted (cycleStart order s) z o) → z ∈ (cycleStart order s).realloc := by
  obtain ⟨ahead, behind, turn⟩ := exists_turn order .commit
  obtain ⟨before, after⟩ := turn.plan s
  have held : (ahead.foldl react (advanceCounts s)).commitPending = true := (congrArg (fun p => p.2.1) before).trans pending
  have zero : (ahead.foldl react (advanceCounts s)).cycle = 0 := (ahead_cycle ahead s).trans ((cycleStart_cycle order s).symm.trans first)
  have whole := turn.cycleStart_eq s
  have workPlan := ahead_workPlan ahead s
  have stamp := ahead_stamp ahead s
  rw [← cycleStart_stamp (order := order)] at stamp
  generalize ahead.foldl react (advanceCounts s) = m at *
  have commit : react m .commit = { takeCommit m with mark := true } := commitReaction_of_pending held zero
  have plan : (react m .commit).plan = (takeCommit m).plan := by rw [commit]; rfl
  refine ⟨?_, fun z changed => ?_⟩
  · rw [after, plan, takeCommit_plan, workPlan, stamp]
  · rw [whole]
    refine foldl_react_kept behind ?_
    have queued : z ∈ (takeCommit m).realloc := by
      obtain ⟨o, differs⟩ := changed
      refine takeCommit_queued ⟨o, ?_⟩
      rw [slotted_of_plan (t := m) (u := s) (congrArg Prod.fst before),
        ← slotted_of_plan (t := cycleStart order s) (u := takeCommit m) (congrArg Prod.fst (after.trans plan))]
      exact differs
    rw [commit]
    exact queued

end Commit

/-- Settles O31. -/
theorem cycleStartAdvancesCounts : Obligations.CycleStartAdvancesCounts := by
  intro s order runs counts
  obtain ⟨ahead, behind, turn⟩ := exists_turn order .fill
  have taken : exec (.cycleStart order) s = .next (endEvent s (cycleStart order s)) := next_congr (cycleBoundary_counts runs counts order)
  have sends := turn.downlink s
  rw [ahead_stamp, ← cycleStart_stamp (order := order)] at sends
  have standing := cycleStart_standing order s
  have advanced := advanceCounts_counts s
  have ports : (cycleStart order s).ports = s.ports :=
    (congrArg Standing.ports standing).trans (advanceCounts_keeps State.ports (fun _ _ => rfl) (fun _ _ => rfl) (fun _ _ => rfl) s)
  have transport := (congrArg Standing.transport standing).trans (advanceCounts_transport s)
  have first := (congrArg Standing.firstPending standing).trans (advanceCounts_firstPending s)
  have ops := (congrArg Standing.ops standing).trans (advanceCounts_keeps State.ops (fun _ _ => rfl) (fun _ _ => rfl) (fun _ _ => rfl) s)
  have stale := (congrArg Standing.stale standing).trans
    (advanceCounts_keeps State.stale (fun _ _ => rfl) (fun _ _ => rfl) (fun _ _ => rfl) s)
  have cells := (congrArg Standing.cells standing).trans
    (advanceCounts_keeps State.cells (fun _ _ => rfl) (fun _ _ => rfl) (fun _ _ => rfl) s)
  have times : ((cycleStart order s).superframe, (cycleStart order s).cycle) = _ :=
    (congrArg (fun f : Standing => (f.superframe, f.cycle)) standing).trans advanced
  have workPlan := cycleStart_workPlan (order := order) s
  have markLatch := cycleStart_mark_of_pending (s := s) order
  have markCommit := cycleStart_mark_of_commit (s := s) order
  have advancedMark := advanceCounts_keeps State.mark (fun _ _ => rfl) (fun _ _ => rfl) (fun _ _ => rfl) s
  have quiet := cycleStart_quiet (s := s) order State.mark (fun u => react_mark (by decide) (by decide)) fun u =>
    react_mark (by decide) (by decide)
  have commits := cycleStart_plan_of_commit (s := s) (order := order)
  have idles := cycleStart_plan_of_idle (s := s) (order := order)
  generalize cycleStart order s = c at *
  obtain ⟨t, ended⟩ : ∃ t, t = endEvent s c := ⟨_, rfl⟩
  rw [← ended] at taken
  have same : t.bare = c.bare := by rw [ended, endEvent_bare]
  have read {β : Type} (g : State → β) (hg : ∀ x : State, g x.bare = g x) : g t = g c := State.congr_bare g same hg
  have cycle : t.cycle = c.cycle := read State.cycle fun _ => rfl
  have plan : t.plan = c.plan := read State.plan fun _ => rfl
  have mark : t.mark = c.mark := read State.mark fun _ => rfl
  have stamp : t.stamp = c.stamp := read State.stamp fun _ => rfl
  refine ⟨t, _, taken, (read State.downlink fun _ => rfl).trans sends, stamp.symm, (read State.firstPending fun _ => rfl).trans first,
    (read State.transport fun _ => rfl).trans transport, ?_, fun waits => ?_, fun clear later => ?_, fun pending zero => ?_, fun idle => ?_, ?_,
    (read State.ops fun _ => rfl).trans ops, (read State.workPlan fun _ => rfl).trans workPlan, (read State.stale fun _ => rfl).trans stale,
    (read State.cells fun _ => rfl).trans cells⟩
  · exact (read (fun x => (x.superframe, x.cycle)) fun _ => rfl).trans times
  · rw [mark]
    rcases waits with pending | ⟨pending, zero⟩
    · exact markLatch pending
    · exact markCommit pending (cycle ▸ zero)
  · rw [mark]
    exact (quiet clear (cycle ▸ later)).trans advancedMark
  · obtain ⟨fresh, queued⟩ := commits pending (cycle ▸ zero)
    have whole := plan.trans fresh
    refine ⟨congrArg Prod.fst whole, congrArg (fun p => p.2.1) whole, ?_, fun z changed => ?_⟩
    · have last : t.lastCommit = some c.stamp := congrArg (fun p => p.2.2) whole
      rw [last, ← stamp, State.stamp, zero]
    · rw [ended]
      refine endEvent_awaits (queued z ?_)
      obtain ⟨o, differs⟩ := changed
      exact ⟨o, by rwa [slotted_congr same] at differs⟩
  · have whole := plan.trans (idles (idle.imp_right fun later => cycle ▸ later))
    exact ⟨congrArg Prod.fst whole, congrArg (fun p => p.2.1) whole, congrArg (fun p => p.2.2) whole⟩
  · rw [ended, endEvent_ports', ports]

end Sys2Proof.Machine
end

section
/-! The Spread Engine's reaction to a superframe start, operator by operator (R104, R106, R112). -/

namespace Sys2Proof.Machine

open Sys2Proof

/-! ## Folds of operations that each reach one entry -/

section Folds

variable {α β : Type} {f : State → α → State} {read : State → α → β}

/-- An operation that leaves the other entries, taken once for each entry of a list, does to each entry what one turn does. -/
theorem foldl_relates {R : β → β → Prop} (others : ∀ s a b, b ≠ a → read (f s a) b = read s b) (own : ∀ s a, R (read s a) (read (f s a) a))
    {l : List α} (once : l.Nodup) {b : α} (named : b ∈ l) (s : State) : R (read s b) (read (l.foldl f s) b) := by
  have spared (l : List α) (absent : b ∉ l) (u : State) : read (l.foldl f u) b = read u b := by
    induction l generalizing u with
    | nil => rfl
    | cons a l ih =>
      obtain ⟨here, later⟩ := List.ne_and_not_mem_of_not_mem_cons absent
      exact (ih later _).trans (others u a b here)
  induction l generalizing s with
  | nil => exact absurd named List.not_mem_nil
  | cons a l ih =>
    obtain ⟨fresh, rest⟩ := List.nodup_cons.mp once
    rw [List.foldl_cons]
    rcases List.mem_cons.mp named with rfl | later
    · rw [spared l fresh]
      exact own s b
    · rw [← others s a b fun same => fresh (same ▸ later)]
      exact ih rest later _

/-- What each turn keeps where its own entry meets a condition is kept by the turns of a list whose entries meet it at the start. -/
theorem foldl_keeps_of_entries {γ : Type} (g : State → γ) {C : β → Prop} (others : ∀ s a b, b ≠ a → read (f s a) b = read s b)
    (each : ∀ s a, C (read s a) → g (f s a) = g s) {l : List α} (once : l.Nodup) {s : State} (start : ∀ a, a ∈ l → C (read s a)) :
    g (l.foldl f s) = g s := by
  induction l generalizing s with
  | nil => rfl
  | cons a l ih =>
    obtain ⟨fresh, rest⟩ := List.nodup_cons.mp once
    rw [List.foldl_cons, ih rest fun b later => ?_]
    · exact each s a (start a List.mem_cons_self)
    · rw [others s a b fun same => fresh (same ▸ later)]
      exact start b (List.mem_cons_of_mem _ later)

end Folds

/-! ## An operator's own part -/

/-- What the Spread Engine's reaction reads and writes of one operator: its record, its spreading state, the settle time, and the
settle counters and working bindings of its lanes. -/
structure OwnView where
  oper : OpRec
  record : SpreadRec
  time : Nat
  settle : ZoneNo → Nat
  working : ZoneNo → Option SectorNo

def ownView (s : State) (o : OpNo) : OwnView where
  oper := s.oper o
  record := s.spreadRec o
  time := s.settleTime
  settle z := s.settleCount z o
  working z := s.working z o

/-- The open proposal is on zone z and its last count comes (R112). -/
def OwnView.expiresAt (v : OwnView) (z : ZoneNo) : Prop := ∃ p : Proposal, v.record.proposal = some p ∧ p.zone = z ∧ p.remaining ≤ 1

/-- An AUTO evaluation falls due at the next count (R106). -/
def OwnView.mayMove (v : OwnView) : Prop := v.oper.tenancy = .active ∧ v.oper.policy = .auto ∧ v.oper.period ≤ v.record.evalCount + 1

/-- An operator's part after its settle counters are counted (R105). -/
def OwnView.decremented (v : OwnView) : OwnView := { v with settle := fun z => v.settle z - 1 }

theorem workingWrite_lane (s : State) (z : ZoneNo) (o : OpNo) (b : Option SectorNo) (y : ZoneNo) (q : OpNo) :
    (workingWrite s z o b).working y q = if y = z ∧ q = o then b else s.working y q := by
  obtain ⟨-, own, others, elsewhere⟩ := workingWrite_working s z o b
  by_cases here : y = z
  · subst here
    by_cases same : q = o
    · subst same
      rw [own, if_pos ⟨rfl, rfl⟩]
    · rw [others q same, if_neg fun h => same h.2]
  · rw [if_neg fun h => here h.1]
    exact congrArg (fun r : ZoneRec => r.working[q]) (elsewhere y here)

theorem ownView_workingWrite (s : State) (z : ZoneNo) (o : OpNo) (b : Option SectorNo) (q : OpNo) : ownView (workingWrite s z o b) q =
    { ownView s q with working := fun y => if y = z ∧ q = o then b else s.working y q } := by
  simp only [ownView, workingWrite_lane]
  rfl

theorem ownView_file (s : State) (ps : List Port) (n : Notice) (q : OpNo) : ownView (file s ps n) q = ownView s q :=
  file_keeps (ownView · q) (fun _ _ => rfl) ..

theorem ownView_setSettle (s : State) (z : ZoneNo) (o : OpNo) (n : Nat) (q : OpNo) : ownView (s.setSettle z o n) q =
    { ownView s q with settle := fun y => if y = z ∧ q = o then n else s.settleCount y q } := by
  simp only [ownView, setSettle_settleCount_eq]
  rfl

theorem ownView_setSpread (s : State) (o : OpNo) (r : SpreadRec) : ownView (s.setSpread o r) o = { ownView s o with record := r } := by
  simp only [ownView, State.setSpread_spreadRec]
  rfl

theorem ownView_setSpread_ne (s : State) {o q : OpNo} (r : SpreadRec) (other : q ≠ o) : ownView (s.setSpread o r) q = ownView s q := by
  simp only [ownView, State.setSpread_spreadRec_ne s r other]
  rfl

theorem ownView_countSettles (s : State) (o : OpNo) : ownView (countSettles s) o = (ownView s o).decremented := by
  have count (z : ZoneNo) : (countSettles s).settleCount z o = s.settleCount z o - 1 := by
    show laneGet (retable (fun _ lanes => retable (fun _ n => n - 1) lanes) s.settle) z o = _
    rw [laneGet, retable_getElem, retable_getElem]
    rfl
  have rest := countSettles_keeps (fun x => OwnView.mk (x.oper o) (x.spreadRec o) x.settleTime (fun z => s.settleCount z o - 1)
    fun z => x.working z o) (fun _ _ => rfl) s
  rw [ownView, funext count]
  exact rest

/-! ## The proposals -/

/-- An operator's part after its open proposal is counted (R112). -/
def OwnView.counted (v : OwnView) : OwnView :=
  match v.record.proposal with
  | none => v
  | some p =>
    if 1 < p.remaining then { v with record := { v.record with proposal := some { p with remaining := p.remaining - 1 } } }
    else
      { v with
        record := { v.record with proposal := none, lastClosed := some p.id }
        working := fun z => if z = p.zone ∧ v.oper.silence = .apply then some p.toSector else v.working z
        settle := fun z => if z = p.zone ∧ v.oper.silence = .drop then v.time else v.settle z }

section Counted

variable {v : OwnView} {p : Proposal}

theorem counted_of_none (none : v.record.proposal = none) : v.counted = v := by
  unfold OwnView.counted
  rw [none]

theorem counted_of_more (stands : v.record.proposal = some p) (more : 1 < p.remaining) :
    v.counted = { v with record := { v.record with proposal := some { p with remaining := p.remaining - 1 } } } := by
  unfold OwnView.counted
  rw [stands]
  exact if_pos more

theorem counted_of_last (stands : v.record.proposal = some p) (last : p.remaining ≤ 1) : v.counted =
    { v with
      record := { v.record with proposal := none, lastClosed := some p.id }
      working := fun z => if z = p.zone ∧ v.oper.silence = .apply then some p.toSector else v.working z
      settle := fun z => if z = p.zone ∧ v.oper.silence = .drop then v.time else v.settle z } := by
  unfold OwnView.counted
  rw [stands]
  exact if_neg (Nat.not_lt.mpr last)

theorem counted_settle (v : OwnView) (z : ZoneNo) [Decidable (v.expiresAt z ∧ v.oper.silence = .drop)] :
    v.counted.settle z = if v.expiresAt z ∧ v.oper.silence = .drop then v.time else v.settle z := by
  cases stands : v.record.proposal with
  | none =>
    rw [counted_of_none stands, if_neg]
    rintro ⟨⟨p, held, -⟩, -⟩
    exact nomatch stands.symm.trans held
  | some p =>
    by_cases more : 1 < p.remaining
    · rw [counted_of_more stands more, if_neg]
      rintro ⟨⟨q, held, -, last⟩, -⟩
      obtain rfl := Option.some.inj (stands.symm.trans held)
      exact absurd more (Nat.not_lt.mpr last)
    · have last : p.remaining ≤ 1 := Nat.not_lt.mp more
      have iff : v.expiresAt z ↔ z = p.zone := by
        constructor
        · rintro ⟨q, held, here, -⟩
          obtain rfl := Option.some.inj (stands.symm.trans held)
          exact here.symm
        · rintro rfl
          exact ⟨p, stands, rfl, last⟩
      rw [counted_of_last stands last]
      simp only [iff]

theorem counted_working {z : ZoneNo} (spared : ¬ (v.expiresAt z ∧ v.oper.silence = .apply)) : v.counted.working z = v.working z := by
  cases stands : v.record.proposal with
  | none => rw [counted_of_none stands]
  | some p =>
    by_cases more : 1 < p.remaining
    · rw [counted_of_more stands more]
    · have last : p.remaining ≤ 1 := Nat.not_lt.mp more
      rw [counted_of_last stands last]
      refine if_neg ?_
      rintro ⟨rfl, rule⟩
      exact spared ⟨⟨p, stands, rfl, last⟩, rule⟩

theorem counted_rest (v : OwnView) : v.counted.oper = v.oper ∧ v.counted.time = v.time ∧
    v.counted.record.evalCount = v.record.evalCount := by
  unfold OwnView.counted
  split
  · exact ⟨rfl, rfl, rfl⟩
  · split <;> exact ⟨rfl, rfl, rfl⟩

end Counted

theorem ownView_expireProposal (s : State) (o : OpNo) (p : Proposal) (q : OpNo) : ownView (expireProposal s o p) q =
    if q = o then
      { ownView s o with
        record := { (ownView s o).record with proposal := none, lastClosed := some p.id }
        working := fun z => if z = p.zone ∧ (s.oper o).silence = .apply then some p.toSector else s.working z o
        settle := fun z => if z = p.zone ∧ (s.oper o).silence = .drop then s.settleTime else s.settleCount z o }
    else ownView s q := by
  have record (u : State) (same : u.spreadRec o = s.spreadRec o) : closeProposal u o p =
      u.setSpread o { s.spreadRec o with proposal := none, lastClosed := some p.id } := by rw [closeProposal, same]
  cases rule : (s.oper o).silence with
  | apply =>
    rw [expireProposal_of_apply p rule, ownView_file, record (workingWrite s p.zone o (some p.toSector)) rfl]
    by_cases own : q = o
    · subst own
      rw [if_pos rfl, ownView_setSpread, ownView_workingWrite]
      simp only [and_true, reduceCtorEq, and_false, if_false]
      rfl
    · rw [if_neg own, ownView_setSpread_ne _ _ own, ownView_workingWrite]
      simp only [own, and_false, if_false]
      rfl
  | drop =>
    rw [expireProposal_of_drop p rule, ownView_file, record (s.setSettle p.zone o s.settleTime) rfl]
    by_cases own : q = o
    · subst own
      rw [if_pos rfl, ownView_setSpread, ownView_setSettle]
      simp only [and_true, reduceCtorEq, and_false, if_false]
      rfl
    · rw [if_neg own, ownView_setSpread_ne _ _ own, ownView_setSettle]
      simp only [own, and_false, if_false]
      rfl

theorem ownView_countProposal_ne (s : State) {o q : OpNo} (other : q ≠ o) : ownView (countProposal s o) q = ownView s q := by
  unfold countProposal
  split
  · rfl
  · split
    · exact ownView_setSpread_ne s _ other
    · rw [ownView_expireProposal, if_neg other]

theorem ownView_countProposal (s : State) (o : OpNo) : ownView (countProposal s o) o = (ownView s o).counted := by
  unfold countProposal
  split
  · next none => exact (counted_of_none (v := ownView s o) none).symm
  · next p stands =>
    split
    · next more => rw [ownView_setSpread, counted_of_more (v := ownView s o) stands more]; rfl
    · next last =>
      rw [ownView_expireProposal, if_pos rfl, counted_of_last (v := ownView s o) stands (Nat.not_lt.mp last)]
      rfl

/-! ## The evaluations -/

/-- What the count of an operator's evaluations does to its part (R106). -/
structure Evaluated (v w : OwnView) : Prop where
  oper : w.oper = v.oper
  time : w.time = v.time
  settle : w.settle = v.settle
  lastClosed : w.record.lastClosed = v.record.lastClosed
  evalCount : w.record.evalCount = if v.oper.tenancy = .active ∧ v.oper.policy ≠ .fixed then
    if v.record.evalCount + 1 < v.oper.period then v.record.evalCount + 1 else 0 else v.record.evalCount
  proposal : ∀ p, v.record.proposal = some p → w.record.proposal = some p
  working : ¬ v.mayMove → w.working = v.working

theorem ownView_runEvaluation_ne (s : State) {o q : OpNo} (other : q ≠ o) : ownView (runEvaluation s o) q = ownView s q := by
  cases decision : decideMove s o with
  | ends e =>
    rw [runEvaluation_of_ends decision]
    exact ownView_setSpread_ne s _ other
  | move z h t =>
    rw [runEvaluation_of_move decision]
    have count : ownView (setEvalCount s o 0) q = ownView s q := ownView_setSpread_ne s _ other
    split
    · rw [setOutcome, ownView_setSpread_ne _ _ other, ownView_workingWrite]
      simp only [other, and_false, if_false]
      exact count
    · rw [openProposal, ownView_file, ownView_setSpread_ne _ _ other, count]

theorem ownView_countEvaluation_ne (s : State) {o q : OpNo} (other : q ≠ o) : ownView (countEvaluation s o) q = ownView s q := by
  unfold countEvaluation
  split
  · split
    · exact ownView_setSpread_ne s _ other
    · exact ownView_runEvaluation_ne s other
  · rfl

theorem counted_iff {s : State} {o : OpNo} : counted s o = true ↔ (s.oper o).tenancy = .active ∧ (s.oper o).policy ≠ .fixed := by
  simp [counted]

theorem runEvaluation_evaluated {s : State} {o : OpNo} (counts : counted s o = true) (due : ¬ (s.spreadRec o).evalCount + 1 < (s.oper o).period) :
    Evaluated (ownView s o) (ownView (runEvaluation s o) o) := by
  have zero : (if (s.oper o).tenancy = .active ∧ (s.oper o).policy ≠ .fixed then
      if (s.spreadRec o).evalCount + 1 < (s.oper o).period then (s.spreadRec o).evalCount + 1 else 0 else (s.spreadRec o).evalCount) = 0 := by
    rw [if_pos (counted_iff.mp counts), if_neg due]
  have count : ownView (setEvalCount s o 0) o = { ownView s o with record := { s.spreadRec o with evalCount := 0 } } := ownView_setSpread ..
  cases decision : decideMove s o with
  | ends e =>
    rw [runEvaluation_of_ends decision, ownView_setSpread]
    exact ⟨rfl, rfl, rfl, rfl, zero.symm, fun _ stands => stands, fun _ => rfl⟩
  | move z h t =>
    obtain ⟨closed, -⟩ := decideMove_opens decision
    have none {p : Proposal} {P : Prop} (stands : (ownView s o).record.proposal = some p) : P := nomatch closed.symm.trans stands
    have record : (setEvalCount s o 0).spreadRec o = { s.spreadRec o with evalCount := 0 } := State.setSpread_spreadRec s o _
    rw [runEvaluation_of_move decision]
    split
    · next auto =>
      rw [setOutcome, ownView_setSpread, ownView_workingWrite, count]
      have moved : (workingWrite (setEvalCount s o 0) z o (some t)).spreadRec o = { s.spreadRec o with evalCount := 0 } := record
      rw [moved]
      refine ⟨rfl, rfl, rfl, rfl, zero.symm, fun _ stands => none stands, fun still => absurd ?_ still⟩
      exact ⟨(counted_iff.mp counts).1, auto, Nat.not_lt.mp due⟩
    · rw [openProposal, ownView_file, ownView_setSpread, count, record]
      exact ⟨rfl, rfl, rfl, rfl, zero.symm, fun _ stands => none stands, fun _ => rfl⟩

theorem countEvaluation_evaluated (s : State) (o : OpNo) : Evaluated (ownView s o) (ownView (countEvaluation s o) o) := by
  unfold countEvaluation
  split
  · next counts =>
    split
    · next early =>
      rw [setEvalCount, ownView_setSpread]
      refine ⟨rfl, rfl, rfl, rfl, ?_, fun _ stands => stands, fun _ => rfl⟩
      exact ((if_pos (counted_iff.mp counts)).trans (if_pos early)).symm
    · next due => exact runEvaluation_evaluated counts due
  · next idle =>
    exact ⟨rfl, rfl, rfl, rfl, (if_neg fun counts => idle (counted_iff.mpr counts)).symm, fun _ stands => stands, fun _ => rfl⟩

/-! ## The whole reaction -/

/-- The reaction takes each operator's part through its three parts (R104). -/
theorem spreadReaction_view (s : State) (o : OpNo) : Evaluated (ownView s o).decremented.counted (ownView (spreadReaction s) o) := by
  have proposals : ownView (allOps.foldl countProposal (countSettles s)) o = (ownView (countSettles s) o).counted :=
    foldl_relates (read := ownView) (R := fun v w => w = v.counted) (fun u a b other => ownView_countProposal_ne u other)
      (fun u a => ownView_countProposal u a) (List.nodup_finRange 4) (List.mem_finRange o) _
  have evaluations := foldl_relates (read := ownView) (R := Evaluated) (fun u a b other => ownView_countEvaluation_ne u other)
    (fun u a => countEvaluation_evaluated u a) (List.nodup_finRange 4) (List.mem_finRange o) (allOps.foldl countProposal (countSettles s))
  rw [proposals, ownView_countSettles] at evaluations
  exact evaluations

end Sys2Proof.Machine
end

section
/-! The map latch and the Spread Engine's reaction at one superframe start, in either order (R15, R104, R105). -/

namespace Sys2Proof.Machine

open Sys2Proof

/-! ## What the Spread Engine's reaction leaves of the map -/

section Reads

variable {γ : Type} (g : State → γ) (write : ∀ (x : State) (z : ZoneNo) (o : OpNo) (b : Option SectorNo), g (workingWrite x z o b) = g x)
  (spread : ∀ (x : State) (v : Vector SpreadRec 4), g { x with spread := v } = g x)
  (settle : ∀ (x : State) (v : Vector (Vector Nat 4) 64), g { x with settle := v } = g x)
  (notices : ∀ (x : State) (v : Vector NoticeQueue 5), g { x with notices := v } = g x)

include write spread settle notices

/-- The reaction writes the map in working-map writes alone (R13). -/
theorem spreadReaction_reads (s : State) : g (spreadReaction s) = g s := by
  have proposal (u : State) (o : OpNo) : g (countProposal u o) = g u := by
    unfold countProposal
    split
    · rfl
    · next p stands =>
      split
      · exact spread ..
      · cases rule : (u.oper o).silence with
        | apply =>
          rw [expireProposal_of_apply p rule]
          exact (file_keeps g notices ..).trans ((spread ..).trans (write ..))
        | drop =>
          rw [expireProposal_of_drop p rule]
          exact (file_keeps g notices ..).trans ((spread ..).trans (settle ..))
  have evaluation (u : State) (o : OpNo) : g (countEvaluation u o) = g u := by
    unfold countEvaluation
    split
    · split
      · exact spread ..
      · cases decision : decideMove u o with
        | ends e =>
          rw [runEvaluation_of_ends decision]
          exact spread ..
        | move z h t =>
          rw [runEvaluation_of_move decision]
          split
          · exact (spread ..).trans ((write ..).trans (spread ..))
          · exact (file_keeps g notices ..).trans ((spread ..).trans (spread ..))
    · rfl
  exact (foldl_keeps g _ evaluation ..).trans ((foldl_keeps g _ proposal ..).trans (settle ..))

end Reads

/-- The fields of a zone record that neither a latch nor a working-map write reaches. -/
def ZoneRec.fixed (r : ZoneRec) : ZoneRec := { r with working := #v[none, none, none, none], active := #v[none, none, none, none] }

theorem workingWrite_active (s : State) (z : ZoneNo) (o : OpNo) (b : Option SectorNo) (y : ZoneNo) (q : OpNo) :
    (workingWrite s z o b).active y q = s.active y q := by
  by_cases here : y = z
  · subst here
    exact (congrArg (fun r : ZoneRec => r.active[q]) (workingWrite_zone s y o b)).trans rfl
  · exact congrArg (fun r : ZoneRec => r.active[q]) ((workingWrite_working s z o b).2.2.2 y here)

theorem workingWrite_fixed (s : State) (z : ZoneNo) (o : OpNo) (b : Option SectorNo) (y : ZoneNo) :
    ((workingWrite s z o b).zone y).fixed = (s.zone y).fixed := by
  by_cases here : y = z
  · subst here
    exact (congrArg ZoneRec.fixed (workingWrite_zone s y o b)).trans rfl
  · exact congrArg ZoneRec.fixed ((workingWrite_working s z o b).2.2.2 y here)

theorem spreadReaction_active (s : State) (z : ZoneNo) (o : OpNo) : (spreadReaction s).active z o = s.active z o :=
  spreadReaction_reads (State.active · z o) (fun x y q b => workingWrite_active x y q b z o) (fun _ _ => rfl) (fun _ _ => rfl) (fun _ _ => rfl) s

theorem spreadReaction_fixed (s : State) (z : ZoneNo) : ((spreadReaction s).zone z).fixed = (s.zone z).fixed :=
  spreadReaction_reads (fun x => (x.zone z).fixed) (fun x y q b => workingWrite_fixed x y q b z) (fun _ _ => rfl) (fun _ _ => rfl)
    (fun _ _ => rfl) s

/-- An operator whose part moves no lane at this superframe start. -/
def OwnView.still (v : OwnView) : Prop := ¬ v.mayMove ∧ ¬ (v.oper.silence = .apply ∧ ∃ p : Proposal, v.record.proposal = some p ∧ p.remaining ≤ 1)

theorem countProposal_map {s : State} {o : OpNo} (still : (ownView s o).still) : (countProposal s o).map = s.map := by
  unfold countProposal
  split
  · rfl
  · next p stands =>
    split
    · rfl
    · next last =>
      cases rule : (s.oper o).silence with
      | apply => exact absurd ⟨rule, p, stands, Nat.not_lt.mp last⟩ still.2
      | drop =>
        rw [expireProposal_of_drop p rule]
        exact file_keeps State.map (fun _ _ => rfl) ..

theorem countEvaluation_map {s : State} {o : OpNo} (still : ¬ (ownView s o).mayMove) : (countEvaluation s o).map = s.map := by
  unfold countEvaluation
  split
  · next counts =>
    split
    · rfl
    · next due =>
      cases decision : decideMove s o with
      | ends e =>
        rw [runEvaluation_of_ends decision]
        rfl
      | move z h t =>
        rw [runEvaluation_of_move decision]
        split
        · next auto => exact absurd ⟨(counted_iff.mp counts).1, auto, Nat.not_lt.mp due⟩ still
        · exact file_keeps State.map (fun _ _ => rfl) ..
  · rfl

/-- Where no operator's part moves a lane, the reaction leaves the map and the flag. -/
theorem spreadReaction_map {s : State} (still : ∀ o, (ownView s o).still) : (spreadReaction s).map = s.map := by
  have settles (o : OpNo) : (ownView (countSettles s) o).still := by
    rw [ownView_countSettles]
    exact still o
  have proposals : (allOps.foldl countProposal (countSettles s)).map = (countSettles s).map :=
    foldl_keeps_of_entries (read := ownView) State.map (C := OwnView.still) (fun u a b other => ownView_countProposal_ne u other)
      (fun u a calm => countProposal_map calm) (List.nodup_finRange 4) fun o _ => settles o
  have after (o : OpNo) : ¬ (ownView (allOps.foldl countProposal (countSettles s)) o).mayMove := by
    have view : ownView (allOps.foldl countProposal (countSettles s)) o = (ownView (countSettles s) o).counted :=
      foldl_relates (read := ownView) (R := fun v w => w = v.counted) (fun u a b other => ownView_countProposal_ne u other)
        (fun u a => ownView_countProposal u a) (List.nodup_finRange 4) (List.mem_finRange o) _
    obtain ⟨oper, -, count⟩ := counted_rest (ownView (countSettles s) o)
    rw [view, OwnView.mayMove, oper, count]
    exact (settles o).1
  have evaluations : (spreadReaction s).map = (allOps.foldl countProposal (countSettles s)).map :=
    foldl_keeps_of_entries (read := ownView) State.map (C := fun v => ¬ v.mayMove) (fun u a b other => ownView_countEvaluation_ne u other)
      (fun u a calm => countEvaluation_map calm) (List.nodup_finRange 4) fun o _ => after o
  exact evaluations.trans (proposals.trans (countSettles_keeps State.map (fun _ _ => rfl) s))

/-! ## One lane in the reaction -/

section Lane

variable (s : State) (z : ZoneNo) (o : OpNo)

/-- The proposal of the lane's operator is on zone z and its last count comes. -/
def expiresAt : Prop := ∃ p : Proposal, (s.spreadRec o).proposal = some p ∧ p.zone = z ∧ p.remaining ≤ 1

/-- The settle counter of a lane after the reaction (R104, R105, R112). -/
theorem spreadReaction_settleCount :
    (expiresAt s z o ∧ (s.oper o).silence = .drop → (spreadReaction s).settleCount z o = s.settleTime) ∧
      (¬ (expiresAt s z o ∧ (s.oper o).silence = .drop) → (spreadReaction s).settleCount z o = s.settleCount z o - 1) := by
  have settle : (spreadReaction s).settleCount z o = (ownView s o).decremented.counted.settle z :=
    congrFun (spreadReaction_view s o).settle z
  classical
  have value := counted_settle (ownView s o).decremented z
  exact ⟨fun drops => settle.trans (value.trans (if_pos drops)), fun spared => settle.trans (value.trans (if_neg spared))⟩

/-- A lane that neither an expiry nor an evaluation moves keeps its working binding. -/
theorem spreadReaction_working {s : State} {z : ZoneNo} {o : OpNo} (spared : ¬ (expiresAt s z o ∧ (s.oper o).silence = .apply))
    (calm : ¬ (ownView s o).mayMove) : (spreadReaction s).working z o = s.working z o := by
  have view := spreadReaction_view s o
  obtain ⟨oper, -, count⟩ := counted_rest (ownView s o).decremented
  have still : ¬ (ownView s o).decremented.counted.mayMove := by
    rw [OwnView.mayMove, oper, count]
    exact calm
  exact (congrFun (view.working still) z).trans (counted_working (v := (ownView s o).decremented) spared)

end Lane

/-! ## Two reactions among the others -/

/-- What only two reactions write passes through the first turn and then through the second. -/
theorem two_turns {β : Type} (g : State → β) {x y : Reaction} {order : List Reaction}
    (ahead_of : (effectiveOrder order).idxOf x < (effectiveOrder order).idxOf y)
    (others : ∀ (u : State) (r : Reaction), r ≠ x → r ≠ y → g (react u r) = g u) (s : State) :
    ∃ m n : State, g m = g (advanceCounts s) ∧ g n = g (react m x) ∧ g (cycleStart order s) = g (react n y) := by
  obtain ⟨ahead, behind, turn⟩ := exists_turn order y
  have early : x ∈ ahead := turn.mem_ahead_iff.mpr ahead_of
  obtain ⟨first, second, parts⟩ := List.append_of_mem early
  have once : (first ++ x :: second).Nodup := by
    have whole := effectiveOrder_nodup order
    rw [turn.order_eq, parts] at whole
    exact (List.nodup_append.mp whole).1
  obtain ⟨fresh, -⟩ := List.nodup_cons.mp (List.nodup_middle.mp once)
  rw [List.mem_append, not_or] at fresh
  have absent := turn.ahead
  rw [parts, List.mem_append, List.mem_cons, not_or, not_or] at absent
  obtain ⟨notFirst, -, notSecond⟩ := absent
  have keeps {l : List Reaction} (notX : x ∉ l) (notY : y ∉ l) (u : State) : g (l.foldl react u) = g u :=
    foldl_react_keeps g (fun v r named => others v r (ne_of_notMem notX named) (ne_of_notMem notY named)) u
  refine ⟨first.foldl react (advanceCounts s), ahead.foldl react (advanceCounts s), keeps fresh.1 notFirst _, ?_, ?_⟩
  · rw [parts, List.foldl_append, List.foldl_cons]
    exact keeps fresh.2 notSecond _
  · rw [turn.cycleStart_eq]
    exact keeps (turn.not_behind early) turn.behind _

/-- Two reactions stand in one order or in the other. -/
theorem idxOf_lt_of_not_lt {order : List Reaction} {x y : Reaction} (other : x ≠ y)
    (h : ¬ (effectiveOrder order).idxOf x < (effectiveOrder order).idxOf y) :
    (effectiveOrder order).idxOf y < (effectiveOrder order).idxOf x := by
  refine lt_of_le_of_ne (Nat.not_lt.mp h) fun same => other ?_
  exact ((List.idxOf_inj (mem_effectiveOrder order y)).mp same).symm

/-- The map, the settle counters, the Spread Engine's states and the fields that no reaction writes. -/
structure SameMap (t u : State) : Prop where
  zones : t.zones = u.zones
  latchPending : t.latchPending = u.latchPending
  settle : t.settle = u.settle
  spread : t.spread = u.spread
  standing : t.standingFields = u.standingFields

def State.mapping (s : State) : Vector ZoneRec 64 × Bool × Vector (Vector Nat 4) 64 × Vector SpreadRec 4 × Standing :=
  (s.zones, s.latchPending, s.settle, s.spread, s.standingFields)

theorem SameMap.of_eq {t u : State} (h : t.mapping = u.mapping) : SameMap t u := by
  simp only [State.mapping, Prod.mk.injEq] at h
  obtain ⟨zones, latchPending, settle, spread, standing⟩ := h
  exact ⟨zones, latchPending, settle, spread, standing⟩

theorem react_mapping (s : State) {r : Reaction} (latch : r ≠ .latch) (spread : r ≠ .spread) : (react s r).mapping = s.mapping := by
  refine react_reads State.mapping (fun _ _ => ?_) s
  cases r with
  | latch => exact absurd rfl latch
  | spread => exact absurd rfl spread
  | _ => rfl

section SameMap

variable {t u : State}

theorem SameMap.zone (h : SameMap t u) (z : ZoneNo) : t.zone z = u.zone z := by simp only [State.zone, h.zones]
theorem SameMap.active (h : SameMap t u) (z : ZoneNo) (o : OpNo) : t.active z o = u.active z o := congrArg (fun r : ZoneRec => r.active[o]) (h.zone z)
theorem SameMap.working (h : SameMap t u) (z : ZoneNo) (o : OpNo) : t.working z o = u.working z o :=
  congrArg (fun r : ZoneRec => r.working[o]) (h.zone z)
theorem SameMap.oper (h : SameMap t u) (o : OpNo) : t.oper o = u.oper o := congrArg (fun f : Standing => f.ops[o]) h.standing
theorem SameMap.spreadRec (h : SameMap t u) (o : OpNo) : t.spreadRec o = u.spreadRec o := by simp only [State.spreadRec, h.spread]
theorem SameMap.settleCount (h : SameMap t u) (z : ZoneNo) (o : OpNo) : t.settleCount z o = u.settleCount z o := by
  simp only [State.settleCount, h.settle]
theorem SameMap.settleTime (h : SameMap t u) : t.settleTime = u.settleTime := congrArg Standing.settleTime h.standing
theorem SameMap.cycle (h : SameMap t u) : t.cycle = u.cycle := congrArg Standing.cycle h.standing

theorem SameMap.view (h : SameMap t u) (o : OpNo) : ownView t o = ownView u o := by
  simp only [ownView, h.oper, h.spreadRec, h.settleTime, h.settleCount, h.working]

end SameMap

/-- The latch comes first, and then the Spread Engine's reaction. -/
theorem latch_then_spread {order : List Reaction} (first : (effectiveOrder order).idxOf .latch < (effectiveOrder order).idxOf .spread)
    (s : State) : ∃ m n : State, SameMap m (advanceCounts s) ∧ SameMap n (latchReaction m) ∧ SameMap (cycleStart order s) (react n .spread) := by
  obtain ⟨m, n, start, middle, done⟩ := two_turns State.mapping first (fun u r latch spread => react_mapping u latch spread) s
  exact ⟨m, n, .of_eq start, .of_eq middle, .of_eq done⟩

/-- The Spread Engine's reaction comes first, and then the latch. -/
theorem spread_then_latch {order : List Reaction} (last : ¬ (effectiveOrder order).idxOf .latch < (effectiveOrder order).idxOf .spread)
    (s : State) : ∃ m n : State, SameMap m (advanceCounts s) ∧ SameMap n (react m .spread) ∧ SameMap (cycleStart order s) (latchReaction n) := by
  obtain ⟨m, n, start, middle, done⟩ := two_turns State.mapping (idxOf_lt_of_not_lt (by decide) last)
    (fun u r spread latch => react_mapping u latch spread) s
  exact ⟨m, n, .of_eq start, .of_eq middle, .of_eq done⟩

/-! ## One lane in the latch -/

section Latch

variable {s : State}

theorem withMark_zone (s : State) (b : Bool) (z : ZoneNo) : ({ s with mark := b } : State).zone z = s.zone z := rfl
theorem withMark_settleCount (s : State) (b : Bool) (z : ZoneNo) (o : OpNo) : ({ s with mark := b } : State).settleCount z o = s.settleCount z o := rfl

/-- A latch that waits copies each working binding (R15). -/
theorem latchReaction_zone (pending : s.latchPending = true) (z : ZoneNo) : (latchReaction s).zone z = (s.zone z).latched := by
  rw [latchReaction_of_pending pending, withMark_zone]
  exact takeLatch_zone s z

theorem latchReaction_latchPending (s : State) : (latchReaction s).latchPending = false := by
  cases pending : s.latchPending with
  | true =>
    rw [latchReaction_of_pending pending]
    exact takeLatch_latchPending s
  | false =>
    rw [latchReaction_of_clear pending]
    exact pending

theorem latchReaction_working (s : State) (z : ZoneNo) (o : OpNo) : (latchReaction s).working z o = s.working z o := by
  cases pending : s.latchPending with
  | true => exact (congrArg (fun r : ZoneRec => r.working[o]) (latchReaction_zone pending z)).trans rfl
  | false => rw [latchReaction_of_clear pending]

theorem latchReaction_active_of_pending (pending : s.latchPending = true) (z : ZoneNo) (o : OpNo) :
    (latchReaction s).active z o = s.working z o := congrArg (fun r : ZoneRec => r.active[o]) (latchReaction_zone pending z)

theorem latchReaction_fixed (s : State) (z : ZoneNo) : ((latchReaction s).zone z).fixed = (s.zone z).fixed := by
  cases pending : s.latchPending with
  | true => exact (congrArg ZoneRec.fixed (latchReaction_zone pending z)).trans rfl
  | false => rw [latchReaction_of_clear pending]

theorem latchReaction_settleCount_of_pending (pending : s.latchPending = true) (z : ZoneNo) (o : OpNo) :
    (latchReaction s).settleCount z o =
      if s.working z o ≠ s.active z o ∧ (s.oper o).tenancy ≠ .absent then s.settleTime else s.settleCount z o := by
  rw [latchReaction_of_pending pending, withMark_settleCount]
  exact takeLatch_settleCount s z o

/-- The latch loads a lane's counter or leaves it, and leaves it where the lane does not change (R105). -/
theorem latchReaction_settleCount_cases (s : State) (z : ZoneNo) (o : OpNo) :
    (latchReaction s).settleCount z o = s.settleCount z o ∨
      (latchReaction s).settleCount z o = s.settleTime ∧ s.working z o ≠ s.active z o ∧ (s.oper o).tenancy ≠ .absent := by
  cases pending : s.latchPending with
  | true =>
    rw [latchReaction_settleCount_of_pending pending]
    split
    · next changed => exact .inr ⟨rfl, changed⟩
    · exact .inl rfl
  | false => exact .inl (by rw [latchReaction_of_clear pending])

end Latch

end Sys2Proof.Machine
end

section
/-! The counts of a superframe start (R56, R71, R104 to R106, R112): O33. -/

namespace Sys2Proof.Machine

open Sys2Proof

/-! ## The dwells and the retry timers -/

theorem dwellCount_eq (r : LinkRec) : r.dwellCount =
    if r.state = .lost then
      if r.dwell < 63 then { r with dwell := r.dwell + 1 }
      else { state := .search, goodRun := 0, history := [], missed := 0, dwell := 0, loss := r.loss }
    else r := by
  unfold LinkRec.dwellCount
  by_cases lost : r.state = .lost
  · rw [if_pos lost, if_pos lost]
    by_cases early : r.dwell < 63
    · rw [if_pos early, if_pos (show r.dwell + 1 < Config.dwellCycles from Nat.succ_lt_succ early)]
    · rw [if_neg early, if_neg (show ¬ r.dwell + 1 < Config.dwellCycles from fun h => early (Nat.lt_of_succ_lt_succ h))]
      rfl
  · rw [if_neg lost, if_neg lost]

theorem countDwells_link (s : State) (z : ZoneNo) : (countDwells s).link z = (s.link z).dwellCount := by
  have record : (retable (fun _ r => r.dwellCount) s.links)[z] = (s.link z).dwellCount := retable_getElem ..
  have links : (countDwells s).links = retable (fun _ r => r.dwellCount) s.links := rfl
  rw [State.link, links, record]

/-- Each dwell is counted once, at every cycle start (R56). -/
theorem cycleStart_link (order : List Reaction) (s : State) (z : ZoneNo) : (cycleStart order s).link z = (s.link z).dwellCount := by
  obtain ⟨ahead, behind, turn⟩ := exists_turn order .dwell
  obtain ⟨before, after⟩ := turn.reads (State.link · z) (fun u x other => congrArg (fun v : Vector LinkRec 64 => v[z]) (react_links other)) s
  have start : (advanceCounts s).link z = s.link z := advanceCounts_keeps (State.link · z) (fun _ _ => rfl) (fun _ _ => rfl) (fun _ _ => rfl) s
  rw [after, show react (ahead.foldl react (advanceCounts s)) .dwell = countDwells _ from rfl, countDwells_link, before, start]

/-- A record after its retry timer is counted (R71). -/
def ProtRec.retried (r : ProtRec) : ProtRec :=
  match r.state with
  | .recovering left => { r with state := if 1 < left then .recovering (left - 1) else .idle }
  | _ => r

theorem countRetry_protRec (s : State) (z : ZoneNo) (c d : ClassNo) :
    (countRetry s z c).protRec z d = if d = c then (s.protRec z d).retried else s.protRec z d := by
  have told (u : State) (v : Nat) : (fileAlarm u z c .alarmCleared v).protRec z c = u.protRec z c :=
    fileAlarm_keeps (State.protRec · z c) (fun _ _ => rfl) ..
  by_cases same : d = c
  · subst same
    rw [if_pos rfl, countRetry, ProtRec.retried]
    cases state : (s.protRec z d).state with
    | recovering left =>
      dsimp only
      split
      · exact State.setProt_protRec ..
      · exact (told ..).trans (State.setProt_protRec ..)
    | _ => rfl
  · rw [if_neg same]
    exact countRetry_protRec_ne s (.inr same)

theorem countZoneRetries_protRec (s : State) (z y : ZoneNo) (c : ClassNo) : (countZoneRetries s z).protRec y c =
    if y = z then (s.protRec y c).retried else s.protRec y c := by
  have whole : (countZoneRetries s z).protRec y c = (allClasses.foldl (fun t c => countRetry t z c) s).protRec y c :=
    State.congr_bare (State.protRec · y c) (takeOutputs_bare ..) (fun _ => rfl)
  rw [whole]
  by_cases here : y = z
  · subst here
    rw [if_pos rfl]
    exact (foldl_rewrites (fun t d => t.protRec y d) (fun _ => ProtRec.retried) (fun t d e => countRetry_protRec t y d e)
      (List.nodup_finRange 6) s c).trans (if_pos (List.mem_finRange c))
  · rw [if_neg here]
    exact foldl_keeps (State.protRec · y c) _ (fun u d => countRetry_protRec_ne u (.inl here)) allClasses s

theorem protectReaction_protRec (s : State) (z : ZoneNo) (c : ClassNo) : (protectReaction s).protRec z c = (s.protRec z c).retried :=
  (foldl_rewrites (fun t y => t.protRec y c) (fun _ => ProtRec.retried) (fun t y x => countZoneRetries_protRec t y x c)
    (List.nodup_finRange 64) s z).trans (if_pos (List.mem_finRange z))

section CycleStart

variable (order : List Reaction) (s : State)

theorem cycleStart_protRec (first : (cycleStart order s).cycle = 0) (z : ZoneNo) (c : ClassNo) :
    (cycleStart order s).protRec z c = (s.protRec z c).retried := by
  obtain ⟨ahead, behind, turn⟩ := exists_turn order .protect
  obtain ⟨before, after⟩ := turn.reads (State.protRec · z c)
    (fun u x other => congrArg (fun v : Vector (Vector ProtRec 6) 64 => v[z][c]) (react_prot other)) s
  have start : (advanceCounts s).protRec z c = s.protRec z c :=
    advanceCounts_keeps (State.protRec · z c) (fun _ _ => rfl) (fun _ _ => rfl) (fun _ _ => rfl) s
  have zero : (ahead.foldl react (advanceCounts s)).cycle = 0 := (ahead_cycle ahead s).trans ((cycleStart_cycle order s).symm.trans first)
  rw [after, react_protect, if_pos zero, protectReaction_protRec, before, start]

theorem cycleStart_prot_of_later (later : (cycleStart order s).cycle ≠ 0) : (cycleStart order s).prot = s.prot := by
  obtain ⟨ahead, behind, turn⟩ := exists_turn order .protect
  obtain ⟨before, after⟩ := turn.reads State.prot (fun u x other => react_prot other) s
  rw [cycleStart_cycle, ← ahead_cycle ahead] at later
  rw [after, react_of_later later (.inr (.inl rfl)), before]
  exact advanceCounts_keeps State.prot (fun _ _ => rfl) (fun _ _ => rfl) (fun _ _ => rfl) s

theorem cycleStart_spread_of_later (later : (cycleStart order s).cycle ≠ 0) : (cycleStart order s).spread = s.spread := by
  obtain ⟨ahead, behind, turn⟩ := exists_turn order .spread
  obtain ⟨before, after⟩ := turn.reads State.spread (fun u x other => react_spread other) s
  rw [cycleStart_cycle, ← ahead_cycle ahead] at later
  rw [after, react_of_later later (.inr (.inr rfl)), before]
  exact advanceCounts_keeps State.spread (fun _ _ => rfl) (fun _ _ => rfl) (fun _ _ => rfl) s

/-! ## The Spread Engine's states -/

/-- The spreading state of an operator with its record, which no reaction writes. -/
def State.spreading (s : State) (o : OpNo) : OpRec × SpreadRec := (s.oper o, s.spreadRec o)

theorem react_spreading (u : State) {r : Reaction} (other : r ≠ .spread) (o : OpNo) : (react u r).spreading o = u.spreading o :=
  Prod.ext (congrArg (fun f : Standing => f.ops[o]) (react_standing u r)) (congrArg (fun v : Vector SpreadRec 4 => v[o]) (react_spread other))

theorem advanceCounts_ownView (o : OpNo) : ownView (advanceCounts s) o = ownView s o :=
  advanceCounts_keeps (ownView · o) (fun _ _ => rfl) (fun _ _ => rfl) (fun _ _ => rfl) s

/-- An operator's part at the turn of the Spread Engine has the record that it had. -/
theorem cycleStart_evaluated (first : (cycleStart order s).cycle = 0) (o : OpNo) : ∃ v w : OwnView,
    v.oper = s.oper o ∧ v.record = s.spreadRec o ∧ Evaluated v.decremented.counted w ∧ w.record = (cycleStart order s).spreadRec o := by
  obtain ⟨ahead, behind, turn⟩ := exists_turn order .spread
  obtain ⟨before, after⟩ := turn.reads (State.spreading · o) (fun u x other => react_spreading u other o) s
  have start : (advanceCounts s).spreading o = s.spreading o :=
    advanceCounts_keeps (State.spreading · o) (fun _ _ => rfl) (fun _ _ => rfl) (fun _ _ => rfl) s
  have zero : (ahead.foldl react (advanceCounts s)).cycle = 0 := (ahead_cycle ahead s).trans ((cycleStart_cycle order s).symm.trans first)
  rw [react_spread_eq, if_pos zero] at after
  generalize ahead.foldl react (advanceCounts s) = m at *
  have same := before.trans start
  exact ⟨ownView m o, ownView (spreadReaction m) o, congrArg Prod.fst same, congrArg Prod.snd same, spreadReaction_view m o,
    (congrArg Prod.snd after).symm⟩

/-- The evaluation counter and the open proposal of an operator after a superframe start (R106, R112). -/
theorem cycleStart_spreadRec (first : (cycleStart order s).cycle = 0) (o : OpNo) :
    ((cycleStart order s).spreadRec o).evalCount =
      (if (s.oper o).tenancy = .active ∧ (s.oper o).policy ≠ .fixed then
        if (s.spreadRec o).evalCount + 1 < (s.oper o).period then (s.spreadRec o).evalCount + 1 else 0
      else (s.spreadRec o).evalCount) ∧
    ∀ p : Proposal, (s.spreadRec o).proposal = some p →
      (1 < p.remaining → ((cycleStart order s).spreadRec o).proposal = some { p with remaining := p.remaining - 1 } ∧
        ((cycleStart order s).spreadRec o).lastClosed = (s.spreadRec o).lastClosed) ∧
      (p.remaining ≤ 1 → ((cycleStart order s).spreadRec o).lastClosed = some p.id) := by
  obtain ⟨v, w, oper, record, done, final⟩ := cycleStart_evaluated order s first o
  obtain ⟨oper', -, count'⟩ := counted_rest v.decremented
  rw [← final, ← oper, ← record]
  refine ⟨?_, fun p stands => ⟨fun more => ?_, fun last => ?_⟩⟩
  · rw [done.evalCount, oper', count']
    rfl
  · have counts := counted_of_more (v := v.decremented) stands more
    refine ⟨done.proposal _ (by rw [counts]), done.lastClosed.trans ?_⟩
    rw [counts]
    rfl
  · rw [done.lastClosed, counted_of_last (v := v.decremented) stands last]

/-! ## The settle counters -/

theorem advanceCounts_latchPending : (advanceCounts s).latchPending = s.latchPending :=
  advanceCounts_keeps State.latchPending (fun _ _ => rfl) (fun _ _ => rfl) (fun _ _ => rfl) s

theorem advanceCounts_active (z : ZoneNo) (o : OpNo) : (advanceCounts s).active z o = s.active z o :=
  advanceCounts_keeps (State.active · z o) (fun _ _ => rfl) (fun _ _ => rfl) (fun _ _ => rfl) s

/-- A latch loads the counters of changed lanes and leaves the rest of an operator's part. -/
theorem latchReaction_view (o : OpNo) : ∃ k : ZoneNo → Nat, ownView (latchReaction s) o = { ownView s o with settle := k } ∧
    ∀ z, k z = s.settleCount z o ∨ k z = s.settleTime ∧ s.working z o ≠ s.active z o ∧ (s.oper o).tenancy ≠ .absent := by
  refine ⟨fun z => (latchReaction s).settleCount z o, ?_, fun z => latchReaction_settleCount_cases s z o⟩
  have standing := react_standing s .latch
  have oper : (latchReaction s).oper o = s.oper o := congrArg (fun f : Standing => f.ops[o]) standing
  have time : (latchReaction s).settleTime = s.settleTime := congrArg Standing.settleTime standing
  have spread : (latchReaction s).spreadRec o = s.spreadRec o := congrArg (fun v : Vector SpreadRec 4 => v[o]) (react_spread (r := .latch) (by decide))
  have working : (fun z => (latchReaction s).working z o) = fun z => s.working z o := funext fun z => latchReaction_working s z o
  rw [ownView, oper, time, spread, working]
  rfl

/-- The open proposal drops lane z: it expires on it under DROP (R112). -/
def OwnView.drops (v : OwnView) (z : ZoneNo) : Prop := v.expiresAt z ∧ v.oper.silence = .drop

/-- The counter of one lane after the Spread Engine's reaction, from its operator's part. -/
theorem spreadReaction_settle_of_view {u : State} {o : OpNo} {v : OwnView} (view : ownView u o = v) (z : ZoneNo) :
    (v.drops z → (spreadReaction u).settleCount z o = v.time) ∧ (¬ v.drops z → (spreadReaction u).settleCount z o = v.settle z - 1) := by
  subst view
  exact spreadReaction_settleCount u z o

/-- What one lane's counter holds after a superframe start, in each order of the latch and the Spread Engine. -/
theorem cycleStart_settleCount (first : (cycleStart order s).cycle = 0) (z : ZoneNo) (o : OpNo) :
    (s.working z o = s.active z o ∨ (s.oper o).tenancy = .absent → ¬ expiresAt s z o → ¬ (ownView s o).mayMove →
      (cycleStart order s).settleCount z o = s.settleCount z o - 1) ∧
    (expiresAt s z o → (s.oper o).silence = .drop → (cycleStart order s).settleCount z o = s.settleTime) ∧
    ((cycleStart order s).settleCount z o = s.settleCount z o - 1 ∨ (cycleStart order s).settleCount z o = s.settleTime ∨
      (cycleStart order s).settleCount z o = s.settleTime - 1) := by
  rw [cycleStart_cycle] at first
  have start := advanceCounts_ownView s o
  by_cases earlier : (effectiveOrder order).idxOf .latch < (effectiveOrder order).idxOf .spread
  · obtain ⟨m, n, before, between, done⟩ := latch_then_spread earlier s
    have zero : n.cycle = 0 :=
      between.cycle.trans ((congrArg Standing.cycle (react_standing m .latch)).trans (before.cycle.trans first))
    rw [react_spread_eq, if_pos zero] at done
    have view := (before.view o).trans start
    have active := (before.active z o).trans (advanceCounts_active s z o)
    obtain ⟨k, middle, loads⟩ := latchReaction_view m o
    rw [view, ← between.view o] at middle
    have load : k z = (ownView m o).settle z ∨ k z = (ownView m o).time ∧ (ownView m o).working z ≠ m.active z o ∧
      (ownView m o).oper.tenancy ≠ .absent := loads z
    rw [view, active] at load
    obtain ⟨dropped, counted⟩ := spreadReaction_settle_of_view middle z
    rw [← done.settleCount] at dropped counted
    refine ⟨fun same calm _ => ?_, fun last rule => dropped ⟨last, rule⟩, ?_⟩
    · have kept : k z = s.settleCount z o := load.resolve_right fun ⟨_, changed, stays⟩ => same.elim changed stays
      rw [counted fun drops => calm drops.1]
      exact congrArg (· - 1) kept
    · by_cases drops : (ownView s o).drops z
      · exact .inr (.inl (dropped drops))
      · rcases load with kept | ⟨loaded, -⟩
        · exact .inl ((counted drops).trans (congrArg (· - 1) kept))
        · exact .inr (.inr ((counted drops).trans (congrArg (· - 1) loaded)))
  · obtain ⟨m, n, before, between, done⟩ := spread_then_latch earlier s
    have zero : m.cycle = 0 := before.cycle.trans first
    have standing := between.standing.trans (react_standing m .spread)
    rw [react_spread_eq, if_pos zero] at between
    have view := (before.view o).trans start
    have active : n.active z o = s.active z o :=
      (between.active z o).trans ((spreadReaction_active m z o).trans ((before.active z o).trans (advanceCounts_active s z o)))
    have oper : n.oper o = s.oper o := (congrArg (fun f : Standing => f.ops[o]) standing).trans (congrArg OwnView.oper view)
    have time : n.settleTime = s.settleTime := (congrArg Standing.settleTime standing).trans (congrArg OwnView.time view)
    obtain ⟨dropped, counted⟩ := spreadReaction_settle_of_view view z
    rw [← between.settleCount] at dropped counted
    have load := latchReaction_settleCount_cases n z o
    rw [← done.settleCount, oper, time, active] at load
    refine ⟨fun same calm still => ?_, fun last rule => ?_, ?_⟩
    · have spared : ¬ ((ownView m o).expiresAt z ∧ (ownView m o).oper.silence = .apply) := by
        rw [view]
        exact fun moved => calm moved.1
      have working : n.working z o = s.working z o :=
        (between.working z o).trans ((spreadReaction_working spared (view ▸ still)).trans (congrFun (congrArg OwnView.working view) z))
      rw [working] at load
      exact (load.resolve_right fun ⟨_, changed, stays⟩ => same.elim changed stays).trans (counted fun drops => calm drops.1)
    · rcases load with kept | ⟨loaded, -⟩
      · exact kept.trans (dropped ⟨last, rule⟩)
      · exact loaded
    · rcases load with kept | ⟨loaded, -⟩
      · by_cases drops : (ownView s o).drops z
        · exact .inr (.inl (kept.trans (dropped drops)))
        · exact .inl (kept.trans (counted drops))
      · exact .inr (.inl loaded)

end CycleStart

/-- Settles O33. -/
theorem cycleStartCountsDown : Obligations.CycleStartCountsDown := by
  intro s order runs counts expires mayMove
  have taken : exec (.cycleStart order) s = .next (endEvent s (cycleStart order s)) := next_congr (cycleBoundary_counts runs counts order)
  have links (z : ZoneNo) := (cycleStart_link order s z).trans (dwellCount_eq (s.link z))
  have protLater := cycleStart_prot_of_later order s
  have spreadLater := cycleStart_spread_of_later order s
  have settleLater := cycleStart_quiet (s := s) order State.settle (fun u => react_settle (by decide) (by decide)) fun u =>
    react_settle (by decide) (by decide)
  have advanced := advanceCounts_keeps State.settle (fun _ _ => rfl) (fun _ _ => rfl) (fun _ _ => rfl) s
  have records := cycleStart_protRec order s
  have spreads := cycleStart_spreadRec order s
  have settles := cycleStart_settleCount order s
  generalize cycleStart order s = c at *
  obtain ⟨t, ended⟩ : ∃ t, t = endEvent s c := ⟨_, rfl⟩
  rw [← ended] at taken
  have same : t.bare = c.bare := by rw [ended, endEvent_bare]
  have read {β : Type} (g : State → β) (hg : ∀ x : State, g x.bare = g x) : g t = g c := State.congr_bare g same hg
  have cycle : t.cycle = c.cycle := read State.cycle fun _ => rfl
  have spread (o : OpNo) : t.spreadRec o = c.spreadRec o := read (State.spreadRec · o) fun _ => rfl
  have settle (z : ZoneNo) (o : OpNo) : t.settleCount z o = c.settleCount z o := read (State.settleCount · z o) fun _ => rfl
  refine ⟨t, taken, fun z => (read (State.link · z) fun _ => rfl).trans (links z), fun later => ?_, fun first => ⟨fun z p => ?_, fun o => ?_, fun z o => ?_⟩⟩
  · rw [cycle] at later
    exact ⟨(read State.prot fun _ => rfl).trans (protLater later), (read State.spread fun _ => rfl).trans (spreadLater later),
      fun clear => (read State.settle fun _ => rfl).trans ((settleLater clear later).trans advanced)⟩
  · have record : t.protRec z p = c.protRec z p := read (State.protRec · z p) fun _ => rfl
    refine record.trans ((records (cycle ▸ first) z p).trans ?_)
    generalize s.protRec z p = r
    obtain ⟨raw, state, latched⟩ := r
    cases state <;> rfl
  · rw [spread]
    exact spreads (cycle ▸ first) o
  · rw [settle]
    exact settles (cycle ▸ first) z o

end Sys2Proof.Machine
end

section
/-! A map latch that waits, at a cycle start (R15, R17, R105): O34. -/

namespace Sys2Proof.Machine

open Sys2Proof

section Latch

variable {order : List Reaction} {s : State}

/-! ## The zone records -/

theorem ZoneRec.eq_of_fixed {r q : ZoneRec} (same : r.fixed = q.fixed) : r = { q with working := r.working, active := r.active } := by
  cases r
  cases q
  simp only [ZoneRec.fixed, ZoneRec.mk.injEq] at same ⊢
  obtain ⟨provisioned, pinned, budget, neighbours, -, -⟩ := same
  exact ⟨provisioned, pinned, budget, neighbours, trivial, trivial⟩

theorem react_fixed (u : State) (r : Reaction) (z : ZoneNo) : ((react u r).zone z).fixed = (u.zone z).fixed := by
  by_cases latch : r = .latch
  · subst latch
    exact latchReaction_fixed u z
  · by_cases spread : r = .spread
    · subst spread
      rw [react_spread_eq]
      split
      · exact spreadReaction_fixed u z
      · rfl
    · exact congrArg (fun m : Vector ZoneRec 64 × Bool => m.1[z].fixed) (react_map (s := u) spread latch)

theorem cycleStart_fixed (z : ZoneNo) : ((cycleStart order s).zone z).fixed = (s.zone z).fixed :=
  (foldl_react_keeps (fun u => (u.zone z).fixed) (fun u r _ => react_fixed u r z) _).trans
    (advanceCounts_keeps (fun u => (u.zone z).fixed) (fun _ _ => rfl) (fun _ _ => rfl) (fun _ _ => rfl) s)

/-- Only the latch writes the active map (R13). -/
theorem react_active (u : State) {r : Reaction} (other : r ≠ .latch) (z : ZoneNo) (o : OpNo) : (react u r).active z o = u.active z o := by
  by_cases spread : r = .spread
  · subst spread
    rw [react_spread_eq]
    split
    · exact spreadReaction_active u z o
    · rfl
  · exact congrArg (fun m : Vector ZoneRec 64 × Bool => m.1[z].active[o]) (react_map (s := u) spread other)

/-- A zone whose active map changes is queued (R16). -/
theorem cycleStart_queued_of_active (pending : s.latchPending = true) {z : ZoneNo} {o : OpNo}
    (changed : (cycleStart order s).active z o ≠ s.active z o) : z ∈ (cycleStart order s).realloc := by
  obtain ⟨ahead, behind, turn⟩ := exists_turn order .latch
  obtain ⟨before, after⟩ := turn.reads (State.active · z o) (fun u x other => react_active u other z o) s
  have held := turn.pending pending
  have whole := turn.cycleStart_eq s
  generalize ahead.foldl react (advanceCounts s) = m at *
  have copied : (react m .latch).active z o = m.working z o := latchReaction_active_of_pending held z o
  rw [after, copied, ← advanceCounts_active s, ← before] at changed
  rw [whole]
  refine foldl_react_kept behind ?_
  show z ∈ (latchReaction m).realloc
  rw [latchReaction_of_pending held]
  exact takeLatch_queued ⟨o, changed⟩

/-! ## In a cycle other than 0 -/

theorem SameMap.trans {t u v : State} (h : SameMap t u) (k : SameMap u v) : SameMap t v :=
  ⟨h.zones.trans k.zones, h.latchPending.trans k.latchPending, h.settle.trans k.settle, h.spread.trans k.spread, h.standing.trans k.standing⟩

/-- There the latch alone reaches the map. -/
theorem latch_alone (later : (cycleStart order s).cycle ≠ 0) :
    ∃ m : State, SameMap m (advanceCounts s) ∧ SameMap (cycleStart order s) (latchReaction m) := by
  rw [cycleStart_cycle] at later
  by_cases earlier : (effectiveOrder order).idxOf .latch < (effectiveOrder order).idxOf .spread
  · obtain ⟨m, n, before, between, done⟩ := latch_then_spread earlier s
    have cycle : n.cycle = (advanceCounts s).cycle :=
      between.cycle.trans ((congrArg Standing.cycle (react_standing m .latch)).trans before.cycle)
    rw [react_of_later (cycle ▸ later) (.inr (.inr rfl))] at done
    exact ⟨m, before, done.trans between⟩
  · obtain ⟨m, n, before, between, done⟩ := spread_then_latch earlier s
    rw [react_of_later (before.cycle ▸ later) (.inr (.inr rfl))] at between
    exact ⟨n, between.trans before, done⟩

theorem advanceCounts_map (s : State) : (advanceCounts s).map = s.map :=
  advanceCounts_keeps State.map (fun _ _ => rfl) (fun _ _ => rfl) (fun _ _ => rfl) s

theorem advanceCounts_zone (s : State) (z : ZoneNo) : (advanceCounts s).zone z = s.zone z :=
  congrArg (fun m : Vector ZoneRec 64 × Bool => m.1[z]) (advanceCounts_map s)

/-- A latch that waits is taken whole (R15, R16). -/
theorem cycleStart_latchTaken (pending : s.latchPending = true) (later : (cycleStart order s).cycle ≠ 0) :
    (cycleStart order s).latchPending = false ∧ (∀ z : ZoneNo, (cycleStart order s).zone z = { s.zone z with active := (s.zone z).working }) ∧
      ∀ (z : ZoneNo) (o : OpNo), (cycleStart order s).settleCount z o =
        if s.working z o ≠ s.active z o ∧ (s.oper o).tenancy ≠ .absent then s.settleTime else s.settleCount z o := by
  obtain ⟨m, before, done⟩ := latch_alone later
  have held : m.latchPending = true := before.latchPending.trans ((advanceCounts_latchPending s).trans pending)
  have zone (z : ZoneNo) : m.zone z = s.zone z := (before.zone z).trans (advanceCounts_zone s z)
  refine ⟨done.latchPending.trans (latchReaction_latchPending m), fun z => ?_, fun z o => ?_⟩
  · rw [done.zone, latchReaction_zone held, zone]
    rfl
  · have view := (before.view o).trans (advanceCounts_ownView s o)
    have oper : m.oper o = s.oper o := congrArg OwnView.oper view
    have time : m.settleTime = s.settleTime := congrArg OwnView.time view
    have count : m.settleCount z o = s.settleCount z o := congrFun (congrArg OwnView.settle view) z
    rw [done.settleCount, latchReaction_settleCount_of_pending held, State.working, State.active, zone, oper, time, count]
    rfl

/-- The state x with the fields that a latch and a cycle start write as they stand in t. -/
def latchedCycle (t x : State) : State :=
  ({ x with
    zones := t.zones, latchPending := t.latchPending, settle := t.settle, mark := t.mark, cycle := t.cycle, firstPending := t.firstPending
    downlink := t.downlink, shadows := t.shadows, links := t.links } : State).leaving t

theorem latchedCycle_of {t : State} (clear : t.latchPending = false) (up : t.mark = true) (started : t.firstPending = false) (x : State) :
    latchedCycle t x = ({ x with
      zones := t.zones, latchPending := false, settle := t.settle, mark := true, cycle := t.cycle, firstPending := false
      downlink := t.downlink, shadows := t.shadows, links := t.links } : State).leaving t := by
  rw [latchedCycle, clear, up, started]

theorem latchedCycle_react (t : State) {u : State} (later : u.cycle ≠ 0) (r : Reaction) : latchedCycle t (react u r) = latchedCycle t u := by
  by_cases superframe : r = .commit ∨ r = .protect ∨ r = .spread
  · rw [react_of_later later superframe]
  · refine react_reads (latchedCycle t) (fun _ _ => ?_) u
    cases r with
    | commit => exact absurd (.inl rfl) superframe
    | protect => exact absurd (.inr (.inl rfl)) superframe
    | spread => exact absurd (.inr (.inr rfl)) superframe
    | _ => rfl

/-- The counts of a cycle start that is no superframe start (R24). -/
theorem advanceCounts_of_later {β : Type} (g : State → β) (first : ∀ (x : State) (b : Bool), g { x with firstPending := b } = g x)
    (count : ∀ (x : State) (n : Nat), g { x with cycle := n } = g x) {s : State} (later : (advanceCounts s).cycle ≠ 0) :
    g (advanceCounts s) = g s := by
  unfold advanceCounts at later ⊢
  split
  · exact first ..
  · next second =>
    rw [if_neg second] at later
    split
    · exact count ..
    · next last =>
      rw [if_neg last] at later
      exact absurd rfl later

theorem cycleStart_latchedCycle (t : State) (later : (cycleStart order s).cycle ≠ 0) :
    latchedCycle t (cycleStart order s) = latchedCycle t s := by
  rw [cycleStart_cycle] at later
  rw [← advanceCounts_of_later (latchedCycle t) (fun _ _ => rfl) (fun _ _ => rfl) later]
  have kept := foldl_react_invariant (P := fun u => u.cycle ≠ 0 ∧ latchedCycle t u = latchedCycle t (advanceCounts s)) (l := effectiveOrder order)
    (fun u r _ ⟨cycle, same⟩ => ⟨(congrArg Standing.cycle (react_standing u r)).trans_ne cycle, (latchedCycle_react t cycle r).trans same⟩)
    ⟨later, rfl⟩
  exact kept.2

/-! ## At a superframe start -/

theorem working_of_map {t u : State} (same : t.map = u.map) (z : ZoneNo) (o : OpNo) : t.working z o = u.working z o :=
  congrArg (fun m : Vector ZoneRec 64 × Bool => m.1[z].working[o]) same

theorem latchPending_of_map {t u : State} (same : t.map = u.map) : t.latchPending = u.latchPending := congrArg Prod.snd same

/-- A latch before the Spread Engine's reaction copies the map as it stood (R17). -/
theorem cycleStart_latch_first (pending : s.latchPending = true) (first : (cycleStart order s).cycle = 0)
    (earlier : (effectiveOrder order).idxOf .latch < (effectiveOrder order).idxOf .spread) :
    (∀ (z : ZoneNo) (o : OpNo), (cycleStart order s).active z o = s.working z o ∧
      (s.working z o ≠ s.active z o → (s.oper o).tenancy ≠ .absent → ¬ (ownView s o).drops z →
        (cycleStart order s).settleCount z o = s.settleTime - 1)) ∧
    ((∀ o, (ownView s o).still) →
      (cycleStart order s).latchPending = false ∧ ∀ (z : ZoneNo) (o : OpNo), (cycleStart order s).working z o = s.working z o) := by
  rw [cycleStart_cycle] at first
  obtain ⟨m, n, before, between, done⟩ := latch_then_spread earlier s
  have zero : n.cycle = 0 :=
    between.cycle.trans ((congrArg Standing.cycle (react_standing m .latch)).trans (before.cycle.trans first))
  rw [react_spread_eq, if_pos zero] at done
  have held : m.latchPending = true := before.latchPending.trans ((advanceCounts_latchPending s).trans pending)
  have view (o : OpNo) := (before.view o).trans (advanceCounts_ownView s o)
  have working (z : ZoneNo) (o : OpNo) : m.working z o = s.working z o := congrFun (congrArg OwnView.working (view o)) z
  have latched (o : OpNo) : ∃ k : ZoneNo → Nat, ownView n o = { ownView s o with settle := k } := by
    obtain ⟨k, middle, -⟩ := latchReaction_view m o
    exact ⟨k, (between.view o).trans (middle.trans (by rw [view]))⟩
  refine ⟨fun z o => ⟨?_, fun changed stays spared => ?_⟩, fun still => ?_⟩
  · rw [done.active, spreadReaction_active, between.active, latchReaction_active_of_pending held, working]
  · have active : m.active z o = s.active z o := (before.active z o).trans (advanceCounts_active s z o)
    have oper : m.oper o = s.oper o := congrArg OwnView.oper (view o)
    have time : m.settleTime = s.settleTime := congrArg OwnView.time (view o)
    obtain ⟨k, middle⟩ := latched o
    have load : n.settleCount z o = s.settleTime := by
      rw [between.settleCount, latchReaction_settleCount_of_pending held, working, active, oper, if_pos ⟨changed, stays⟩, time]
    have loaded : k z = s.settleTime := (congrFun (congrArg OwnView.settle middle) z).symm.trans load
    rw [done.settleCount]
    exact ((spreadReaction_settle_of_view middle z).2 spared).trans (congrArg (· - 1) loaded)
  · have same : (spreadReaction n).map = n.map := spreadReaction_map fun o => by
      obtain ⟨k, middle⟩ := latched o
      rw [middle]
      exact still o
    refine ⟨?_, fun z o => ?_⟩
    · exact done.latchPending.trans ((latchPending_of_map same).trans (between.latchPending.trans (latchReaction_latchPending m)))
    · rw [done.working, working_of_map same, between.working, latchReaction_working, working]

/-- A latch after the Spread Engine's reaction copies its moves too (R17). -/
theorem cycleStart_latch_last (pending : s.latchPending = true) (first : (cycleStart order s).cycle = 0)
    (last : ¬ (effectiveOrder order).idxOf .latch < (effectiveOrder order).idxOf .spread) :
    (cycleStart order s).latchPending = false ∧
    (∀ (z : ZoneNo) (o : OpNo), (cycleStart order s).active z o = (cycleStart order s).working z o ∧
      ((cycleStart order s).active z o ≠ s.active z o → (s.oper o).tenancy ≠ .absent →
        (cycleStart order s).settleCount z o = s.settleTime)) ∧
    ((∀ o, (ownView s o).still) → ∀ (z : ZoneNo) (o : OpNo), (cycleStart order s).working z o = s.working z o) := by
  rw [cycleStart_cycle] at first
  obtain ⟨m, n, before, between, done⟩ := spread_then_latch last s
  have zero : m.cycle = 0 := before.cycle.trans first
  have standing := between.standing.trans (react_standing m .spread)
  have held : n.latchPending = true := between.latchPending.trans
    (react_staysPending (by decide) (before.latchPending.trans ((advanceCounts_latchPending s).trans pending)))
  rw [react_spread_eq, if_pos zero] at between
  have view (o : OpNo) := (before.view o).trans (advanceCounts_ownView s o)
  have copied (z : ZoneNo) (o : OpNo) : (cycleStart order s).active z o = n.working z o :=
    (done.active z o).trans (latchReaction_active_of_pending held z o)
  have working (z : ZoneNo) (o : OpNo) : (cycleStart order s).working z o = n.working z o :=
    (done.working z o).trans (latchReaction_working n z o)
  refine ⟨done.latchPending.trans (latchReaction_latchPending n), fun z o => ⟨(copied z o).trans (working z o).symm, fun changed stays => ?_⟩,
    fun still z o => ?_⟩
  · have active : n.active z o = s.active z o :=
      (between.active z o).trans ((spreadReaction_active m z o).trans ((before.active z o).trans (advanceCounts_active s z o)))
    have oper : n.oper o = s.oper o := (congrArg (fun f : Standing => f.ops[o]) standing).trans (congrArg OwnView.oper (view o))
    have time : n.settleTime = s.settleTime := (congrArg Standing.settleTime standing).trans (congrArg OwnView.time (view o))
    rw [copied, ← active] at changed
    rw [done.settleCount, latchReaction_settleCount_of_pending held, oper, if_pos ⟨changed, stays⟩, time]
  · have same : (spreadReaction m).map = m.map := spreadReaction_map fun o => by
      rw [view]
      exact still o
    rw [working, between.working, working_of_map same]
    exact congrFun (congrArg OwnView.working (view o)) z

end Latch

/-- Settles O34. -/
theorem latchTakenAtCycleStart : Obligations.LatchTakenAtCycleStart := by
  intro s order runs counts pending first drops moves
  have taken : exec (.cycleStart order) s = .next (endEvent s (cycleStart order s)) := next_congr (cycleBoundary_counts runs counts order)
  have standing := cycleStart_standing order s
  have ports : (cycleStart order s).ports = s.ports :=
    (congrArg Standing.ports standing).trans (advanceCounts_keeps State.ports (fun _ _ => rfl) (fun _ _ => rfl) (fun _ _ => rfl) s)
  have started := (congrArg Standing.firstPending standing).trans (advanceCounts_firstPending s)
  have pulse := cycleStart_mark_of_pending order pending
  have link := cycleStart_link order s
  have fixed (z : ZoneNo) := cycleStart_fixed (order := order) (s := s) z
  have queued (z : ZoneNo) (o : OpNo) := cycleStart_queued_of_active (order := order) pending (z := z) (o := o)
  have latched := cycleStart_latchTaken (order := order) pending
  have frame (t : State) := cycleStart_latchedCycle (order := order) (s := s) t
  have copiesFirst := cycleStart_latch_first (order := order) pending
  have copiesLast := cycleStart_latch_last (order := order) pending
  generalize cycleStart order s = c at *
  obtain ⟨t, ended⟩ : ∃ t, t = endEvent s c := ⟨_, rfl⟩
  rw [← ended] at taken
  have same : t.bare = c.bare := by rw [ended, endEvent_bare]
  have read {β : Type} (g : State → β) (hg : ∀ x : State, g x.bare = g x) : g t = g c := State.congr_bare g same hg
  have cycle : t.cycle = c.cycle := read State.cycle fun _ => rfl
  have zone (z : ZoneNo) : t.zone z = c.zone z := read (State.zone · z) fun _ => rfl
  have active (z : ZoneNo) (o : OpNo) : t.active z o = c.active z o := read (State.active · z o) fun _ => rfl
  have working (z : ZoneNo) (o : OpNo) : t.working z o = c.working z o := read (State.working · z o) fun _ => rfl
  have settle (z : ZoneNo) (o : OpNo) : t.settleCount z o = c.settleCount z o := read (State.settleCount · z o) fun _ => rfl
  have flag : t.latchPending = c.latchPending := read State.latchPending fun _ => rfl
  have mark : t.mark = true := (read State.mark fun _ => rfl).trans pulse
  have awaits (z : ZoneNo) (changed : ∃ o : OpNo, t.active z o ≠ s.active z o) : AwaitsAllocation t z := by
    obtain ⟨o, differs⟩ := changed
    rw [active] at differs
    rw [ended]
    exact endEvent_awaits (queued z o differs)
  have still (calm : ∀ o, ¬ moves o) (o : OpNo) : (ownView s o).still := not_or.mp (calm o)
  refine ⟨t, taken, mark, ?_, fun z heard => ?_, fun z => ?_, fun later => ?_, fun zero => ⟨fun earlier z o => ?_, fun last => ?_, awaits, fun calm => ?_⟩⟩
  · rw [ended, endEvent_ports', ports]
  · rw [read (State.link · z) fun _ => rfl, link, dwellCount_eq, if_neg heard]
  · refine ZoneRec.eq_of_fixed ?_
    rw [zone, fixed]
  · rw [cycle] at later
    obtain ⟨clear, copied, loaded⟩ := latched later
    refine ⟨⟨flag.trans clear, fun z => (zone z).trans (copied z), fun z o => (settle z o).trans (loaded z o), fun z changed => ?_⟩, ?_⟩
    · obtain ⟨o, differs⟩ := changed
      refine awaits z ⟨o, ?_⟩
      have copy : c.active z o = s.working z o := congrArg (fun r : ZoneRec => r.active[o]) (copied z)
      rw [active, copy]
      exact differs
    · have own : t = latchedCycle t s := (read (latchedCycle t) fun _ => rfl).trans (frame t later)
      exact own.trans (latchedCycle_of (flag.trans clear) mark ((read State.firstPending fun _ => rfl).trans started) s)
  · obtain ⟨copied, loaded⟩ := (copiesFirst (cycle ▸ zero) earlier).1 z o
    rw [active, settle]
    exact ⟨copied, fun changed stays spared => loaded changed stays fun h => spared h.symm⟩
  · obtain ⟨clear, copied, -⟩ := copiesLast (cycle ▸ zero) last
    refine ⟨flag.trans clear, fun z o => ?_⟩
    rw [active, working, settle]
    exact copied z o
  · by_cases earlier : first
    · obtain ⟨clear, kept⟩ := (copiesFirst (cycle ▸ zero) earlier).2 (still calm)
      exact ⟨flag.trans clear, fun z o => (working z o).trans (kept z o)⟩
    · obtain ⟨clear, -, kept⟩ := copiesLast (cycle ▸ zero) earlier
      exact ⟨flag.trans clear, fun z o => (working z o).trans (kept (still calm) z o)⟩

end Sys2Proof.Machine
end

section
/-! Slot filling from the active plan (R33 to R35), in one state. -/

namespace Sys2Proof.Machine

open Sys2Proof

/-! ## Lists in rising order -/

section Rising

variable {α : Type} [LinearOrder α] {l : List α} {n : α}

theorem mem_drop_one_of_rising (rising : l.Pairwise (· < ·)) : n ∈ l.drop 1 ↔ n ∈ l ∧ ∃ m, m < n ∧ m ∈ l := by
  cases l with
  | nil => simp
  | cons x l =>
    obtain ⟨above, -⟩ := List.pairwise_cons.mp rising
    rw [List.drop_one, List.tail_cons]
    constructor
    · intro late
      exact ⟨List.mem_cons_of_mem _ late, x, above n late, List.mem_cons_self⟩
    · rintro ⟨named, m, below, earlier⟩
      rcases List.mem_cons.mp named with rfl | late
      · rcases List.mem_cons.mp earlier with rfl | after
        · exact absurd below (lt_irrefl _)
        · exact absurd below (lt_asymm (above m after))
      · exact late

theorem head_of_rising (rising : l.Pairwise (· < ·)) (named : n ∈ l) (lowest : ∀ m, m < n → m ∉ l) : ∃ rest, l = n :: rest := by
  cases l with
  | nil => exact absurd named List.not_mem_nil
  | cons x l =>
    obtain ⟨above, -⟩ := List.pairwise_cons.mp rising
    rcases List.mem_cons.mp named with rfl | late
    · exact ⟨l, rfl⟩
    · exact absurd List.mem_cons_self (lowest x (above n late))

end Rising

/-! ## The entries of a slot -/

/-- Entry n of a spoke is enabled, names the slot and matches the cycle (R33, R34). -/
def takesSlot (entry : EntryNo → PlanEntry) (cycle : Nat) (slot : SlotNo) (n : EntryNo) : Prop :=
  (entry n).enabled = true ∧ (entry n).slot = slot ∧ cycle % 2 ^ (entry n).periodCode.val = (entry n).phase.val

/-- Entry n takes its slot in no cycle where a lower-numbered one does (R34). -/
def shadowedBy (entry : EntryNo → PlanEntry) (cycle : Nat) (n : EntryNo) : Prop :=
  takesSlot entry cycle (entry n).slot n ∧ ∃ m, m < n ∧ takesSlot entry cycle (entry n).slot m

section Spoke

variable (s : State) (spoke : SpokeNo)

theorem mem_gathered {slot : SlotNo} {n : EntryNo} : n ∈ gathered s spoke slot ↔ takesSlot (s.activeEntry spoke) s.cycle slot n := by
  simp only [gathered, matchingEntries, allEntries, List.mem_filter, List.mem_finRange, true_and, Bool.and_eq_true, matchesCycle, periodOf,
    decide_eq_true_eq, takesSlot]
  exact ⟨fun ⟨⟨enabled, phase⟩, names⟩ => ⟨enabled, names, of_decide_eq_true phase⟩,
    fun ⟨enabled, names, phase⟩ => ⟨⟨enabled, decide_eq_true phase⟩, names⟩⟩

theorem gathered_rising (slot : SlotNo) : (gathered s spoke slot).Pairwise (· < ·) :=
  ((List.pairwise_lt_finRange 64).filter _).filter _

theorem fillSlot_of_none {slot : SlotNo} (free : ∀ n, ¬ takesSlot (s.activeEntry spoke) s.cycle slot n) : fillSlot s spoke slot = none := by
  have empty : gathered s spoke slot = [] := List.eq_nil_iff_forall_not_mem.mpr fun n named => free n ((mem_gathered s spoke).mp named)
  rw [fillSlot, empty]

/-- The lowest-numbered entry that takes the slot wins it (R34). -/
theorem fillSlot_of_lowest {slot : SlotNo} {n : EntryNo} (takes : takesSlot (s.activeEntry spoke) s.cycle slot n)
    (lowest : ∀ m, m < n → ¬ takesSlot (s.activeEntry spoke) s.cycle slot m) :
    fillSlot s spoke slot = some (slotContent s spoke (s.activeEntry spoke n)) := by
  obtain ⟨rest, list⟩ := head_of_rising (gathered_rising s spoke slot) ((mem_gathered s spoke).mpr takes)
    fun m below named => lowest m below ((mem_gathered s spoke).mp named)
  rw [fillSlot, list]

theorem slotContent_eq (e : PlanEntry) : slotContent s spoke e = {
    position := e.position
    operator := e.operator
    stream := if carrying s (zoneAt spoke e.position) e.operator then s.active (zoneAt spoke e.position) e.operator else none
    grant := if carrying s (zoneAt spoke e.position) e.operator then s.grant (zoneAt spoke e.position) e.operator else 0 } := by
  unfold slotContent
  dsimp only
  split <;> rfl

/-! ## Shadows -/

/-- The shadow counter and mark of an entry after it is shadowed once more (R34). -/
def Shadow.counted (h : Shadow) : Shadow := { count := min (h.count + 1) 255, reported := true }

theorem shadowEntry_shadow (n : EntryNo) (a : SpokeNo) (b : EntryNo) : (shadowEntry s spoke n).shadow a b =
    if a = spoke ∧ b = n then Shadow.counted (s.shadow a b) else s.shadow a b := by
  have told (u : State) (m : Notice) : (file u [.vn] m).shadow a b = u.shadow a b := file_keeps (State.shadow · a b) (fun _ _ => rfl) ..
  have counts : (s.setShadow spoke n (Shadow.counted (s.shadow spoke n))).shadow a b =
      if a = spoke ∧ b = n then Shadow.counted (s.shadow a b) else s.shadow a b := by
    rw [setShadow_shadow]
    split
    · next here => rw [here.1, here.2]
    · rfl
  unfold shadowEntry
  dsimp only
  split
  · exact counts
  · exact (told ..).trans counts

/-- The entries of a spoke that another shadows, slot by slot. -/
def losers : List EntryNo := allSlots.flatMap fun slot => (gathered s spoke slot).drop 1

theorem mem_losers {n : EntryNo} : n ∈ losers s spoke ↔ shadowedBy (s.activeEntry spoke) s.cycle n := by
  simp only [losers, List.mem_flatMap, mem_drop_one_of_rising (gathered_rising s spoke _), mem_gathered]
  constructor
  · rintro ⟨slot, -, takes, earlier⟩
    obtain ⟨-, rfl, -⟩ := id takes
    exact ⟨takes, earlier⟩
  · exact fun shadowed => ⟨_, List.mem_finRange _, shadowed⟩

theorem losers_nodup : (losers s spoke).Nodup := by
  refine List.nodup_flatMap.mpr ⟨fun slot _ => ?_, ?_⟩
  · exact ((gathered_rising s spoke slot).imp ne_of_lt).sublist (List.drop_sublist 1 _)
  · refine (List.nodup_finRange 32).imp fun {a b} other n left right => other ?_
    obtain ⟨-, first, -⟩ := (mem_gathered s spoke).mp (List.mem_of_mem_drop left)
    obtain ⟨-, second, -⟩ := (mem_gathered s spoke).mp (List.mem_of_mem_drop right)
    exact first.symm.trans second

theorem shadowSpoke_eq : shadowSpoke s spoke = (losers s spoke).foldl (fun t n => shadowEntry t spoke n) s :=
  (List.foldl_flatMap ..).symm

theorem shadowSpoke_shadow (n : EntryNo) : (shadowSpoke s spoke).shadow spoke n =
    if n ∈ losers s spoke then Shadow.counted (s.shadow spoke n) else s.shadow spoke n := by
  rw [shadowSpoke_eq]
  exact foldl_rewrites (fun t n => t.shadow spoke n) (fun _ => Shadow.counted)
    (fun t m n => by simp only [shadowEntry_shadow, true_and]) (losers_nodup s spoke) s n

theorem shadowSpoke_shadow_ne {a : SpokeNo} (other : a ≠ spoke) (n : EntryNo) : (shadowSpoke s spoke).shadow a n = s.shadow a n := by
  rw [shadowSpoke_eq]
  exact foldl_keeps (State.shadow · a n) _ (fun t m => (shadowEntry_shadow t spoke m a n).trans (if_neg fun h => other h.1)) ..

end Spoke

/-- What slot filling reads and writes of one spoke. -/
structure SpokeView where
  shadow : EntryNo → Shadow
  entry : EntryNo → PlanEntry
  cycle : Nat

def spokeView (s : State) (spoke : SpokeNo) : SpokeView := ⟨s.shadow spoke, s.activeEntry spoke, s.cycle⟩

/-- Each shadowed entry is counted once and no other (R34). -/
structure Shadows (v w : SpokeView) : Prop where
  counted : ∀ n, shadowedBy v.entry v.cycle n → w.shadow n = Shadow.counted (v.shadow n)
  kept : ∀ n, ¬ shadowedBy v.entry v.cycle n → w.shadow n = v.shadow n

theorem shadowSpoke_view_ne (s : State) {spoke a : SpokeNo} (other : a ≠ spoke) : spokeView (shadowSpoke s spoke) a = spokeView s a := by
  have shadow : (shadowSpoke s spoke).shadow a = s.shadow a := funext (shadowSpoke_shadow_ne s spoke other)
  have rest : SpokeView.mk (s.shadow a) ((shadowSpoke s spoke).activeEntry a) (shadowSpoke s spoke).cycle = spokeView s a :=
    shadowSpoke_keeps (fun u => SpokeView.mk (s.shadow a) (u.activeEntry a) u.cycle) (fun _ _ => rfl) (fun _ _ => rfl) ..
  rw [spokeView, shadow]
  exact rest

theorem shadowSpoke_view (s : State) (spoke : SpokeNo) : Shadows (spokeView s spoke) (spokeView (shadowSpoke s spoke) spoke) where
  counted n shadowed := (shadowSpoke_shadow s spoke n).trans (if_pos ((mem_losers s spoke).mpr shadowed))
  kept n spared := (shadowSpoke_shadow s spoke n).trans (if_neg fun named => spared ((mem_losers s spoke).mp named))

theorem fillSlots_view (s : State) (spoke : SpokeNo) : Shadows (spokeView s spoke) (spokeView (fillSlots s) spoke) := by
  have folded : Shadows (spokeView s spoke) (spokeView (allSpokes.foldl shadowSpoke s) spoke) :=
    foldl_relates (read := spokeView) (R := Shadows) (fun u a b other => shadowSpoke_view_ne u other) shadowSpoke_view
      (List.nodup_finRange 8) (List.mem_finRange spoke) s
  unfold fillSlots
  generalize allSpokes.foldl shadowSpoke s = t at folded ⊢
  exact folded

/-! ## At a cycle start -/

section CycleStart

variable {order : List Reaction} {s : State}

/-- The shadows, the plan and the fields that no reaction writes. -/
def State.slotting (s : State) : Vector (Vector Shadow 64) 8 × (Vector (Vector PlanEntry 64) 8 × Bool × Option Stamp) × Standing :=
  (s.shadows, s.plan, s.standingFields)

theorem react_slotting (u : State) {r : Reaction} (commit : r ≠ .commit) (fill : r ≠ .fill) : (react u r).slotting = u.slotting := by
  rw [State.slotting, react_shadows commit fill, react_plan commit, react_standing]
  rfl

theorem spokeView_of_slotting {t u : State} (same : t.slotting = u.slotting) (spoke : SpokeNo) : spokeView t spoke = spokeView u spoke :=
  congrArg (fun g : Vector (Vector Shadow 64) 8 × (Vector (Vector PlanEntry 64) 8 × Bool × Option Stamp) × Standing =>
    SpokeView.mk (fun n => g.1[spoke][n]) (fun n => g.2.1.1[spoke][n]) g.2.2.cycle) same

theorem takeCommit_shadow (s : State) (spoke : SpokeNo) (n : EntryNo) : (takeCommit s).shadow spoke n = Shadow.reset := by
  have shadows : (takeCommit s).shadow spoke n = (Vector.replicate 8 (Vector.replicate 64 Shadow.reset))[spoke][n] :=
    (State.congr_bare (State.shadow · spoke n) (takeCommit_bare s) (fun _ => rfl)).trans rfl
  rw [shadows]
  simp

/-- What a spoke's shadows are counted from at a cycle start: reset by a commit that is taken there (R36). -/
theorem cycleStart_shadows (spoke : SpokeNo) : ∃ v : SpokeView, Shadows v (spokeView (cycleStart order s) spoke) ∧
    v.entry = (cycleStart order s).activeEntry spoke ∧ v.cycle = (cycleStart order s).cycle ∧
    ((s.commitPending = true ∧ (cycleStart order s).cycle = 0) → ∀ n, v.shadow n = Shadow.reset) ∧
    (¬ (s.commitPending = true ∧ (cycleStart order s).cycle = 0) → ∀ n, v.shadow n = s.shadow spoke n) := by
  obtain ⟨m, n, start, middle, done⟩ := two_turns State.slotting (commit_before_fill order) (fun u r => react_slotting u) s
  have advanced : spokeView (advanceCounts s) spoke = ⟨s.shadow spoke, s.activeEntry spoke, (advanceCounts s).cycle⟩ :=
    congrArg (fun g : (EntryNo → Shadow) × (EntryNo → PlanEntry) => SpokeView.mk g.1 g.2 (advanceCounts s).cycle)
      (advanceCounts_keeps (fun u => (u.shadow spoke, u.activeEntry spoke)) (fun _ _ => rfl) (fun _ _ => rfl) (fun _ _ => rfl) s)
  have found := (spokeView_of_slotting start spoke).trans advanced
  have pending : m.commitPending = s.commitPending := congrArg (fun g => g.2.1.2.1) start |>.trans (congrArg (fun p => p.2.1) (advanceCounts_plan s))
  have cycle : m.cycle = (cycleStart order s).cycle := (congrArg (fun g => g.2.2.cycle) start).trans (cycleStart_cycle order s).symm
  have shadows : Shadows (spokeView n spoke) (spokeView (cycleStart order s) spoke) := by
    rw [spokeView_of_slotting done]
    exact fillSlots_view n spoke
  have filled : (react n .fill).activeEntry spoke = n.activeEntry spoke := react_reads (State.activeEntry · spoke) (fun _ _ => rfl) n
  have entry : (spokeView n spoke).entry = (cycleStart order s).activeEntry spoke :=
    filled.symm.trans (congrArg SpokeView.entry (spokeView_of_slotting done spoke)).symm
  have count : (spokeView n spoke).cycle = (cycleStart order s).cycle := by
    rw [spokeView_of_slotting middle]
    exact (congrArg Standing.cycle (react_standing m .commit)).trans cycle
  refine ⟨spokeView n spoke, shadows, entry, count, fun ⟨waits, zero⟩ e => ?_, fun idle e => ?_⟩
  · have taken : react m .commit = { takeCommit m with mark := true } := commitReaction_of_pending (pending.trans waits) (cycle.trans zero)
    rw [spokeView_of_slotting middle, taken]
    exact takeCommit_shadow m spoke e
  · have same : react m .commit = m := commitReaction_of_idle (by
      rw [pending, cycle]
      by_cases waits : s.commitPending = true
      · exact .inr fun zero => idle ⟨waits, zero⟩
      · exact .inl (Bool.eq_false_iff.mpr waits))
    rw [spokeView_of_slotting middle, same, found]

end CycleStart

end Sys2Proof.Machine
end

section
/-! What slot filling sends at a cycle start (R30, R34, R35): O32. -/

namespace Sys2Proof.Machine

open Sys2Proof

/-! ## Lanes -/

/-- Which lanes carry, where they are bound and what they are granted. -/
def State.lanes (s : State) : (ZoneNo → OpNo → Bool) × (ZoneNo → OpNo → Option SectorNo) × (ZoneNo → OpNo → Nat) :=
  (carrying s, s.active, s.grant)

theorem provisioned_of_fixed {r q : ZoneRec} (same : r.fixed = q.fixed) : r.provisioned = q.provisioned := by
  show r.fixed.provisioned = q.fixed.provisioned
  rw [same]

/-- A zone does not become live or dark at a cycle start. -/
theorem live_react (u : State) (r : Reaction) (z : ZoneNo) : live (react u r) z = live u z := by
  have provisioned : ((react u r).zone z).provisioned = (u.zone z).provisioned := provisioned_of_fixed (react_fixed u r z)
  by_cases dwell : r = .dwell
  · subst dwell
    have link : (react u .dwell).link z = (u.link z).dwellCount := countDwells_link u z
    rw [live, live, provisioned, link, dwellCount_eq]
    cases state : (u.link z).state with
    | lost =>
      rw [if_pos rfl]
      split <;> simp [heard]
    | _ => rw [if_neg (by decide), state]
  · have links := react_links (s := u) dwell
    exact live_of_link provisioned (congrArg (fun v : Vector LinkRec 64 => v[z].state) links)

/-- What the lanes depend on besides the links. -/
structure LaneInputs where
  transport : Transport
  prot : Vector (Vector ProtRec 6) 64
  modes : Vector ClassMode 6
  ops : Vector OpRec 4
  zones : Vector ZoneRec 64
  plan : Vector (Vector PlanEntry 64) 8
  grants : Vector (Vector Nat 4) 64

def State.laneInputs (s : State) : LaneInputs := ⟨s.transport, s.prot, s.modes, s.ops, s.zones, s.activePlan, s.grants⟩

theorem lanes_of_inputs {t u : State} (inputs : t.laneInputs = u.laneInputs) (lives : ∀ z, live t z = live u z) : t.lanes = u.lanes := by
  simp only [State.laneInputs, LaneInputs.mk.injEq] at inputs
  obtain ⟨transport, prot, modes, ops, zones, plan, grants⟩ := inputs
  have active : t.active = u.active := by
    funext z o
    simp only [State.active, State.zone, zones]
  have grant : t.grant = u.grant := by
    funext z o
    simp only [State.grant, grants]
  have carries : carrying t = carrying u := by
    funext z o
    have mutes : muted t z = muted u z := muted_of_records (fun p => by simp only [State.protRec, prot]) modes
    exact carrying_local transport (lives z) mutes (oper_of_ops ops o) (congrFun (congrFun active z) o) (slotted_of_plan plan z o)
  rw [State.lanes, carries, active, grant, State.lanes]

/-- In a cycle other than 0 the latch alone reaches the lanes. -/
theorem react_lanes {u : State} {r : Reaction} (later : u.cycle ≠ 0) (other : r ≠ .latch) : (react u r).lanes = u.lanes := by
  cases r with
  | latch => exact absurd rfl other
  | commit => rw [react_of_later later (.inl rfl)]
  | protect => rw [react_of_later later (.inr (.inl rfl))]
  | spread => rw [react_of_later later (.inr (.inr rfl))]
  | fill => exact lanes_of_inputs (react_reads State.laneInputs (fun _ _ => rfl) u) (live_react u .fill)
  | dwell => exact lanes_of_inputs (react_reads State.laneInputs (fun _ _ => rfl) u) (live_react u .dwell)

theorem advanceCounts_live (s : State) (z : ZoneNo) : live (advanceCounts s) z = live s z :=
  advanceCounts_keeps (live · z) (fun _ _ => rfl) (fun _ _ => rfl) (fun _ _ => rfl) s

theorem advanceCounts_lanes (s : State) : (advanceCounts s).lanes = s.lanes :=
  lanes_of_inputs (advanceCounts_keeps State.laneInputs (fun _ _ => rfl) (fun _ _ => rfl) (fun _ _ => rfl) s) (advanceCounts_live s)

/-! ## The turn of slot filling -/

section Turn

variable {order ahead behind : List Reaction} {r x : Reaction} {s : State}

/-- What one other reaction writes stands at a turn as it ends, or as it began. -/
theorem Turn.early_or_late {β : Type} (turn : Turn order r ahead behind) (g : State → β) (apart : r ≠ x)
    (others : ∀ (u : State) (y : Reaction), u.cycle = (advanceCounts s).cycle → y ≠ x → g (react u y) = g u) :
    (x ∈ ahead ∧ g (ahead.foldl react (advanceCounts s)) = g (cycleStart order s)) ∨
      (x ∉ ahead ∧ g (ahead.foldl react (advanceCounts s)) = g (advanceCounts s)) := by
  have keeps {l : List Reaction} (absent : x ∉ l) {u : State} (cycle : u.cycle = (advanceCounts s).cycle) : g (l.foldl react u) = g u :=
    (foldl_react_invariant (P := fun v => v.cycle = (advanceCounts s).cycle ∧ g v = g u)
      (fun v y named ⟨count, same⟩ => ⟨(congrArg Standing.cycle (react_standing v y)).trans count,
        (others v y count (ne_of_notMem absent named)).trans same⟩) ⟨cycle, rfl⟩).2
  by_cases early : x ∈ ahead
  · have cycle := ahead_cycle ahead s
    have whole := turn.cycleStart_eq s
    generalize ahead.foldl react (advanceCounts s) = m at *
    refine .inl ⟨early, ?_⟩
    rw [whole, keeps (turn.not_behind early) ((congrArg Standing.cycle (react_standing m r)).trans cycle)]
    exact (others m r cycle apart).symm
  · exact .inr ⟨early, keeps early rfl⟩

end Turn

/-- The state m from which slot filling sends at the cycle start of s that ends in t. -/
structure FillsFrom (order : List Reaction) (s t m : State) : Prop where
  plan : m.activePlan = t.activePlan
  cycle : m.cycle = t.cycle
  falls : ∀ z o, t.grant z o ≤ m.grant z o ∧ m.grant z o ≤ s.grant z o
  active : ∀ z o, m.active z o = t.active z o ∨ m.active z o = s.active z o
  later : t.cycle ≠ 0 → m.lanes = (if (effectiveOrder order).idxOf .latch < (effectiveOrder order).idxOf .fill then t else s).lanes
  carries : ∀ z o, carrying s z o = true → carrying t z o = true → s.active z o = t.active z o → carrying m z o = true

/-- A lane that carries before and after, on one binding, carries at the turn of slot filling. -/
theorem Turn.carries {order ahead behind : List Reaction} (turn : Turn order .fill ahead behind) {s : State} {z : ZoneNo} {o : OpNo}
    (plan : (ahead.foldl react (advanceCounts s)).activePlan = (cycleStart order s).activePlan)
    (active : (ahead.foldl react (advanceCounts s)).active z o = s.active z o) (before : carrying s z o = true)
    (after : carrying (cycleStart order s) z o = true) : carrying (ahead.foldl react (advanceCounts s)) z o = true := by
  obtain ⟨-, -, unmuted, -, -, slot⟩ := carrying_live before
  obtain ⟨-, -, unmuted', -, -, slot'⟩ := carrying_live after
  have standing : (ahead.foldl react (advanceCounts s)).standingFields = (advanceCounts s).standingFields := foldl_react_standing ahead _
  have own : ((advanceCounts s).transport, (advanceCounts s).ops, (advanceCounts s).modes) = (s.transport, s.ops, s.modes) :=
    advanceCounts_keeps (fun u => (u.transport, u.ops, u.modes)) (fun _ _ => rfl) (fun _ _ => rfl) (fun _ _ => rfl) s
  have lives : live (ahead.foldl react (advanceCounts s)) z = live s z :=
    (foldl_react_keeps (live · z) (fun u r _ => live_react u r z) _).trans (advanceCounts_live s z)
  have mutes : muted (ahead.foldl react (advanceCounts s)) z = false := by
    have modes := (congrArg Standing.modes standing)
    rcases turn.early_or_late (x := .protect) (s := s) State.prot (by decide) (fun u y _ other => react_prot other) with ⟨-, prot⟩ | ⟨-, prot⟩
    · refine (muted_of_records (fun p => ?_) ?_).trans unmuted'
      · exact congrArg (fun v : Vector (Vector ProtRec 6) 64 => v[z][p].state) prot
      · exact modes.trans (congrArg Standing.modes (cycleStart_standing order s)).symm
    · have start : (advanceCounts s).prot = s.prot := advanceCounts_keeps State.prot (fun _ _ => rfl) (fun _ _ => rfl) (fun _ _ => rfl) s
      refine (muted_of_records (fun p => ?_) ?_).trans unmuted
      · exact congrArg (fun v : Vector (Vector ProtRec 6) 64 => v[z][p].state) (prot.trans start)
      · exact modes.trans (congrArg (fun p => p.2.2) own)
  have same : carrying (ahead.foldl react (advanceCounts s)) z o = carrying s z o :=
    carrying_local ((congrArg Standing.transport standing).trans (congrArg Prod.fst own)) lives (mutes.trans unmuted.symm)
      (oper_of_ops ((congrArg Standing.ops standing).trans (congrArg (fun p => p.2.1) own)) o) active
      ((slotted_of_plan plan z o).trans (slot'.trans slot.symm))
  exact same.trans before

theorem Turn.fillsFrom {order ahead behind : List Reaction} (turn : Turn order .fill ahead behind) (s : State) :
    FillsFrom order s (cycleStart order s) (ahead.foldl react (advanceCounts s)) := by
  have plan : (ahead.foldl react (advanceCounts s)).activePlan = (cycleStart order s).activePlan := by
    have early : Reaction.commit ∈ ahead := turn.mem_ahead_iff.mpr (commit_before_fill order)
    rcases turn.early_or_late (x := .commit) (s := s) State.plan (by decide) (fun u y _ other => react_plan other) with ⟨-, same⟩ | ⟨late, -⟩
    · exact congrArg Prod.fst same
    · exact absurd early late
  have active (z : ZoneNo) (o : OpNo) := turn.early_or_late (x := .latch) (s := s) (State.active · z o) (by decide)
    (fun u y _ other => react_active u other z o)
  have start (z : ZoneNo) (o : OpNo) := advanceCounts_active s z o
  refine ⟨plan, (ahead_cycle ahead s).trans (cycleStart_cycle order s).symm, fun z o => ⟨?_, ?_⟩, fun z o => ?_, fun later => ?_,
    fun z o before after same => ?_⟩
  · rw [turn.cycleStart_eq, ← List.foldl_cons]
    exact (foldl_powerMove react_move (.fill :: behind) _).falls z o
  · exact ((foldl_powerMove react_move ahead _).falls z o).trans_eq
      (congrArg (fun l => l.2.2 z o) (advanceCounts_lanes s))
  · exact (active z o).imp And.right fun late => late.2.trans (start z o)
  · rw [cycleStart_cycle] at later
    rcases turn.early_or_late (x := .latch) (s := s) State.lanes (by decide) (fun u y cycle other => react_lanes (cycle.trans_ne later) other)
      with ⟨early, lanes⟩ | ⟨late, lanes⟩
    · rw [if_pos (turn.mem_ahead_iff.mp early), lanes]
    · rw [if_neg fun early => late (turn.mem_ahead_iff.mpr early), lanes, advanceCounts_lanes]
  · refine turn.carries plan ?_ before after
    exact (active z o).elim (fun early => early.2.trans same.symm) fun late => late.2.trans (start z o)

end Sys2Proof.Machine
end

section
/-! Slot filling at every cycle start (R30, R33 to R36): O32. -/

namespace Sys2Proof.Machine

open Sys2Proof

/-! ## What a slot sends -/

section Fills

variable {order : List Reaction} {s t m : State}

theorem FillsFrom.congr {c : State} (fills : FillsFrom order s c m) (plan : t.activePlan = c.activePlan) (cycle : t.cycle = c.cycle)
    (lanes : t.lanes = c.lanes) : FillsFrom order s t m := by
  have carries : carrying t = carrying c := congrArg Prod.fst lanes
  have active : t.active = c.active := congrArg (fun l => l.2.1) lanes
  have grant : t.grant = c.grant := congrArg (fun l => l.2.2) lanes
  refine ⟨fills.plan.trans plan.symm, fills.cycle.trans cycle.symm, ?_, ?_, fun later => ?_, ?_⟩
  · rw [grant]
    exact fills.falls
  · rw [active]
    exact fills.active
  · rw [fills.later (cycle ▸ later)]
    split
    · exact lanes.symm
    · rfl
  · rw [carries, active]
    exact fills.carries

theorem FillsFrom.entry (fills : FillsFrom order s t m) (spoke : SpokeNo) : m.activeEntry spoke = t.activeEntry spoke := by
  funext n
  simp only [State.activeEntry, fills.plan]

/-- A slot sends by the lanes of its state alone (R35). -/
theorem slotContent_of_lanes {u : State} (lanes : m.lanes = u.lanes) (spoke : SpokeNo) (e : PlanEntry) :
    (slotContent m spoke e).stream = (if carrying u (zoneAt spoke e.position) e.operator then u.active (zoneAt spoke e.position) e.operator else none) ∧
      (slotContent m spoke e).grant = if carrying u (zoneAt spoke e.position) e.operator then u.grant (zoneAt spoke e.position) e.operator else 0 := by
  have carries : carrying m = carrying u := congrArg Prod.fst lanes
  have active : m.active = u.active := congrArg (fun l => l.2.1) lanes
  have grant : m.grant = u.grant := congrArg (fun l => l.2.2) lanes
  rw [slotContent_eq, carries, active, grant]
  exact ⟨rfl, rfl⟩

/-- At a superframe start what a slot sends lies between the lane before and after the start (R35). -/
theorem FillsFrom.content (fills : FillsFrom order s t m) (spoke : SpokeNo) (e : PlanEntry) {z : ZoneNo} {o : OpNo}
    (zone : zoneAt spoke e.position = z) (operator : e.operator = o) :
    ((slotContent m spoke e).stream = none → (slotContent m spoke e).grant = 0) ∧
      ((slotContent m spoke e).stream ≠ none →
        ((slotContent m spoke e).stream = s.active z o ∨ (slotContent m spoke e).stream = t.active z o) ∧
          t.grant z o ≤ (slotContent m spoke e).grant ∧ (slotContent m spoke e).grant ≤ s.grant z o) ∧
      (carrying s z o = true → carrying t z o = true → s.active z o = t.active z o → (slotContent m spoke e).stream = s.active z o) := by
  subst zone operator
  rw [slotContent_eq]
  dsimp only
  by_cases carries : carrying m (zoneAt spoke e.position) e.operator = true
  · rw [if_pos carries, if_pos carries]
    have active := fills.active (zoneAt spoke e.position) e.operator
    refine ⟨fun unbound => ?_, fun _ => ⟨active.symm, fills.falls _ _⟩, fun _ _ same => active.elim (fun h => h.trans same.symm) id⟩
    obtain ⟨-, -, -, -, serves, -⟩ := carrying_live carries
    rw [unbound] at serves
    exact absurd serves Bool.false_ne_true
  · rw [if_neg carries, if_neg carries]
    exact ⟨fun _ => rfl, fun bound => absurd rfl bound, fun before after same => absurd (fills.carries _ _ before after same) carries⟩

end Fills

/-! ## A quiet cycle -/

section Quiet

variable {order : List Reaction} {s : State}

/-- The state x with the fields that slot filling, the dwells and the counts write as they stand in t. -/
def quietCycle (t x : State) : State :=
  { x with
    cycle := t.cycle, firstPending := t.firstPending, downlink := t.downlink, shadows := t.shadows, links := t.links, notices := t.notices }

/-- With no latch waiting, a cycle other than 0 changes the counts, the downlink, the shadows, the dwells and VN's queue alone. -/
theorem cycleStart_quietCycle (t : State) (clear : s.latchPending = false) (later : (cycleStart order s).cycle ≠ 0) :
    quietCycle t (cycleStart order s) = quietCycle t s := by
  have same := cycleStart_quiet (s := s) order (quietCycle t) (fun u => react_reads (quietCycle t) (fun _ _ => rfl) u)
    (fun u => react_reads (quietCycle t) (fun _ _ => rfl) u) clear later
  rw [cycleStart_cycle] at later
  exact same.trans (advanceCounts_of_later (quietCycle t) (fun _ _ => rfl) (fun _ _ => rfl) later)

/-- SHADOWED goes to VN alone (R34). -/
theorem fillSlots_noticeQueue_op (u : State) (o : OpNo) : (fillSlots u).noticeQueue (.op o) = u.noticeQueue (.op o) := by
  have entry (v : State) (spoke : SpokeNo) (n : EntryNo) : (shadowEntry v spoke n).noticeQueue (.op o) = v.noticeQueue (.op o) := by
    unfold shadowEntry
    dsimp only
    split
    · rfl
    · exact file_noticeQueue_of_notMem _ _ (by simp)
  have spoke (v : State) (spoke : SpokeNo) : (shadowSpoke v spoke).noticeQueue (.op o) = v.noticeQueue (.op o) := by
    rw [shadowSpoke_eq]
    exact foldl_keeps (State.noticeQueue · (.op o)) _ (fun w n => entry w spoke n) ..
  have folded := foldl_keeps (State.noticeQueue · (.op o)) shadowSpoke spoke allSpokes u
  unfold fillSlots
  generalize allSpokes.foldl shadowSpoke u = t at folded ⊢
  exact folded

theorem cycleStart_noticeQueue_op (clear : s.latchPending = false) (later : (cycleStart order s).cycle ≠ 0) (o : OpNo) :
    (cycleStart order s).noticeQueue (.op o) = s.noticeQueue (.op o) :=
  (cycleStart_quiet (s := s) order (State.noticeQueue · (.op o)) (fun u => fillSlots_noticeQueue_op u o)
    (fun u => react_reads (State.noticeQueue · (.op o)) (fun _ _ => rfl) u) clear later).trans
    (advanceCounts_keeps (State.noticeQueue · (.op o)) (fun _ _ => rfl) (fun _ _ => rfl) (fun _ _ => rfl) s)

/-- Such a cycle brings the Allocation Engine no work. -/
theorem endEvent_of_quiet (clear : s.latchPending = false) (later : (cycleStart order s).cycle ≠ 0) :
    endEvent s (cycleStart order s) = cycleStart order s := by
  have same := cycleStart_quiet (s := s) order (fun u => (u.realloc, u.previews)) (fun u => react_reads (fun u => (u.realloc, u.previews)) (fun _ _ => rfl) u)
    (fun u => react_reads (fun u => (u.realloc, u.previews)) (fun _ _ => rfl) u) clear later
  have whole := same.trans (advanceCounts_keeps (fun u => (u.realloc, u.previews)) (fun _ _ => rfl) (fun _ _ => rfl) (fun _ _ => rfl) s)
  exact endEvent_quiet (congrArg Prod.fst whole) (congrArg Prod.snd whole)

end Quiet

theorem slots_ofFn (f : SpokeNo → SlotNo → Option SlotSend) (spoke : SpokeNo) (slot : SlotNo) :
    ((Vector.ofFn fun a => Vector.ofFn (f a))[spoke])[slot] = f spoke slot := by simp

/-- Settles O32. -/
theorem slotsFilledFromActivePlan : Obligations.SlotsFilledFromActivePlan := by
  intro s order runs counts
  obtain ⟨ahead, behind, turn⟩ := exists_turn order .fill
  have taken : exec (.cycleStart order) s = .next (endEvent s (cycleStart order s)) := next_congr (cycleBoundary_counts runs counts order)
  have sends := turn.downlink s
  have fills := turn.fillsFrom s
  have shadows (spoke : SpokeNo) := cycleStart_shadows (order := order) (s := s) spoke
  have commits (pending : s.commitPending = true) (first : (cycleStart order s).cycle = 0) := (cycleStart_plan_of_commit pending first).1
  have idles := cycleStart_plan_of_idle (s := s) (order := order)
  have started : (cycleStart order s).firstPending = false := (congrArg Standing.firstPending (cycleStart_standing order s)).trans (advanceCounts_firstPending s)
  have link := cycleStart_link order s
  have quiet := fun t => cycleStart_quietCycle (order := order) (s := s) t
  have queues := cycleStart_noticeQueue_op (order := order) (s := s)
  have calm := endEvent_of_quiet (order := order) (s := s)
  generalize cycleStart order s = c at *
  generalize ahead.foldl react (advanceCounts s) = m at *
  obtain ⟨t, ended⟩ : ∃ t, t = endEvent s c := ⟨_, rfl⟩
  rw [← ended] at taken calm
  have same : t.bare = c.bare := by rw [ended, endEvent_bare]
  have read {β : Type} (g : State → β) (hg : ∀ x : State, g x.bare = g x) : g t = g c := State.congr_bare g same hg
  have cycle : t.cycle = c.cycle := read State.cycle fun _ => rfl
  have plan : t.plan = c.plan := read State.plan fun _ => rfl
  have lanes : t.lanes = c.lanes := by
    have carries : carrying t = carrying c := funext fun z => funext (carrying_congr same z)
    have active : t.active = c.active := read State.active fun _ => rfl
    have grants : t.grants = c.grants := by rw [ended, endEvent_grants]
    have grant : t.grant = c.grant := by
      funext z o
      simp only [State.grant, grants]
    rw [State.lanes, carries, active, grant, State.lanes]
  have fills := fills.congr (congrArg Prod.fst plan) cycle lanes
  have downlink := (read State.downlink fun _ => rfl).trans sends
  have view (spoke : SpokeNo) : spokeView t spoke = spokeView c spoke := read (spokeView · spoke) fun _ => rfl
  refine ⟨t, _, taken, downlink, ?_, fun spoke slot => ?_, fun spoke n => ?_, fun later clear => ?_⟩
  · by_cases committed : s.commitPending = true ∧ t.cycle = 0
    · exact (congrArg Prod.fst (plan.trans (commits committed.1 (cycle ▸ committed.2)))).trans (if_pos committed).symm
    · have idle : s.commitPending = false ∨ c.cycle ≠ 0 := by
        rw [← cycle, ← Bool.not_eq_true]
        exact not_and_or.mp committed
      exact (congrArg Prod.fst (plan.trans (idles idle))).trans (if_neg committed).symm
  · have filled := slots_ofFn (fillSlot m) spoke slot
    have entry := fills.entry spoke
    refine ⟨fun free => filled.trans (fillSlot_of_none m spoke ?_), fun n takes lowest => ⟨slotContent m spoke (t.activeEntry spoke n), ?_, ?_, ?_, ?_⟩⟩
    · rw [entry, fills.cycle]
      exact free
    · have winner : fillSlot m spoke slot = some (slotContent m spoke (m.activeEntry spoke n)) := by
        apply fillSlot_of_lowest <;> rw [entry, fills.cycle]
        · exact takes
        · exact lowest
      rw [← entry]
      exact filled.trans winner
    · rw [slotContent_eq]
    · rw [slotContent_eq]
    · exact ⟨fun later => slotContent_of_lanes (fills.later later) spoke _, fun _ => fills.content spoke _ rfl rfl⟩
  · obtain ⟨v, counted, entry, count, reset, kept⟩ := shadows spoke
    rw [← view] at counted
    have before : v.shadow n = if s.commitPending = true ∧ t.cycle = 0 then { count := 0, reported := false } else s.shadow spoke n := by
      rw [cycle]
      split
      · next committed => exact reset committed n
      · next idle => exact kept idle n
    have same : shadowedBy v.entry v.cycle n ↔ shadowedBy (t.activeEntry spoke) t.cycle n := by
      have entries : t.activeEntry spoke = c.activeEntry spoke := congrArg SpokeView.entry (view spoke)
      rw [entry, count, cycle, entries]
    exact ⟨fun shadowed => (counted.counted n (same.mpr shadowed)).trans (congrArg Shadow.counted before),
      fun spared => (counted.kept n fun shadowed => spared (same.mp shadowed)).trans before⟩
  · rw [cycle] at later
    obtain rfl : t = c := calm clear later
    refine ⟨?_, fun z heard => ?_, queues clear later⟩
    · have frame : t = quietCycle t s := quiet t clear later
      rw [quietCycle, started, downlink] at frame
      exact frame
    · rw [link, dwellCount_eq, if_neg heard]

end Sys2Proof.Machine
end
